-- ==== Sys2Proof/Word.lean ====
section
/-! DEFINITION. The words of the JX-1208: bytes of the link and the data lines, names of ports and bridges, sets,
stamps and samples (spec/00_scope.md 3.2, 3.5). -/

namespace Sys2Proof

/-- A byte of the supervisory link or of a unit report. -/
abbrev Byte := BitVec 8

/-- A two-byte quantity: a unit ID, a setting of two bytes, a sample slot. -/
abbrev Half := BitVec 16

/-- An arrival stamp, the bid counter, the directory frame count: 32 bits that wrap (R36, R70). -/
abbrev Stamp := BitVec 32

/-- RP0 to RP11. -/
abbrev PortId := Fin 12

/-- B0 to B7. -/
abbrev BridgeId := Fin 8

/-- A notice source, numbered as R171 numbers them. -/
abbrev Source := Fin 22

/-- A set of radio ports: bit n stands for RPn (R189). -/
abbrev PortSet := BitVec 12

/-- A set of bridges: bit n stands for Bn (R189). -/
abbrev BridgeSet := BitVec 8

/-- The fault flags of one source, or their mask bits: bit n is flag n of R171. -/
abbrev FlagSet := BitVec 6

/-- A unit identity as carried: 1 to 65534 are valid (R24). -/
abbrev UnitId := Half

/-- A sample: a signed integer, -32768 to 32767 (spec/00_scope.md 3.2). -/
abbrev Sample := Int

/-- The twelve radio ports in port order. -/
def allPorts : List PortId := [0, 1, 2, 3, 4, 5, 6, 7, 8, 9, 10, 11]

/-- The eight bridges in bridge order. -/
def allBridges : List BridgeId := [0, 1, 2, 3, 4, 5, 6, 7]

end Sys2Proof
end

