-- ==== Sys2Proof/Syntax.lean ====
section
/-! DEFINITION. The commands of the JX-1208: one constructor for each row of spec/opcode_table.json, in its order. A
request carries its payload fields AS CARRIED on the link (spec/11 R190), so every value the field can carry is an operand. -/

namespace Sys2Proof

/-- The 24 bytes of a port setup as PORT_SETUP carries them, in the order of R1 (R190). -/
structure SetupFields where
  qualify : Byte
  csPolarity : Byte
  csDebounce : Byte
  voxThreshold : Half
  voxHold : Byte
  rxGain : Half
  txGain : Half
  keyPolarity : Byte
  lead : Byte
  hang : Byte
  blank : Byte
  keyLimit : Half
  cooldown : Byte
  priority : Byte
  homeAgency : Byte
  homeRole : Byte
  dataLine : Byte
  dataRate : Byte
  dataParity : Byte
  presencePolarity : Byte
  deriving DecidableEq, Repr

/-- The 16 bytes of a bridge record as PLAN_EDIT carries them (R190). -/
structure RecordFields where
  members : Half
  destinations : Half
  alertOnly : Half
  preempt : Byte
  override : Byte
  duck : Byte
  duckGain : Half
  talkLimit : Half
  alertLength : Byte
  alertGain : Half
  deriving DecidableEq, Repr

/-- The 6 bytes of a watch rule as WATCH_SET carries them (R190). -/
structure RuleFields where
  enabled : Byte
  agencyCompare : Byte
  agencyCare : Byte
  roleCompare : Byte
  roleCare : Byte
  bridges : Byte
  deriving DecidableEq, Repr

/-- The 8 bytes of MIXER_SETUP (R190). -/
structure MixerFields where
  rate : Byte
  rounding : Byte
  amplitude : Half
  p1 : Byte
  p2 : Byte
  conGain : Half
  deriving DecidableEq, Repr

/-- Which counts of a frame completion are taken after the events that the completion brings (R30, R89, R110: either
order may come; log entry 6): the talk timers of these bridges, the key machines of these ports, and the turning on of
the VOX detectors of these ports. -/
structure Late where
  timers : BridgeSet
  keys : PortSet
  vox : PortSet
  deriving DecidableEq, Repr

/-- A command of the JX-1208. -/
inductive Instr where
  | describe
  | portSetup (port : Byte) (fields : SetupFields)
  | portRead (port : Byte)
  | portStart (port : Byte)
  | portStop (port : Byte)
  | manualKey (port level : Byte)
  | planEdit (bridge : Byte) (fields : RecordFields)
  | planRead (plan bridge : Byte)
  | planCopy
  | planSwitch
  /-- The pending switch is made at a frame start. -/
  | planSwitchMade
  | bridgeRead (bridge : Byte)
  | clearBridges
  | unitEnter (unit : Half) (agency role override : Byte)
  | unitRemove (unit : Half)
  /-- Form 0 carries a unit ID in its two bytes, form 1 a set and a way. -/
  | unitRead (form first second : Byte)
  | purgeLearned
  | watchSet (rule : Byte) (fields : RuleFields)
  | watchRead (rule : Byte)
  | emergencyDeclare (port : Byte)
  | emergencyClear (port : Byte)
  | consoleTalk (bridges : BridgeSet)
  | consoleRelease
  | consoleMonitor (mask : BridgeSet) (gains : Vector Half 8)
  | mixerSetup (fields : MixerFields)
  | mixerHalt
  | mixerRun
  | faultClear (source flags : Byte)
  | maskSet (source mask switch : Byte)
  /-- A whole frame with a good check whose kind names no request. -/
  | unknownKind (kind : Byte) (payload : List Byte)
  | linkByteTaken (byte : Byte)
  | linkGapTimeout
  | replyTransmit
  | deviceNotice
  | consoleNotice
  | bridgeNotice (bridge : BridgeId)
  | portNotice (port : PortId)
  | linkTransmissionEnd
  | reset
  /-- RESET is released with these levels on the strap pins (true is high). -/
  | resetRelease (rate1 rate0 : Bool)
  | frameStart
  /-- One sample period: slots 0 to 11 are RP0 to RP11, slot 12 is the console. -/
  | mixSample (slots : Vector Half 13)
  | alertHalfPeriod (bridge : BridgeId)
  /-- The CS and PRES lines as sampled (bit n is line n, 1 is high). -/
  | frameCompletion (cs pres : PortSet) (late : Late)
  | alertSegmentChange (bridge : BridgeId)
  | burstEnd (bridge : BridgeId)
  | presenceTaken (port : PortId)
  | carrierTaken (port : PortId)
  | voxHoldExpiry (port : PortId)
  /-- A character on DATAn with its data bits, its parity bit (of no account with parity none) and its stop bit. -/
  | dataCharacter (port : PortId) (data : Byte) (parity stop : Bool)
  | assemblyAgeExpiry (port : PortId)
  | ident (port : PortId) (unit : UnitId)
  | emerg (port : PortId) (unit : UnitId)
  | emergClear (port : PortId) (unit : UnitId)
  | pendingIdentityExpiry (port : PortId)
  | talkTimerExpiry (bridge : BridgeId)
  | drainEnd (port : PortId)
  | hangEnd (port : PortId)
  | blankEnd (port : PortId)
  | keyLimit (port : PortId)
  | coolBlankEnd (port : PortId)
  | cooldownEnd (port : PortId)
  | dataLineWaitEnd (port : PortId)
  | linkCharacterDiscarded
  | linkLineWaitEnd
  deriving DecidableEq, Repr

end Sys2Proof
end

