-- ==== Sys2Proof/Decode.lean ====
section
/-! DEFINITION. The decoder of table words. No row of spec/opcode_table.json gives bits: the part's commands are events
of its lines, not words of an instruction memory, so no word spells a command (log entry 14). The bytes of the link and of
the data lines are read by Sys2Proof.Machine (Operands.lean, Requests.lean, Reports.lean). -/

namespace Sys2Proof

/-- The command that a word spells by the table's bits: none, since no row has bits. -/
def decodeTableWord (_nbits _w : Nat) : Option Instr := none

end Sys2Proof
end

