-- ==== Sys2Proof/Config.lean ====
section
/-! DEFINITION. The figures that the JX-1208 fixes (spec/00_scope.md 1.2 and the chapters). The manual leaves no value
undefined, so there is no free value here. -/

namespace Sys2Proof.Config

/-- Frame completions in one second (spec/00_scope.md 3.3). -/
def framesPerSecond : Nat := 250

/-- Entries of a held-over stack (R73). -/
def stackDepth : Nat := 4

/-- Places of the reply queue (R187). -/
def replyPlaces : Nat := 4

/-- Payload bytes of the longest link frame (R181). -/
def maxPayload : Nat := 60

/-- Frames of a pending identity's window (R30). -/
def identityWindow : Nat := 250

/-- Frame completions in which a unit report must be finished (R25). -/
def assemblyAge : Nat := 25

/-- Frames of one segment of the alert tone (R141). -/
def segmentFrames : Nat := 25

/-- Frames of a delay ring (R136). -/
def ringFrames : Nat := 128

/-- Sample places of one ring frame, those of 16 kHz (R131). -/
def ringPlaces : Nat := 64

/-- The gain that leaves a sample as it is (spec/00_scope.md 3.2). -/
def unity : Int := 1024

/-- Rounds of the key machines that one event may bring before the model stops following them (log entry 7). -/
def cascadeFuel : Nat := 64

end Sys2Proof.Config
end

