-- ==== Sys2Proof/Machine/State.lean ====
section
/-! DEFINITION. The state of the JX-1208, block by block (spec/00_scope.md 1.3), and its state after reset. -/

namespace Sys2Proof.Machine

/-- R1, R14. -/
inductive QualifyMode where | cs | vox | both
  deriving DecidableEq, Repr

/-- The level of a line that carries its condition: carrier, key asserted, radio present (R1). -/
inductive Polarity where | high | low
  deriving DecidableEq, Repr

/-- R1. -/
inductive DataRate where | b1200 | b2400 | b4800 | b9600
  deriving DecidableEq, Repr

/-- R1, R21. -/
inductive Parity where | none | even | odd
  deriving DecidableEq, Repr

/-- R5. -/
inductive Lifecycle where | off | active | lost
  deriving DecidableEq, Repr

/-- R96. -/
inductive KeyState where | idle | deferred | keyed | drain | hang | blank | cool
  deriving DecidableEq, Repr

/-- R128. -/
inductive MixerMode where | run | halted
  deriving DecidableEq, Repr

/-- R128. -/
inductive SampleRate where | khz8 | khz16
  deriving DecidableEq, Repr

/-- R132. -/
inductive Rounding where | nearestEven | floor | towardZero
  deriving DecidableEq, Repr

/-- R34. -/
inductive EntryKind where | registered | learned
  deriving DecidableEq, Repr

/-- R180. -/
inductive LinkRate where | b57600 | b115200 | b230400 | b460800
  deriving DecidableEq, Repr

/-- R158: an ACTIVE state carries its source unit, absent when it was declared by request. -/
inductive Emergency where
  | none
  | active (source : Option UnitId)
  deriving DecidableEq, Repr

/-- A holder or bidder: a radio port or the console (R69). -/
inductive Talker where
  | port (p : PortId)
  | con
  deriving DecidableEq, Repr

/-- R73. -/
inductive Tag where | valid | empty
  deriving DecidableEq, Repr

/-- R141: FIRST has the half-period P1, SECOND the half-period P2. -/
inductive Segment where | first | second
  deriving DecidableEq, Repr

/-- The port setup record of R1, the manual key field apart. Settings in seconds stay in seconds. -/
structure Setup where
  qualify : QualifyMode
  csPolarity : Polarity
  csDebounce : Nat
  voxThreshold : Nat
  voxHold : Nat
  rxGain : Nat
  txGain : Nat
  keyPolarity : Polarity
  lead : Nat
  hang : Nat
  blank : Nat
  keyLimit : Nat
  cooldown : Nat
  priority : Nat
  homeAgency : BitVec 4
  homeRole : BitVec 3
  dataLine : Bool
  dataRate : DataRate
  dataParity : Parity
  presencePolarity : Polarity
  deriving DecidableEq, Repr

/-- The defaults of R1. -/
def Setup.default : Setup where
  qualify := .cs
  csPolarity := .low
  csDebounce := 2
  voxThreshold := 512
  voxHold := 50
  rxGain := 1024
  txGain := 1024
  keyPolarity := .low
  lead := 25
  hang := 0
  blank := 25
  keyLimit := 60
  cooldown := 5
  priority := 1
  homeAgency := 0
  homeRole := 0
  dataLine := false
  dataRate := .b1200
  dataParity := .none
  presencePolarity := .low

/-- A unit reported while the port was not engaged, with its window of frames remaining (R30). -/
structure PendingIdentity where
  unit : UnitId
  window : Nat
  deriving DecidableEq, Repr

/-- A data line receiver (R23, R24): the bytes held are those taken after the sync byte. -/
inductive Receiver where
  | idle
  | hunting
  | assembling (held : List Byte) (age : Nat)
  deriving DecidableEq, Repr

/-- One radio port with its port controller, data line receiver and key machine (spec/00_scope.md 1.3). -/
structure Port where
  setup : Setup
  manualKey : Bool
  lifecycle : Lifecycle
  present : Bool
  presenceCount : Nat
  carrier : Bool
  carrierCount : Nat
  vox : Bool
  quietCount : Nat
  voxSum : Nat
  voxLevel : Nat
  engaged : Bool
  bar : Bool
  unit : Option UnitId
  pendingId : Option PendingIdentity
  emergency : Emergency
  receiver : Receiver
  lineWait : Bool
  key : KeyState
  timing : Nat
  keyUp : Nat
  deriving DecidableEq, Repr

/-- A port after reset (spec/01 1.5, spec/02 2.4, spec/06 6.11). -/
def Port.reset : Port where
  setup := .default
  manualKey := false
  lifecycle := .off
  present := false
  presenceCount := 0
  carrier := false
  carrierCount := 0
  vox := false
  quietCount := 0
  voxSum := 0
  voxLevel := 0
  engaged := false
  bar := false
  unit := none
  pendingId := none
  emergency := .none
  receiver := .idle
  lineWait := false
  key := .idle
  timing := 0
  keyUp := 0

/-- R69, R72. -/
structure Holder where
  who : Talker
  priority : Nat
  stamp : Stamp
  timer : Option Nat
  deriving DecidableEq, Repr

/-- R73. -/
structure StackEntry where
  port : PortId
  tag : Tag
  saved : Option Nat
  stamp : Stamp
  deriving DecidableEq, Repr

/-- R74. -/
structure QueueEntry where
  port : PortId
  stamp : Stamp
  deriving DecidableEq, Repr

/-- The alert phase (R141): `positive` is the level +A. -/
structure AlertPhase where
  segment : Segment
  frames : Nat
  positive : Bool
  samples : Nat
  deriving DecidableEq, Repr

/-- The start of the tone (R141, R143). -/
def AlertPhase.start : AlertPhase := ⟨.first, 0, true, 0⟩

/-- The samples of a delay ring: (address, sample) pairs, addresses strictly rising, no sample 0; an unlisted address
reads 0 (R136). -/
abbrev DelayRing := List (Nat × Sample)

/-- The runtime record of a bridge (R69). -/
structure Bridge where
  holder : Option Holder
  stack : List StackEntry
  queue : List QueueEntry
  burst : Nat
  phase : AlertPhase
  writePos : Fin 128
  ring : DelayRing
  deriving DecidableEq, Repr

/-- A bridge after reset (R69). -/
def Bridge.reset : Bridge := ⟨none, [], [], 0, .start, 0, []⟩

/-- A bridge record of a plan (R49). -/
structure Record where
  members : PortSet
  destinations : PortSet
  alertOnly : PortSet
  preempt : Bool
  override : Bool
  duck : Bool
  duckGain : Nat
  talkLimit : Nat
  alertLength : Nat
  alertGain : Nat
  deriving DecidableEq, Repr

/-- The defaults of R49. -/
def Record.default : Record := ⟨0, 0, 0, true, true, false, 256, 0, 3, 1024⟩

/-- The plan store (R52). `switchPending` is also the link's request in progress (R185): no other request is in progress
for any time. -/
structure Plans where
  records : Vector (Vector Record 8) 2
  active : Fin 2
  switchPending : Bool
  deriving DecidableEq, Repr

/-- R34. -/
structure Entry where
  unit : UnitId
  kind : EntryKind
  agency : BitVec 4
  role : BitVec 3
  override : Option Nat
  emergency : Bool
  lastPort : Option PortId
  stamp : Stamp
  deriving DecidableEq, Repr

/-- The unit directory (R33, R36): 16 sets of 4 ways. -/
structure Directory where
  places : Vector (Vector (Option Entry) 4) 16
  count : Stamp
  deriving DecidableEq, Repr

/-- The settings in force for a frame (R126). -/
structure Latched where
  rounding : Rounding
  amplitude : Nat
  p1 : Nat
  p2 : Nat
  conGain : Nat
  rxGain : Vector Nat 12
  txGain : Vector Nat 12
  duck : Vector Bool 8
  duckGain : Vector Nat 8
  alertOnly : Vector PortSet 8
  alertGain : Vector Nat 8
  monitorMask : BridgeSet
  monitorGains : Vector Nat 8
  deriving DecidableEq, Repr

/-- A frame in progress: the sample place it has reached and the settings in force for it. -/
structure Frame where
  place : Nat
  settings : Latched
  deriving DecidableEq, Repr

/-- The mixer (R128). `forming` holds the outputs formed in the frame in progress, `sending` those of the last completed
frame, which leave one frame later (R125). -/
structure Mixer where
  mode : MixerMode
  rate : SampleRate
  rounding : Rounding
  amplitude : Nat
  p1 : Nat
  p2 : Nat
  conGain : Nat
  frame : Option Frame
  forming : List (Vector Sample 13)
  sending : List (Vector Sample 13)
  sbout : Vector Sample 13
  deriving DecidableEq, Repr

/-- SBOUT with 0 in every slot (R128). -/
def silence : Vector Sample 13 := Vector.replicate 13 0

/-- The mixer after reset (R128, spec/07 7.10). -/
def Mixer.reset : Mixer := ⟨.run, .khz8, .nearestEven, 8192, 4, 5, 1024, none, [], [], silence⟩

/-- The console controller (R146). -/
structure Console where
  talk : BridgeSet
  monitorMask : BridgeSet
  monitorGains : Vector Nat 8
  deriving DecidableEq, Repr

/-- A watch rule (R164). -/
structure Rule where
  enabled : Bool
  agencyCompare : BitVec 4
  agencyCare : BitVec 4
  roleCompare : BitVec 3
  roleCare : BitVec 3
  bridges : BridgeSet
  deriving DecidableEq, Repr

/-- The notice unit (R171 to R175). A source of fewer than 6 flags leaves the higher bits 0. -/
structure Notices where
  flags : Vector FlagSet 22
  masks : Vector FlagSet 22
  switches : Vector Bool 22
  marks : Vector Bool 22
  started : Bool
  deriving DecidableEq, Repr

/-- How many flags a source has (R171). -/
def flagCount (src : Source) : Nat := if src.val ≤ 1 then 2 else if src.val ≤ 9 then 3 else 6

/-- Every flag of a source, as a set (R171). -/
def allFlags (src : Source) : FlagSet := BitVec.ofNat 6 (2 ^ flagCount src - 1)

/-- The notice unit after reset: every flag clear and masked, the device pending with STARTED (R171, R173 to R175). -/
def Notices.reset : Notices where
  flags := Vector.replicate 22 0
  masks := Vector.ofFn allFlags
  switches := Vector.replicate 22 false
  marks := (Vector.replicate 22 false).set 0 true
  started := true

/-- The link receiver with the frame under reception (R182). -/
inductive LinkRx where
  | hunting
  | length
  | kind (length : Nat)
  | payload (length : Nat) (kind : Byte) (taken : List Byte)
  | check (kind : Byte) (payload : List Byte)
  deriving DecidableEq, Repr

/-- A place of the reply queue (R187): reserved for the frame under reception, awaiting the pending PLAN_SWITCH, or
holding a formed reply as its link frame. -/
inductive Place where
  | reserved
  | awaiting
  | formed (bytes : List Byte)
  deriving DecidableEq, Repr

/-- The link controller (R180 to R188). -/
structure Link where
  rate : LinkRate
  rx : LinkRx
  lineWait : Bool
  gapRunning : Bool
  replies : List Place
  tx : Option (List Byte)
  lastSource : Source
  deriving DecidableEq, Repr

/-- The link controller after reset. DESIGN CHOICE (log entry 1): both straps low at the release, so 57600 baud. DESIGN
CHOICE (log entry 33): no line wait, whatever the level of LRX. -/
def Link.reset : Link := ⟨.b57600, .hunting, false, false, [], none, 21⟩

/-- What a frame completion (`half`: a sample) has brought and no command has taken yet (log entry 5). `talk`, `key` and
`qualify` are counts of the completion that are still to be taken. -/
inductive Due where
  | half (b : BridgeId)
  | segment (b : BridgeId)
  | burstEnd (b : BridgeId)
  | window (p : PortId)
  | age (p : PortId)
  | talk (b : BridgeId)
  | key (p : PortId)
  | presence (p : PortId)
  | qualify (p : PortId)
  deriving DecidableEq, Repr

/-- The state of the part. `due`, `bids` and `pending` are the model's own: what a completion has brought, bids handed on
and not yet taken, and the queue of commands. -/
structure State where
  inReset : Bool
  dataLines : PortSet
  ports : Vector Port 12
  bridges : Vector Bridge 8
  bidCounter : Stamp
  plans : Plans
  dir : Directory
  mixer : Mixer
  console : Console
  watch : Vector Rule 8
  notices : Notices
  link : Link
  due : List Due
  bids : List PortId
  pending : List Instr
  deriving DecidableEq, Repr

/-- No command of this part stops it with a fault: a fault condition is a fault flag, which is state (R172). Raised by
nothing. -/
inductive Fault
  deriving DecidableEq, Repr

/-- Why a command would have no meaning. -/
inductive Refusal where
  /-- Raised by an arm of exec whose command has no meaning in the model; no arm raises it. Safe: a run ends. -/
  | notModelled (mnemonic : String)
  deriving DecidableEq, Repr

/-- The part right after reset has been released, with both RATE straps low (log entry 1); every field at the value the
spec gives for reset. -/
def State.reset : State where
  inReset := false
  dataLines := BitVec.allOnes 12
  ports := Vector.replicate 12 .reset
  bridges := Vector.replicate 8 .reset
  bidCounter := 0
  plans := ⟨Vector.replicate 2 (Vector.replicate 8 .default), 0, false⟩
  dir := ⟨Vector.replicate 16 (Vector.replicate 4 none), 0⟩
  mixer := .reset
  console := ⟨0, 0, Vector.replicate 8 1024⟩
  watch := Vector.replicate 8 ⟨false, 0, 0, 0, 0, 0⟩
  notices := .reset
  link := .reset
  due := []
  bids := []
  pending := []

end Sys2Proof.Machine
end

