-- ==== Sys2Proof/Machine/Directory.lean ====
section
/-! DEFINITION. The unit directory: hashing, lookup, room, making and changing entries (spec/03). -/

namespace Sys2Proof.Machine

/-- The set of a unit ID (R35). -/
def hashSet (u : UnitId) : Fin 16 :=
  (u.extractLsb' 0 4 ^^^ u.extractLsb' 8 4).toFin

/-- The four ways of a set, lowest first. -/
def allWays : List (Fin 4) := [0, 1, 2, 3]

/-- The sixteen sets. -/
def allSets : List (Fin 16) := [0, 1, 2, 3, 4, 5, 6, 7, 8, 9, 10, 11, 12, 13, 14, 15]

/-- What stands in a place (R33). -/
def Directory.at (d : Directory) (set : Fin 16) (way : Fin 4) : Option Entry := d.places[set][way]

/-- The way of U's entry in U's set (R35). -/
def Directory.find (d : Directory) (u : UnitId) : Option (Fin 4) :=
  allWays.find? fun w => (d.at (hashSet u) w).any (·.unit == u)

/-- U's entry, if it has one. -/
def Directory.entry (d : Directory) (u : UnitId) : Option Entry :=
  (d.find u).bind (d.at (hashSet u))

/-- The contents of a place replaced. -/
def Directory.put (d : Directory) (set : Fin 16) (way : Fin 4) (e : Option Entry) : Directory :=
  { d with places := d.places.set set (d.places[set].set way e) }

/-- The age of an entry (R36). -/
def Directory.age (d : Directory) (e : Entry) : Nat := (d.count - e.stamp).toNat

/-- A replaceable entry: LEARNED with its emergency flag clear (R40). -/
def Entry.replaceable (e : Entry) : Bool := e.kind == .learned && !e.emergency

/-- The lowest-numbered free way of a set (R35). -/
def Directory.freeWay (d : Directory) (set : Fin 16) : Option (Fin 4) :=
  allWays.find? fun w => (d.at set w).isNone

/-- The way of the oldest replaceable entry of a set; of equal ages the lowest way (R36, R40). -/
def Directory.oldest (d : Directory) (set : Fin 16) : Option (Fin 4) :=
  (allWays.foldl (fun best w =>
    match d.at set w with
    | some e =>
      if e.replaceable then
        match best with
        | some (_, a) => if a < d.age e then some (w, d.age e) else best
        | none => some (w, d.age e)
      else best
    | none => best) (none : Option (Fin 4 × Nat))).map (·.1)

/-- The way that a new entry of a set takes: a free one, or that of the oldest replaceable entry (R39, R43). -/
def Directory.room (d : Directory) (set : Fin 16) : Option (Fin 4) :=
  (d.freeWay set).orElse fun _ => d.oldest set

/-- U's entry changed, if it has one. -/
def Directory.modify (d : Directory) (u : UnitId) (f : Entry → Entry) : Directory :=
  match d.find u with
  | some w => d.put (hashSet u) w ((d.at (hashSet u) w).map f)
  | none => d

/-- Every entry that is LEARNED with a clear emergency flag is removed (R46). -/
def Directory.purge (d : Directory) : Directory :=
  { d with places := d.places.map fun ways => ways.map fun e =>
      if e.any (·.replaceable) then none else e }

/-- The number of entries that a purge removes (R46). -/
def Directory.purgeCount (d : Directory) : Nat :=
  (allSets.map fun set => (allWays.filter fun w => (d.at set w).any (·.replaceable)).length).sum

end Sys2Proof.Machine
end

