-- ==== Sys2Proof/Machine/Flags.lean ====
section
/-! DEFINITION. Fault flags, mask bits, pending marks and ATTN (spec/10). There is no status register of an arithmetic
kind; the flags of this part are the fault flags of R171. -/

namespace Sys2Proof.Machine

/-! ## Sources (R171) -/

def srcDevice : Source := 0

def srcConsole : Source := 1

def srcBridge (b : BridgeId) : Source := ⟨2 + b.val, by omega⟩

def srcPort (p : PortId) : Source := ⟨10 + p.val, by omega⟩

/-! ## Flag numbers within their source (R171) -/

def flagLinkFrame : Nat := 0
def flagDirectoryFull : Nat := 1
def flagConsoleInputClip : Nat := 0
def flagConsoleOutputClip : Nat := 1
def flagStackOverflow : Nat := 0
def flagTalkTimeout : Nat := 1
def flagTalkClip : Nat := 2
def flagDataFraming : Nat := 0
def flagDataParity : Nat := 1
def flagReportCheck : Nat := 2
def flagKeyLimit : Nat := 3
def flagInputClip : Nat := 4
def flagOutputClip : Nat := 5

/-- The set of the one flag n. -/
def flagBit (n : Nat) : FlagSet := 1#6 <<< n

/-! ## Pending marks and flags -/

/-- The source's notice becomes pending (R174). -/
def State.setPending (src : Source) (s : State) : State :=
  { s with notices := { s.notices with marks := s.notices.marks.set src true } }

/-- A reportable change of the source: its notice becomes pending where its report-changes switch is on (R174). -/
def State.reportChange (src : Source) (s : State) : State :=
  if s.notices.switches[src] then s.setPending src else s

/-- A reportable change that has come about or has not. -/
def State.reportIf (changed : Bool) (src : Source) (s : State) : State :=
  if changed then s.reportChange src else s

/-- The source's flag n is set (R172). A flag that goes from clear to set makes the notice pending if it is unmasked
(R174). -/
def State.raise (src : Source) (n : Nat) (s : State) : State :=
  if s.notices.flags[src].getLsbD n then s
  else
    let s' := { s with notices :=
      { s.notices with flags := s.notices.flags.set src (s.notices.flags[src] ||| flagBit n) } }
    if s.notices.masks[src].getLsbD n then s' else s'.setPending src

/-- The flag is set where its condition has come about. -/
def State.raiseIf (cond : Bool) (src : Source) (n : Nat) (s : State) : State :=
  if cond then s.raise src n else s

/-- ATTN is asserted exactly while a flag is set whose mask bit is clear (R176). -/
def State.attn (s : State) : Bool :=
  (List.finRange 22).any fun src => s.notices.flags[src] &&& ~~~s.notices.masks[src] != 0

/-- The level of the ATTN pin (true: high): low while asserted, high while released (R176). -/
def State.attnLine (s : State) : Bool := !s.attn

/-- FAULT_CLEAR's clearing (R177 step 3): the pending mark is left. -/
def State.clearFlags (src : Source) (flags : FlagSet) (s : State) : State :=
  { s with notices :=
    { s.notices with flags := s.notices.flags.set src (s.notices.flags[src] &&& ~~~flags) } }

/-- MASK_SET's write (R178 step 4): a set flag whose mask bit goes from set to clear makes the notice pending. -/
def State.writeMask (src : Source) (mask : FlagSet) (switch : Bool) (s : State) : State :=
  let uncovered := s.notices.flags[src] &&& s.notices.masks[src] &&& ~~~mask
  let s' := { s with notices :=
    { s.notices with masks := s.notices.masks.set src mask, switches := s.notices.switches.set src switch } }
  if uncovered = 0 then s' else s'.setPending src

end Sys2Proof.Machine
end

