-- ==== Sys2Proof/Machine/Ops.lean ====
section
/-! DEFINITION. The named operations over ports, bridges and plans that every block shares: reading and writing a port or
a bridge, which bridge a port belongs to, its qualified receive condition, its blanking, its effective priority, and the
level of its key line. A block has no exception entry. -/

namespace Sys2Proof.Machine

/-! ## Ports, bridges and records -/

def State.port (s : State) (p : PortId) : Port := s.ports[p]

def State.bridge (s : State) (b : BridgeId) : Bridge := s.bridges[b]

/-- A bridge record of the active plan, as every block reads it at the moment of use (R50). -/
def State.record (s : State) (b : BridgeId) : Record := s.plans.records[s.plans.active][b]

def State.setPort (p : PortId) (q : Port) (s : State) : State := { s with ports := s.ports.set p q }

def State.setBridge (b : BridgeId) (r : Bridge) (s : State) : State :=
  { s with bridges := s.bridges.set b r }

/-- The five reportable kinds of a port's state are the same (R20). -/
def Port.sameReported (a b : Port) : Bool :=
  a.lifecycle == b.lifecycle && a.engaged == b.engaged && a.bar == b.bar && a.unit == b.unit
    && a.key == b.key

/-- A port is changed. A reportable change is reported (R20); a change of its emergency state or source unit makes its
notice pending whatever the switch (R159). -/
def State.updatePort (p : PortId) (f : Port → Port) (s : State) : State :=
  let old := s.port p
  let new := f old
  let s := (s.setPort p new).reportIf (!old.sameReported new) (srcPort p)
  if old.emergency = new.emergency then s else s.setPending (srcPort p)

/-- What of a held-over stack is reportable: its entries' ports, tags and stamps, not their saved times (R92). -/
def stackView (stack : List StackEntry) : List (PortId × Tag × Stamp) :=
  stack.map fun e => (e.port, e.tag, e.stamp)

/-- Holder, stack and queue are the same, as far as their changes are reportable (R92). The queue is compared as it stands
before and after: an entry that R77 removes and inserts again at its own place is no change of it (the model's choice: log
entry 28). -/
def Bridge.sameReported (a b : Bridge) : Bool :=
  a.holder.map (·.who) == b.holder.map (·.who) && stackView a.stack == stackView b.stack
    && a.queue == b.queue

/-- A bridge is changed; a change of its holder, stack or queue is reported (R92, R174; log entry 28). -/
def State.updateBridge (b : BridgeId) (f : Bridge → Bridge) (s : State) : State :=
  let old := s.bridge b
  let new := f old
  (s.setBridge b new).reportIf (!old.sameReported new) (srcBridge b)

/-! ## Membership in the active plan (R50, R51) -/

/-- The bridge whose members, in the given records, include the port. -/
def memberIn (records : Vector Record 8) (p : PortId) : Option BridgeId :=
  allBridges.find? fun b => records[b].members.getLsbD p

/-- The bridge whose destinations, in the given records, include the port. -/
def destinationIn (records : Vector Record 8) (p : PortId) : Option BridgeId :=
  allBridges.find? fun b => records[b].destinations.getLsbD p

def State.activeRecords (s : State) : Vector Record 8 := s.plans.records[s.plans.active]

def State.memberOf (s : State) (p : PortId) : Option BridgeId := memberIn s.activeRecords p

def State.destinationOf (s : State) (p : PortId) : Option BridgeId := destinationIn s.activeRecords p

/-! ## Conditions of a port -/

/-- A level read through a polarity: the condition stands while the line is at the polarity's level (R10, R12). -/
def throughPolarity (pol : Polarity) (high : Bool) : Bool :=
  match pol with
  | .high => high
  | .low => !high

/-- The qualified receive condition of an ACTIVE port (R14). -/
def Port.qualified (q : Port) : Bool :=
  match q.setup.qualify with
  | .cs => q.carrier
  | .vox => q.vox
  | .both => q.carrier && q.vox

/-- The key line is asserted in these key states (R96, R97). -/
def KeyState.asserted : KeyState → Bool
  | .keyed | .drain | .hang => true
  | .idle | .deferred | .blank | .cool => false

/-- Receive is blanked in KEYED, DRAIN, HANG and BLANK, and in COOL while the timing count is below the blank setting
(R96). -/
def Port.blanked (q : Port) : Bool :=
  match q.key with
  | .keyed | .drain | .hang | .blank => true
  | .cool => q.timing < q.setup.blank
  | .idle | .deferred => false

/-- The three conditions of engagement (R16). -/
def Port.mayEngage (q : Port) : Bool := q.lifecycle == .active && !q.blanked && q.qualified

/-- The level of the key line, true for high (R11, R97). -/
def State.keyLine (s : State) (p : PortId) : Bool :=
  let q := s.port p
  let asserted := match q.lifecycle with
    | .off => q.manualKey
    | .active | .lost => q.key.asserted
  throughPolarity q.setup.keyPolarity asserted

/-! ## Effective priority (R75) -/

/-- The override priority that the directory answers for an optional unit (R38). -/
def State.overrideFor (s : State) (u : Option UnitId) : Option Nat :=
  (u.bind s.dir.entry).bind (·.override)

/-- The effective priority of a radio port as its inputs now stand (R75, R76). -/
def State.effPriority (s : State) (p : PortId) : Nat :=
  let q := s.port p
  match q.emergency with
  | .active _ => 4
  | .none => match s.overrideFor q.unit with
    | some o => max q.setup.priority o
    | none => q.setup.priority

/-- The effective priority of a competitor (R75). -/
def State.talkerPriority (s : State) : Talker → Nat
  | .con => 5
  | .port p => s.effPriority p

end Sys2Proof.Machine
end

