-- ==== Sys2Proof/Machine/Arbiter.lean ====
section
/-! DEFINITION. The bridge arbiter (spec/05): bids, grants, preemption, spill, release, changes of effective priority.
These act on the runtime records alone; what they hand on to the key machines is judged in Keying.lean. -/

namespace Sys2Proof.Machine

/-- The talk timer of a fresh grant to a radio holder (R79, R87). -/
def State.freshTimer (s : State) (b : BridgeId) : Option Nat :=
  let limit := (s.record b).talkLimit
  if limit = 0 then none else some (limit * Config.framesPerSecond)

/-- The talk timer of a fresh grant: the console has none (R79). -/
def State.grantTimer (s : State) (b : BridgeId) : Talker → Option Nat
  | .con => none
  | .port _ => s.freshTimer b

/-- The age of an arrival stamp (R70). -/
def State.stampAge (s : State) (stamp : Stamp) : Nat := (s.bidCounter - stamp).toNat

/-- Queue entry a goes ahead of e: higher effective priority as it now stands, or equal and older (R74). -/
def State.goesAhead (s : State) (a e : QueueEntry) : Bool :=
  s.effPriority e.port < s.effPriority a.port
    || (s.effPriority a.port == s.effPriority e.port && s.stampAge e.stamp < s.stampAge a.stamp)

/-- An entry inserted behind every entry that goes ahead of it and before all others (R74). -/
def State.insertEntry (s : State) (e : QueueEntry) : List QueueEntry → List QueueEntry
  | [] => [e]
  | x :: xs => if s.goesAhead x e then x :: s.insertEntry e xs else e :: x :: xs

/-- The queue in the order of R74 under the priorities as they now stand. -/
def State.sortQueue (s : State) (q : List QueueEntry) : List QueueEntry := q.foldr s.insertEntry []

/-- The port has a place in the bridge: holder, VALID stack entry or queue entry (R71). -/
def Bridge.hasPlace (r : Bridge) (p : PortId) : Bool :=
  r.holder.any (·.who == .port p) || r.stack.any (fun e => e.port == p && e.tag == Tag.valid)
    || r.queue.any (·.port == p)

/-- The stack entry of a pushed holder; the console is never pushed (R80 step 2). -/
def pushedEntry (h : Holder) : List StackEntry :=
  match h.who with
  | .port p => [⟨p, .valid, h.timer, h.stamp⟩]
  | .con => []

/-- The stack and queue after the bottom entry of a full stack has been taken out: VALID, it goes into the queue under
its stamp; EMPTY, it is discarded (R81). -/
def State.spill (s : State) (stack : List StackEntry) (queue : List QueueEntry) :
    List StackEntry × List QueueEntry :=
  match stack.getLast? with
  | some e => (stack.dropLast,
      if e.tag = Tag.valid then s.insertEntry ⟨e.port, e.stamp⟩ queue else queue)
  | none => (stack, queue)

/-- The bidder takes the path of bridge b from its holder of the moment (R80, R81). -/
def State.preempt (b : BridgeId) (who : Talker) (stamp : Stamp) (s : State) : State :=
  let r := s.bridge b
  let full := Config.stackDepth ≤ r.stack.length
  let (stack, queue) := if full then s.spill r.stack r.queue else (r.stack, r.queue)
  let pushed := (r.holder.map pushedEntry).getD []
  (s.updateBridge b fun r => { r with
      holder := some ⟨who, s.talkerPriority who, stamp, s.grantTimer b who⟩
      stack := pushed ++ stack
      queue := queue }).raiseIf full (srcBridge b) flagStackOverflow

/-- A bid of an accepted bidder at bridge b (R78 to R82). -/
def State.bid (b : BridgeId) (who : Talker) (s : State) : State :=
  let stamp := s.bidCounter + 1
  let s := { s with bidCounter := stamp }
  let s := match who with
    | .port p => s.updateBridge b fun r =>
        { r with stack := r.stack.filter fun e => !(e.port == p && e.tag == Tag.empty) }
    | .con => s
  match (s.bridge b).holder with
  | none => s.updateBridge b fun r =>
      { r with holder := some ⟨who, s.talkerPriority who, stamp, s.grantTimer b who⟩ }
  | some h =>
    match who with
    | .con => s.preempt b .con stamp
    | .port p =>
      if (s.record b).preempt && h.priority < s.effPriority p then s.preempt b (.port p) stamp
      else s.updateBridge b fun r => { r with queue := s.insertEntry ⟨p, stamp⟩ r.queue }

/-- A release of bridge b (R85): the stack top or the queue head becomes holder, or the path is left free. -/
def State.release (b : BridgeId) (s : State) : State :=
  s.updateBridge b fun r =>
    let resume (e : StackEntry) (below : List StackEntry) : Bridge :=
      { r with holder := some ⟨.port e.port, s.effPriority e.port, e.stamp, e.saved⟩, stack := below }
    let grant (stack : List StackEntry) (e : QueueEntry) (behind : List QueueEntry) : Bridge :=
      { r with
        holder := some ⟨.port e.port, s.effPriority e.port, e.stamp, s.freshTimer b⟩
        stack := stack, queue := behind }
    match r.stack.dropWhile (fun e => decide (e.tag = Tag.empty)), r.queue with
    | [], [] => { r with holder := none, stack := [] }
    | t :: below, [] => resume t below
    | [], e :: behind => grant [] e behind
    | t :: below, e :: behind =>
      if s.effPriority e.port ≤ s.effPriority t.port then resume t below
      else grant (t :: below) e behind

/-- The port's place in bridge b is gone: the holder releases, a VALID stack entry becomes EMPTY, a queue entry is
removed (R84). -/
def State.leavePlace (b : BridgeId) (p : PortId) (s : State) : State :=
  if (s.bridge b).holder.any (·.who == .port p) then s.release b
  else s.updateBridge b fun r => { r with
    stack := r.stack.map fun e => if e.port = p then { e with tag := Tag.empty } else e
    queue := r.queue.filter fun e => !(e.port == p) }

/-- The arbiter takes a port's new effective priority by the port's place (R77). A queued entry's removal and insertion
puts the queue in order (log entries 20 and 27), and is reported where it moves an entry (log entry 28). -/
def State.takePriority (b : BridgeId) (p : PortId) (s : State) : State :=
  match (s.bridge b).holder with
  | none => s
  | some h =>
    if h.who = .port p then
      s.updateBridge b fun r => { r with holder := some { h with priority := s.effPriority p } }
    else match (s.bridge b).queue.find? (·.port == p) with
      | none => s
      | some e =>
        let s := s.updateBridge b fun r => { r with queue := s.sortQueue r.queue }
        if (s.record b).preempt && h.priority < s.effPriority p then
          (s.updateBridge b fun r => { r with queue := r.queue.filter fun x => !(x.port == p) }).preempt
            b (.port p) e.stamp
        else s

/-- The console leaves bridge b, which releases (R83, R149). -/
def State.consoleLeave (b : BridgeId) (s : State) : State :=
  if (s.bridge b).holder.any (·.who == .con) then s.release b else s

end Sys2Proof.Machine
end

