-- ==== Sys2Proof/Machine/Keying.lean ====
section
/-! DEFINITION. Engagement and the key machines (spec/01 1.4, spec/06): the beginning and end of an engagement, key
demand and the override key, the moves between key states, what an arbiter's change hands on, and the count of one frame
completion. -/

namespace Sys2Proof.Machine

/-! ## Engagement -/

/-- A port's engagement begins (R17): a pending identity is taken up, and an unbarred port hands on its bid, which the
arbiter takes as soon as the present event has acted and before a key machine acts (R111). `barred`: the engagement begins within CLEAR_BRIDGES, so
the bar is set as it begins (R94). -/
def State.beginEngagement (barred : Bool) (p : PortId) (s : State) : State :=
  let stopped := barred || (s.port p).bar
  let s := s.updatePort p fun q => { q with
    engaged := true
    bar := stopped
    unit := match q.pendingId with
      | some i => some i.unit
      | none => q.unit
    pendingId := none }
  if stopped then s else { s with bids := s.bids ++ [p] }

/-- A port's engagement ends (R18): it leaves its place, its bar is cleared and its current unit is cleared. -/
def State.endEngagement (p : PortId) (s : State) : State :=
  let s := s.updatePort p fun q => { q with engaged := false }
  let s := match s.memberOf p with
    | some b => s.leavePlace b p
    | none => s
  s.updatePort p fun q => { q with bar := false, unit := none }

/-- The port's engagement begins or ends as its three conditions now stand (R16). -/
def State.judgeEngagement (barred : Bool) (p : PortId) (s : State) : State :=
  let q := s.port p
  if q.mayEngage && !q.engaged then s.beginEngagement barred p
  else if !q.mayEngage && q.engaged then s.endEngagement p
  else s

/-- The bid of a port whose engagement has begun, or that is newly a member (R17 step 3, R63), reaches its arbiter. A
port that already has a place does not bid (R71). -/
def State.takeBid (p : PortId) (s : State) : State :=
  let q := s.port p
  match s.memberOf p with
  | some b => if q.engaged && !q.bar && !(s.bridge b).hasPlace p then s.bid b (.port p) else s
  | none => s

/-! ## Key demand and the override key -/

/-- Key demand (R100): a destination whose bridge has a holder other than itself, or a running burst. -/
def State.demand (s : State) (p : PortId) : Bool :=
  match s.destinationOf p with
  | some b => (s.bridge b).holder.any (fun h => !(h.who == .port p)) || 0 < (s.bridge b).burst
  | none => false

/-- The override key (R101). -/
def State.overrideKey (s : State) (p : PortId) : Bool :=
  match s.destinationOf p with
  | some b => (s.bridge b).holder.any (fun h => !(h.who == .port p) && 4 ≤ h.priority)
      && (s.record b).override
  | none => false

/-! ## Moves between key states -/

/-- The key machine enters a state with these counts. -/
def State.setKey (p : PortId) (k : KeyState) (timing keyUp : Nat) (s : State) : State :=
  s.updatePort p fun q => { q with key := k, timing := timing, keyUp := keyUp }

/-- Entry to KEYED from IDLE, DEFERRED, BLANK or COOL (R104). Blanking begins, which ends the port's engagement if it was
engaged (R98, R113). -/
def State.enterKeyed (p : PortId) (s : State) : State :=
  (s.setKey p .keyed 0 0).judgeEngagement false p

/-- Entry to IDLE: both counts are 0 and receive is not blanked, so that a qualified receive engages (R98, R107). -/
def State.enterIdle (barred : Bool) (p : PortId) (s : State) : State :=
  (s.setKey p .idle 0 0).judgeEngagement barred p

/-- Entry to BLANK, or with a blank setting of 0 at once to IDLE (R107, R109). -/
def State.enterBlank (barred : Bool) (p : PortId) (s : State) : State :=
  let blank := (s.port p).setup.blank
  let s := s.setKey p .blank 0 0
  if blank = 0 then s.enterIdle barred p else s

/-- Entry to HANG, or with a hang of 0 at once to BLANK (R105, R106, R109). The key-up count is kept. -/
def State.enterHang (p : PortId) (s : State) : State :=
  let q := s.port p
  if q.setup.hang = 0 then s.enterBlank false p else s.setKey p .hang 0 q.keyUp

/-- Entry to DRAIN, or with a lead of 0 at once to HANG (R104, R105, R109). The key-up count is kept. -/
def State.enterDrain (p : PortId) (s : State) : State :=
  let q := s.port p
  let s := s.setKey p .drain 0 q.keyUp
  if q.setup.lead = 0 then s.enterHang p else s

/-- Entry to COOL at the key limit (R119). With a blank setting of 0 blanking ends (R109). -/
def State.enterCool (p : PortId) (s : State) : State :=
  ((s.setKey p .cool 0 0).raise (srcPort p) flagKeyLimit).judgeEngagement false p

/-- The key machine of an ACTIVE port acts on its demand, its override key and its engagement as they now stand (R102 to
R107). A port that is OFF or LOST is held in IDLE (R96); COOL is moved by its counts alone (R108). -/
def State.judgeKey (s : State) (p : PortId) : State :=
  let q := s.port p
  if q.lifecycle = .active then
    match q.key with
    | .idle =>
      if s.demand p then
        if !q.engaged || s.overrideKey p then s.enterKeyed p else s.setKey p .deferred 0 0
      else s
    | .deferred =>
      if s.demand p then
        if !q.engaged || s.overrideKey p then s.enterKeyed p else s
      else s.setKey p .idle 0 0
    | .keyed => if s.demand p then s else s.enterDrain p
    | .drain | .hang => if s.demand p then s.setKey p .keyed 0 q.keyUp else s
    | .blank => if s.demand p then s.enterKeyed p else s
    | .cool => s
  else s

/-- The key machine of a port has nothing to act on: held, or in a state that its demand, its override key and its
engagement leave as it is (R102 to R108). -/
def State.keyResting (s : State) (p : PortId) : Bool :=
  let q := s.port p
  q.lifecycle != .active || match q.key with
    | .idle | .drain | .hang | .blank => !s.demand p
    | .deferred => s.demand p && q.engaged && !s.overrideKey p
    | .keyed => s.demand p
    | .cool => true

/-! ## What an event hands on (R91, R107, R111) -/

/-- The bids that engagements have handed on reach their arbiters, one after the other, and none is left over. -/
def State.takeHandedBids (s : State) : State :=
  s.bids.foldl (fun s p => s.takeBid p) { s with bids := [] }

/-- The key machine of a port acts whole, and a bid that it hands on is taken before another machine acts (R111). -/
def State.actKey (s : State) (p : PortId) : State := (s.judgeKey p).takeHandedBids

/-- The key machines act in port order (log entry 7). -/
def State.actAll (s : State) : State := allPorts.foldl State.actKey s

/-- The key machines act until none has anything left to act on; the fuel bounds the rounds (log entry 7). -/
def State.resolve : Nat → State → State
  | 0, s => s
  | n + 1, s => if allPorts.all s.keyResting then s else State.resolve n s.actAll

/-- What an event has changed is handed on: the bids to the arbiters first, then the change to the key machines (R91,
R107, R111). -/
def State.handOn (s : State) : State := s.takeHandedBids.resolve Config.cascadeFuel

/-- A port's effective priority stood at `old`: where it has changed and the port is engaged and a member, the new value
is handed to its arbiter (R27 step 4, R76). -/
def State.handPriority (p : PortId) (old : Nat) (s : State) : State :=
  if s.effPriority p = old || !(s.port p).engaged then s
  else match s.memberOf p with
    | some b => (s.takePriority b p).handOn
    | none => s

/-! ## The count of one frame completion (R110) -/

/-- The counts increased by one completion. -/
def Port.keyCounted (q : Port) : Port :=
  let up := if q.setup.keyLimit = 0 then q.keyUp else q.keyUp + 1
  match q.key with
  | .idle | .deferred => q
  | .keyed => { q with keyUp := up }
  | .drain | .hang => { q with timing := q.timing + 1, keyUp := up }
  | .blank | .cool => { q with timing := q.timing + 1 }

/-- The key-up count has reached a nonzero key limit (R118, R119). -/
def Port.limitReached (q : Port) : Bool :=
  q.key.asserted && q.setup.keyLimit != 0 && q.setup.keyLimit * Config.framesPerSecond ≤ q.keyUp

def Port.drainOver (q : Port) : Bool := q.key == .drain && q.setup.lead ≤ q.timing

def Port.hangOver (q : Port) : Bool := q.key == .hang && q.setup.hang ≤ q.timing

def Port.blankOver (q : Port) : Bool := q.key == .blank && q.setup.blank ≤ q.timing

def Port.cooldownOver (q : Port) : Bool :=
  q.key == .cool && q.setup.cooldown * Config.framesPerSecond ≤ q.timing

/-- The blanked part of COOL ends at this count (R108). -/
def Port.coolBlankOver (q : Port) : Bool := q.key == .cool && q.timing == q.setup.blank

/-- The next count carries the machine to another state or ends its blanking. -/
def Port.keyEventNext (q : Port) : Bool :=
  let c := q.keyCounted
  c.limitReached || c.drainOver || c.hangOver || c.blankOver || c.cooldownOver || c.coolBlankOver

/-- The key machine takes the count of one frame completion and what it reaches (R105 to R110, R119). The key limit goes
ahead of the settings of DRAIN and HANG. -/
def State.keyTick (p : PortId) (s : State) : State :=
  let q := (s.port p).keyCounted
  let s := s.setPort p q
  (if q.limitReached then s.enterCool p
    else if q.drainOver then s.enterHang p
    else if q.hangOver then s.enterBlank false p
    else if q.blankOver then s.enterIdle false p
    else if q.cooldownOver then s.enterIdle false p
    else if q.key = .cool then s.judgeEngagement false p
    else s).handOn

end Sys2Proof.Machine
end

