-- ==== Sys2Proof/Machine/Ring.lean ====
section
/-! DEFINITION. The delay ring of a bridge, the part's addressed buffer (R69, R136): 128 frames of 64 sample places. Its
one canonical form lists addresses strictly rising and no sample 0, since an unlisted place reads 0. -/

namespace Sys2Proof.Machine

/-- The address of a sample place of a ring frame. -/
def ringAddress (pos place : Nat) : Nat := pos * Config.ringPlaces + place

/-- The number of addresses of a ring. -/
def ringSize : Nat := Config.ringFrames * Config.ringPlaces

/-- One sample of a ring; an unlisted place holds 0 (R69, R136). -/
def DelayRing.read : DelayRing → Nat → Sample
  | [], _ => 0
  | (k, v) :: rest, a => if k = a then v else DelayRing.read rest a

/-- One sample written; a 0 is kept by listing nothing. -/
def DelayRing.write : DelayRing → Nat → Sample → DelayRing
  | [], a, v => if v = 0 then [] else [(a, v)]
  | (k, w) :: rest, a, v =>
    if a < k then (if v = 0 then (k, w) :: rest else (a, v) :: (k, w) :: rest)
    else if a = k then (if v = 0 then rest else (a, v) :: rest)
    else (k, w) :: DelayRing.write rest a v

/-- A sample lies within the sample range (R133). -/
def inSampleRange (v : Sample) : Bool := -32768 ≤ v && v ≤ 32767

/-- Addresses from `low` on strictly rising, within the ring, samples in range and none 0. -/
def DelayRing.wfFrom : Nat → DelayRing → Bool
  | _, [] => true
  | low, (k, v) :: rest =>
    decide (low ≤ k) && decide (k < ringSize) && v != 0 && inSampleRange v && DelayRing.wfFrom (k + 1) rest

/-- The canonical form of a ring. -/
def DelayRing.wf (r : DelayRing) : Bool := DelayRing.wfFrom 0 r

/-- The ring position of a tap: the write position less the lead, modulo 128 (R115). -/
def tapPosition (writePos : Fin 128) (lead : Nat) : Nat :=
  (writePos.val + Config.ringFrames - lead % Config.ringFrames) % Config.ringFrames

end Sys2Proof.Machine
end

