-- ==== Sys2Proof/Machine/Audio.lean ====
section
/-! DEFINITION. The mixer's arithmetic and stages (spec/07): rounding, saturation, conditioning, talk signal, destination
outputs, console monitor, alert tone, and the forming of one sample. -/

namespace Sys2Proof.Machine

/-! ## Arithmetic (R132, R133) -/

/-- The rounding R: v divided by 1024 in a rounding mode (R132). -/
def roundDiv (mode : Rounding) (v : Int) : Int :=
  let q := v / Config.unity
  let r := v % Config.unity
  match mode with
  | .floor => q
  | .towardZero => Int.tdiv v Config.unity
  | .nearestEven =>
    if 2 * r < Config.unity then q
    else if Config.unity < 2 * r then q + 1
    else if q % 2 = 0 then q else q + 1

/-- The saturation S (R133). -/
def saturate (v : Int) : Sample := if v < -32768 then -32768 else if 32767 < v then 32767 else v

/-- The stage clamps (R133). -/
def clips (v : Int) : Bool := decide (v < -32768) || decide (32767 < v)

/-- Samples of a frame (R125). -/
def frameLength : SampleRate → Nat
  | .khz8 => 32
  | .khz16 => 64

/-! ## The stages of one sample -/

/-- The settings in force for a frame that begins now (R126). -/
def State.latch (s : State) : Latched where
  rounding := s.mixer.rounding
  amplitude := s.mixer.amplitude
  p1 := s.mixer.p1
  p2 := s.mixer.p2
  conGain := s.mixer.conGain
  rxGain := s.ports.map (·.setup.rxGain)
  txGain := s.ports.map (·.setup.txGain)
  duck := s.activeRecords.map (·.duck)
  duckGain := s.activeRecords.map (·.duckGain)
  alertOnly := s.activeRecords.map (·.alertOnly)
  alertGain := s.activeRecords.map (·.alertGain)
  monitorMask := s.console.monitorMask
  monitorGains := s.console.monitorGains

/-- The conditioned sample of a port before its limit (R134): 0 unless the port is ACTIVE. The lifecycle is read at each
sample, as R134 and R144 say; R6 has a port that enters ACTIVE within a frame conditioned from the next frame start (the
model's choice: log entry 25). -/
def State.rawPort (s : State) (g : Latched) (slots : Vector Half 13) (p : PortId) : Int :=
  if (s.port p).lifecycle = .active then
    roundDiv g.rounding ((slots[p.val]'(by omega)).toInt * (g.rxGain[p] : Int))
  else 0

/-- The conditioned sample of the console before its limit (R134). -/
def rawConsole (g : Latched) (slots : Vector Half 13) : Int :=
  roundDiv g.rounding (slots[12].toInt * (g.conGain : Int))

/-- The conditioned sample of a talker (R134). -/
def State.conditioned (s : State) (g : Latched) (slots : Vector Half 13) : Talker → Sample
  | .port p => saturate (s.rawPort g slots p)
  | .con => saturate (rawConsole g slots)

/-- The ducked talker of a bridge: the port of a VALID stack top (R73). -/
def Bridge.duckedTalker (r : Bridge) : Option PortId :=
  match r.stack with
  | e :: _ => if e.tag = Tag.valid then some e.port else none
  | [] => none

/-- The ducked term of a bridge (R137). -/
def State.duckTerm (s : State) (g : Latched) (slots : Vector Half 13) (b : BridgeId) : Int :=
  match g.duck[b], (s.bridge b).duckedTalker with
  | true, some p => roundDiv g.rounding (s.conditioned g slots (.port p) * (g.duckGain[b] : Int))
  | _, _ => 0

/-- The talk signal sample of a bridge before its limit (R136). -/
def State.rawTalk (s : State) (g : Latched) (slots : Vector Half 13) (b : BridgeId) : Int :=
  (match (s.bridge b).holder with
    | some h => s.conditioned g slots h.who
    | none => 0) + s.duckTerm g slots b

/-- The alert sample of a bridge (R141). -/
def State.alertSample (s : State) (g : Latched) (b : BridgeId) : Int :=
  if (s.bridge b).burst = 0 then 0
  else if (s.bridge b).phase.positive then (g.amplitude : Int) else -(g.amplitude : Int)

/-- The ring sample at a port's tap, at this sample place (R115, R138); 0 in the alert-only set while a burst runs
(R139). -/
def State.tapSample (s : State) (g : Latched) (place : Nat) (b : BridgeId) (p : PortId) : Int :=
  let r := s.bridge b
  if r.burst ≠ 0 ∧ g.alertOnly[b].getLsbD p = true then 0
  else DelayRing.read r.ring (ringAddress (tapPosition r.writePos (s.port p).setup.lead) place)

/-- The destination output of a port before its limit (R138): 0 unless the port is ACTIVE and its key machine KEYED,
DRAIN or HANG. The rings already hold this sample's talk signals. -/
def State.rawOutput (s : State) (g : Latched) (place : Nat) (p : PortId) : Int :=
  let q := s.port p
  if q.lifecycle = .active ∧ q.key.asserted = true then
    match s.destinationOf p with
    | some b => roundDiv g.rounding
        (s.tapSample g place b p * (g.txGain[p] : Int) + s.alertSample g b * (g.alertGain[b] : Int))
    | none => 0
  else 0

/-- The console monitor output before its limit, from the talk signals of this sample (R140). -/
def rawMonitor (g : Latched) (talk : Vector Sample 8) : Int :=
  roundDiv g.rounding
    ((allBridges.map fun b : BridgeId =>
      if g.monitorMask.getLsbD b then talk[b] * (g.monitorGains[b] : Int) else 0).sum)

/-- The half-period of the present segment (R141). -/
def halfPeriod (g : Latched) : Segment → Nat
  | .first => g.p1
  | .second => g.p2

/-- The alert phase after one sample of a running burst: the level's turn is left to ALERT_HALF_PERIOD (R141). -/
def Bridge.countSample (r : Bridge) : Bridge :=
  if r.burst = 0 then r else { r with phase := { r.phase with samples := r.phase.samples + 1 } }

/-- The level's half-period has been reached or passed (R141). -/
def Bridge.halfReached (g : Latched) (r : Bridge) : Bool :=
  r.burst != 0 && halfPeriod g r.phase.segment ≤ r.phase.samples

/-- The talk signals of one sample written into the eight rings (R136). -/
def State.writeRings (talk : Vector Sample 8) (place : Nat) (s : State) : State :=
  { s with bridges := Vector.ofFn fun b : BridgeId =>
      let r := s.bridge b
      { r with ring := DelayRing.write r.ring (ringAddress r.writePos.val place) talk[b] } }

/-- The clip flags of one sample (R133). -/
def State.raiseClips (ports : Vector Int 12) (con : Int) (talk : Vector Int 8) (out : Vector Int 12)
    (monitor : Int) (s : State) : State :=
  let s := allPorts.foldl (fun s p => s.raiseIf (clips ports[p]) (srcPort p) flagInputClip) s
  let s := s.raiseIf (clips con) srcConsole flagConsoleInputClip
  let s := allBridges.foldl (fun s b => s.raiseIf (clips talk[b]) (srcBridge b) flagTalkClip) s
  let s := allPorts.foldl (fun s p => s.raiseIf (clips out[p]) (srcPort p) flagOutputClip) s
  s.raiseIf (clips monitor) srcConsole flagConsoleOutputClip

/-- One sample period of the frame in progress (R125, R134 to R141): the thirteen inputs are conditioned, the talk
signals formed and written, the outputs formed; SBOUT carries the same sample place of the frame before. -/
def State.formSample (f : Frame) (slots : Vector Half 13) (s : State) : State :=
  let g := f.settings
  let rawIn : Vector Int 12 := Vector.ofFn fun p : PortId => s.rawPort g slots p
  let rawT : Vector Int 8 := Vector.ofFn fun b : BridgeId => s.rawTalk g slots b
  let talk : Vector Sample 8 := rawT.map saturate
  let s := s.writeRings talk f.place
  let rawOut : Vector Int 12 := Vector.ofFn fun p : PortId => s.rawOutput g f.place p
  let monitor := rawMonitor g talk
  let s := s.raiseClips rawIn (rawConsole g slots) rawT rawOut monitor
  let bridges := s.bridges.map Bridge.countSample
  { s with
    ports := Vector.ofFn fun p : PortId =>
      { s.port p with voxSum := (s.port p).voxSum + (saturate rawIn[p]).natAbs }
    bridges := bridges
    mixer := { s.mixer with
      frame := some { f with place := f.place + 1 }
      forming := s.mixer.forming ++ [(rawOut.map saturate).push (saturate monitor)]
      sbout := (s.mixer.sending[f.place]?).getD silence }
    due := (allBridges.filter fun b => bridges[b].halfReached g).map Due.half }

end Sys2Proof.Machine
end

