-- ==== Sys2Proof/Machine/Lifecycle.lean ====
section
/-! DEFINITION. The lifecycle of a port (spec/01 1.2): entry to ACTIVE and departure. -/

namespace Sys2Proof.Machine

/-- Entry to ACTIVE (R6, R23). With the data line field on the receiver hunts, in a line wait if DATAn is low. -/
def State.activate (p : PortId) (s : State) : State :=
  let on := (s.port p).setup.dataLine
  (s.updatePort p fun q => { q with
    lifecycle := .active
    carrier := false, carrierCount := 0, vox := false, quietCount := 0
    engaged := false, bar := false
    key := .idle, timing := 0, keyUp := 0
    receiver := if on then .hunting else .idle
    lineWait := on && !s.dataLines.getLsbD p }).handOn

/-- Departure to OFF or LOST (R7, R120): the lifecycle changes first; then the engagement ends, the key machine goes to
IDLE, and identities, report and qualifiers are dropped. -/
def State.depart (p : PortId) (life : Lifecycle) (s : State) : State :=
  let s := s.updatePort p fun q => { q with lifecycle := life }
  let s := if (s.port p).engaged then s.endEngagement p else s
  (s.updatePort p fun q => { q with
    key := .idle, timing := 0, keyUp := 0
    bar := false, unit := none, pendingId := none
    receiver := .idle, lineWait := false
    carrier := false, carrierCount := 0, vox := false, quietCount := 0 }).handOn

end Sys2Proof.Machine
end

