-- ==== Sys2Proof/Machine/Emergency.lean ====
section
/-! DEFINITION. Emergencies and watch rules (spec/09): matching, alert bursts, entering and leaving emergency. -/

namespace Sys2Proof.Machine

/-- The rule matches a caller: enabled, and equal in every bit that a care pattern sets (R164). -/
def Rule.fits (r : Rule) (agency : BitVec 4) (role : BitVec 3) : Bool :=
  r.enabled && (agency ^^^ r.agencyCompare) &&& r.agencyCare == 0
    && (role ^^^ r.roleCompare) &&& r.roleCare == 0

/-- The caller's attributes: those of the entry of the port's source unit, or the port's home attributes (R38, R164). -/
def State.callerAttributes (s : State) (p : PortId) : BitVec 4 × BitVec 3 :=
  let q := s.port p
  let source := match q.emergency with
    | .active u => u
    | .none => none
  match source.bind s.dir.entry with
  | some e => (e.agency, e.role)
  | none => (q.setup.homeAgency, q.setup.homeRole)

/-- A watch rule that matches the port's caller names the bridge. -/
def State.ruleSelects (s : State) (p : PortId) (b : BridgeId) : Bool :=
  let (agency, role) := s.callerAttributes p
  s.watch.toList.any fun r => r.fits agency role && r.bridges.getLsbD b

/-- The bridges to alert for the port: its own and those of matching rules, less those that take no burst (R160 step 2). -/
def State.alertedBridges (s : State) (p : PortId) : List BridgeId :=
  allBridges.filter fun b => (s.memberOf p == some b || s.ruleSelects p b) && (s.record b).alertLength != 0

/-- A burst is started at the start of the tone, or reloaded with its phase kept (R161). -/
def State.startBurst (s : State) (b : BridgeId) : State :=
  let r := s.bridge b
  let frames := (s.record b).alertLength * Config.framesPerSecond
  if r.burst = 0 then
    ((s.setBridge b { r with burst := frames, phase := .start }).reportChange (srcBridge b)).handOn
  else (s.setBridge b { r with burst := frames }).handOn

/-- A port in NONE enters emergency (R160 steps 1 to 3). No burst is started while the mixer is HALTED (R162). The new
effective priority is handed on by the event (R160 step 4). -/
def State.enterEmergency (p : PortId) (source : Option UnitId) (s : State) : State :=
  let s := s.updatePort p fun q => { q with emergency := .active source }
  if s.mixer.mode = .run then (s.alertedBridges p).foldl State.startBurst s else s

/-- A report makes the port's emergency ACTIVE with this source: an entry, or a change of source (R158). -/
def State.takeEmergency (p : PortId) (u : UnitId) (s : State) : State :=
  match (s.port p).emergency with
  | .none => s.enterEmergency p (some u)
  | .active _ => s.updatePort p fun q => { q with emergency := .active (some u) }

/-- A port goes to NONE, its notice is made pending and its effective priority handed on (R159, R168). -/
def State.leaveEmergency (s : State) (p : PortId) : State :=
  let old := s.effPriority p
  (s.updatePort p fun q => { q with emergency := .none }).handPriority p old

/-- The port's emergency is ACTIVE with this unit as its source. -/
def State.sourcedFrom (s : State) (u : UnitId) (p : PortId) : Bool :=
  (s.port p).emergency == .active (some u)

/-- Any port's emergency is ACTIVE with this unit as its source (R42). -/
def State.anySourced (s : State) (u : UnitId) : Bool := allPorts.any (s.sourcedFrom u)

/-- Every port sourced from the unit goes to NONE, in port order (R168, R169). -/
def State.leaveAllSourced (u : UnitId) (s : State) : State :=
  allPorts.foldl (fun s p => if s.sourcedFrom u p then s.leaveEmergency p else s) s

/-- A set of ports from their names. -/
def portSet (ps : List PortId) : PortSet := ps.foldl (fun m p => m ||| (1#12 <<< p.val)) 0

/-- A set of bridges from their names. -/
def bridgeSet (bs : List BridgeId) : BridgeSet := bs.foldl (fun m b => m ||| (1#8 <<< b.val)) 0

end Sys2Proof.Machine
end

