-- ==== Sys2Proof/WellFormed.lean ====
section
/-! DEFINITION. Which commands name an event that can come about. Most operands are exact by their types; the checks are
those of a report's unit ID (spec/02 R24, R26) and of a frame of unknown kind (spec/11 R181, R190). An ill-formed command
still has a meaning (it is the arrival of the bytes it spells). -/

namespace Sys2Proof

/-- Unit IDs 1 to 65534 are valid (R24). -/
def validUnit (u : UnitId) : Bool := u != 0 && u != 0xFFFF

/-- A report of this kind and unit can be carried on a data line: neither ID byte nor the check is 0x7E (the note of
R24). -/
def reportCarriable (kind : Byte) (u : UnitId) : Bool :=
  let hi : Byte := u.extractLsb' 8 8
  let lo : Byte := u.extractLsb' 0 8
  kind != 0x7E && hi != 0x7E && lo != 0x7E && -(kind + hi + lo) != 0x7E

/-- The request kinds are 0x01 to 0x1C (R190). -/
def isRequestKind (k : Byte) : Bool := 1 ≤ k.toNat && k.toNat ≤ 0x1C

/-- The command names an event that can come about. -/
def WellFormed : Instr → Bool
  | .ident _ u => validUnit u && reportCarriable 1 u
  | .emerg _ u => validUnit u && reportCarriable 2 u
  | .emergClear _ u => validUnit u && reportCarriable 3 u
  | .unknownKind k payload => !isRequestKind k && decide (payload.length ≤ Config.maxPayload)
  | _ => true

end Sys2Proof
end

