-- ==== Sys2Proof/Machine/Operands.lean ====
section
/-! DEFINITION. Operand forms: bytes and multi-byte fields of the link, the values that enumerated fields, switches, sets
and settings can take, their clamping (spec/11 R189), the link frame (R181) and the payload of every request (R190). -/

namespace Sys2Proof.Machine

/-! ## Bytes -/

/-- Two bytes, most significant first (R189). -/
def halfBytes (w : Half) : List Byte := [w.extractLsb' 8 8, w.extractLsb' 0 8]

/-- Four bytes, most significant first (R189). -/
def stampBytes (w : Stamp) : List Byte :=
  [w.extractLsb' 24 8, w.extractLsb' 16 8, w.extractLsb' 8 8, w.extractLsb' 0 8]

/-- A number in one byte. -/
def natByte (n : Nat) : Byte := BitVec.ofNat 8 n

/-- A number in two bytes. -/
def natHalf (n : Nat) : List Byte := halfBytes (BitVec.ofNat 16 n)

/-- Byte i of a payload. -/
def byteAt (payload : List Byte) (i : Nat) : Byte := payload.getD i 0

/-- The two-byte field that begins at byte i of a payload. -/
def halfAt (payload : List Byte) (i : Nat) : Half := byteAt payload i ++ byteAt payload (i + 1)

/-- The sum of bytes modulo 256. -/
def byteSum (bytes : List Byte) : Byte := bytes.foldr (· + ·) 0

/-- A link frame: start byte, length, kind, payload, check (R181). -/
def frameBytes (kind : Byte) (payload : List Byte) : List Byte :=
  0x5A :: natByte payload.length :: kind :: (payload ++ [-(kind + byteSum payload)])

/-! ## Enumerated fields and switches: numbered from 0 in the order of their tables (R189) -/

def qualifyOf (b : Byte) : Option QualifyMode :=
  if b = 0 then some .cs else if b = 1 then some .vox else if b = 2 then some .both else none

def qualifyByte : QualifyMode → Byte
  | .cs => 0 | .vox => 1 | .both => 2

def polarityOf (b : Byte) : Option Polarity :=
  if b = 0 then some .high else if b = 1 then some .low else none

def polarityByte : Polarity → Byte
  | .high => 0 | .low => 1

def dataRateOf (b : Byte) : Option DataRate :=
  if b = 0 then some .b1200 else if b = 1 then some .b2400 else if b = 2 then some .b4800
  else if b = 3 then some .b9600 else none

def dataRateByte : DataRate → Byte
  | .b1200 => 0 | .b2400 => 1 | .b4800 => 2 | .b9600 => 3

def parityOf (b : Byte) : Option Parity :=
  if b = 0 then some .none else if b = 1 then some .even else if b = 2 then some .odd else none

def parityByte : Parity → Byte
  | .none => 0 | .even => 1 | .odd => 2

def roundingOf (b : Byte) : Option Rounding :=
  if b = 0 then some .nearestEven else if b = 1 then some .floor else if b = 2 then some .towardZero
  else none

def roundingByte : Rounding → Byte
  | .nearestEven => 0 | .floor => 1 | .towardZero => 2

def rateOf (b : Byte) : Option SampleRate :=
  if b = 0 then some .khz8 else if b = 1 then some .khz16 else none

def rateByte : SampleRate → Byte
  | .khz8 => 0 | .khz16 => 1

def lifecycleCode : Lifecycle → Nat
  | .off => 0 | .active => 1 | .lost => 2

def keyByte : KeyState → Byte
  | .idle => 0 | .deferred => 1 | .keyed => 2 | .drain => 3 | .hang => 4 | .blank => 5 | .cool => 6

def modeByte : MixerMode → Byte
  | .run => 0 | .halted => 1

def kindByte : EntryKind → Byte
  | .registered => 0 | .learned => 1

def linkRateByte : LinkRate → Byte
  | .b57600 => 0 | .b115200 => 1 | .b230400 => 2 | .b460800 => 3

/-- A switch: 0 is off and 1 is on; any other byte names no value. Manual key levels are numbered alike. -/
def switchOf (b : Byte) : Option Bool :=
  if b = 0 then some false else if b = 1 then some true else none

def switchByte (on : Bool) : Byte := if on then 1 else 0

/-- A set of radio ports: bits 12 to 15 name no port. -/
def portSetOf (w : Half) : Option PortSet :=
  if w.extractLsb' 12 4 = 0 then some (w.extractLsb' 0 12) else none

/-- An override priority: 0 to 3, or 0x0F for none. -/
def overrideOf (b : Byte) : Option (Option Nat) :=
  if b = 0x0F then some none else if b.toNat ≤ 3 then some (some b.toNat) else none

def overrideByte : Option Nat → Byte
  | none => 0x0F
  | some n => natByte n

/-- An optional unit ID, 0 when absent. -/
def unitBytes (u : Option UnitId) : List Byte := halfBytes (u.getD 0)

/-- A talk timer or saved talk time, 0 when absent. -/
def timeBytes (t : Option Nat) : List Byte := natHalf (t.getD 0)

/-- A port number: 0 to 11. -/
def portOf (b : Byte) : Option PortId := if h : b.toNat < 12 then some ⟨b.toNat, h⟩ else none

/-- A bridge number: 0 to 7. -/
def bridgeOf (b : Byte) : Option BridgeId := if h : b.toNat < 8 then some ⟨b.toNat, h⟩ else none

/-- A notice source number: 0 to 21. -/
def sourceOf (b : Byte) : Option Source := if h : b.toNat < 22 then some ⟨b.toNat, h⟩ else none

/-- A value clamped to the nearest end of lo..hi. -/
def clamp (lo hi n : Nat) : Nat := max lo (min hi n)

/-! ## Port setup (R1, R2) -/

/-- The record that a PORT_SETUP carries, clamped (R2 step 3); none where an enumerated field is outside its list
(R2 step 2). -/
def readSetup (f : SetupFields) : Option Setup :=
  match qualifyOf f.qualify, polarityOf f.csPolarity, polarityOf f.keyPolarity, switchOf f.dataLine,
    dataRateOf f.dataRate, parityOf f.dataParity, polarityOf f.presencePolarity with
  | some q, some cp, some kp, some dl, some dr, some dp, some pp => some
      { qualify := q, csPolarity := cp, csDebounce := clamp 0 15 f.csDebounce.toNat
        voxThreshold := clamp 0 32767 f.voxThreshold.toNat, voxHold := clamp 0 250 f.voxHold.toNat
        rxGain := clamp 0 4095 f.rxGain.toNat, txGain := clamp 0 4095 f.txGain.toNat
        keyPolarity := kp, lead := clamp 0 125 f.lead.toNat, hang := clamp 0 250 f.hang.toNat
        blank := clamp 0 125 f.blank.toNat, keyLimit := clamp 0 600 f.keyLimit.toNat
        cooldown := clamp 1 60 f.cooldown.toNat, priority := clamp 0 3 f.priority.toNat
        homeAgency := BitVec.ofNat 4 (clamp 0 15 f.homeAgency.toNat)
        homeRole := BitVec.ofNat 3 (clamp 0 7 f.homeRole.toNat)
        dataLine := dl, dataRate := dr, dataParity := dp, presencePolarity := pp }
  | _, _, _, _, _, _, _ => none

/-- A numeric field of a PORT_SETUP lies outside its range (R1, R2 step 3). -/
def setupClamped (f : SetupFields) : Bool :=
  15 < f.csDebounce.toNat || 32767 < f.voxThreshold.toNat || 250 < f.voxHold.toNat
    || 4095 < f.rxGain.toNat || 4095 < f.txGain.toNat || 125 < f.lead.toNat || 250 < f.hang.toNat
    || 125 < f.blank.toNat || 600 < f.keyLimit.toNat || f.cooldown.toNat < 1 || 60 < f.cooldown.toNat
    || 3 < f.priority.toNat || 15 < f.homeAgency.toNat || 7 < f.homeRole.toNat

/-- Every field that is not live is the same (R1, R2 step 4): the live fields are VOX threshold, the two gains and the
priority. -/
def sameButLive (a b : Setup) : Bool :=
  decide ({ a with voxThreshold := b.voxThreshold, rxGain := b.rxGain, txGain := b.txGain,
                   priority := b.priority } = b)

/-- The 24 bytes of a setup record in the order of R1 (R190). -/
def setupBytes (s : Setup) : List Byte :=
  [qualifyByte s.qualify, polarityByte s.csPolarity, natByte s.csDebounce]
    ++ natHalf s.voxThreshold ++ [natByte s.voxHold] ++ natHalf s.rxGain ++ natHalf s.txGain
    ++ [polarityByte s.keyPolarity, natByte s.lead, natByte s.hang, natByte s.blank]
    ++ natHalf s.keyLimit
    ++ [natByte s.cooldown, natByte s.priority, natByte s.homeAgency.toNat, natByte s.homeRole.toNat,
        switchByte s.dataLine, dataRateByte s.dataRate, parityByte s.dataParity,
        polarityByte s.presencePolarity]

/-- The bytes of the carried fields of PORT_SETUP. -/
def setupFieldBytes (f : SetupFields) : List Byte :=
  [f.qualify, f.csPolarity, f.csDebounce] ++ halfBytes f.voxThreshold ++ [f.voxHold]
    ++ halfBytes f.rxGain ++ halfBytes f.txGain ++ [f.keyPolarity, f.lead, f.hang, f.blank]
    ++ halfBytes f.keyLimit
    ++ [f.cooldown, f.priority, f.homeAgency, f.homeRole, f.dataLine, f.dataRate, f.dataParity,
        f.presencePolarity]

/-- The fields of a PORT_SETUP payload; byte 0 is the port. -/
def setupFieldsOf (pl : List Byte) : SetupFields where
  qualify := byteAt pl 1
  csPolarity := byteAt pl 2
  csDebounce := byteAt pl 3
  voxThreshold := halfAt pl 4
  voxHold := byteAt pl 6
  rxGain := halfAt pl 7
  txGain := halfAt pl 9
  keyPolarity := byteAt pl 11
  lead := byteAt pl 12
  hang := byteAt pl 13
  blank := byteAt pl 14
  keyLimit := halfAt pl 15
  cooldown := byteAt pl 17
  priority := byteAt pl 18
  homeAgency := byteAt pl 19
  homeRole := byteAt pl 20
  dataLine := byteAt pl 21
  dataRate := byteAt pl 22
  dataParity := byteAt pl 23
  presencePolarity := byteAt pl 24

/-! ## Bridge records (R49, R54) -/

/-- The record that a PLAN_EDIT carries, clamped (R54 step 4); none where a set names a port above RP11 or a switch is
neither on nor off (R54 step 2). -/
def readRecord (f : RecordFields) : Option Record :=
  match portSetOf f.members, portSetOf f.destinations, portSetOf f.alertOnly, switchOf f.preempt,
    switchOf f.override, switchOf f.duck with
  | some m, some d, some a, some pre, some ov, some du => some
      { members := m, destinations := d, alertOnly := a, preempt := pre, override := ov, duck := du
        duckGain := clamp 0 4095 f.duckGain.toNat, talkLimit := clamp 0 255 f.talkLimit.toNat
        alertLength := clamp 0 10 f.alertLength.toNat, alertGain := clamp 0 4095 f.alertGain.toNat }
  | _, _, _, _, _, _ => none

/-- A numeric field of a PLAN_EDIT lies outside its range (R54 step 4). -/
def recordClamped (f : RecordFields) : Bool :=
  4095 < f.duckGain.toNat || 255 < f.talkLimit.toNat || 10 < f.alertLength.toNat
    || 4095 < f.alertGain.toNat

/-- Destinations among the members, alert-only set among the destinations (R51, R54 step 3). -/
def recordNested (r : Record) : Bool :=
  r.destinations &&& r.members == r.destinations && r.alertOnly &&& r.destinations == r.alertOnly

/-- The 16 bytes of a bridge record (R190). -/
def recordBytes (r : Record) : List Byte :=
  halfBytes (r.members.zeroExtend 16) ++ halfBytes (r.destinations.zeroExtend 16)
    ++ halfBytes (r.alertOnly.zeroExtend 16)
    ++ [switchByte r.preempt, switchByte r.override, switchByte r.duck]
    ++ natHalf r.duckGain ++ natHalf r.talkLimit ++ [natByte r.alertLength] ++ natHalf r.alertGain

/-- The bytes of the carried fields of PLAN_EDIT. -/
def recordFieldBytes (f : RecordFields) : List Byte :=
  halfBytes f.members ++ halfBytes f.destinations ++ halfBytes f.alertOnly
    ++ [f.preempt, f.override, f.duck] ++ halfBytes f.duckGain ++ halfBytes f.talkLimit
    ++ [f.alertLength] ++ halfBytes f.alertGain

/-- The fields of a PLAN_EDIT payload; byte 0 is the bridge. -/
def recordFieldsOf (pl : List Byte) : RecordFields where
  members := halfAt pl 1
  destinations := halfAt pl 3
  alertOnly := halfAt pl 5
  preempt := byteAt pl 7
  override := byteAt pl 8
  duck := byteAt pl 9
  duckGain := halfAt pl 10
  talkLimit := halfAt pl 12
  alertLength := byteAt pl 14
  alertGain := halfAt pl 15

/-! ## Watch rules (R164, R165) -/

/-- The rule that a WATCH_SET carries; none where a field is outside its values (R165 steps 2 and 3). -/
def readRule (f : RuleFields) : Option Rule :=
  match switchOf f.enabled with
  | some on =>
    if f.agencyCompare.toNat ≤ 15 ∧ f.agencyCare.toNat ≤ 15 ∧ f.roleCompare.toNat ≤ 7
        ∧ f.roleCare.toNat ≤ 7 then
      some ⟨on, f.agencyCompare.extractLsb' 0 4, f.agencyCare.extractLsb' 0 4,
        f.roleCompare.extractLsb' 0 3, f.roleCare.extractLsb' 0 3, f.bridges⟩
    else none
  | none => none

/-- The 6 bytes of a watch rule (R190). -/
def ruleBytes (r : Rule) : List Byte :=
  [switchByte r.enabled, r.agencyCompare.zeroExtend 8, r.agencyCare.zeroExtend 8,
    r.roleCompare.zeroExtend 8, r.roleCare.zeroExtend 8, r.bridges]

/-- The bytes of the carried fields of WATCH_SET. -/
def ruleFieldBytes (f : RuleFields) : List Byte :=
  [f.enabled, f.agencyCompare, f.agencyCare, f.roleCompare, f.roleCare, f.bridges]

/-- The fields of a WATCH_SET payload; byte 0 is the rule. -/
def ruleFieldsOf (pl : List Byte) : RuleFields where
  enabled := byteAt pl 1
  agencyCompare := byteAt pl 2
  agencyCare := byteAt pl 3
  roleCompare := byteAt pl 4
  roleCare := byteAt pl 5
  bridges := byteAt pl 6

/-! ## Mixer settings (R131) and monitor gains (R155) -/

/-- A numeric field of a MIXER_SETUP lies outside its range (R131 step 2). -/
def mixerClamped (f : MixerFields) : Bool :=
  16383 < f.amplitude.toNat || f.p1.toNat < 2 || 64 < f.p1.toNat || f.p2.toNat < 2
    || 64 < f.p2.toNat || 4095 < f.conGain.toNat

/-- The bytes of MIXER_SETUP. -/
def mixerFieldBytes (f : MixerFields) : List Byte :=
  [f.rate, f.rounding] ++ halfBytes f.amplitude ++ [f.p1, f.p2] ++ halfBytes f.conGain

/-- The fields of a MIXER_SETUP payload. -/
def mixerFieldsOf (pl : List Byte) : MixerFields where
  rate := byteAt pl 0
  rounding := byteAt pl 1
  amplitude := halfAt pl 2
  p1 := byteAt pl 4
  p2 := byteAt pl 5
  conGain := halfAt pl 6

/-- The eight gains of a CONSOLE_MONITOR payload; byte 0 is the mask. -/
def gainsOf (pl : List Byte) : Vector Half 8 := Vector.ofFn fun b : Fin 8 => halfAt pl (1 + 2 * b.val)

/-- The bytes of eight gains. -/
def gainBytes (g : Vector Half 8) : List Byte := g.toList.flatMap halfBytes

/-! ## Replies (R186) -/

/-- The result codes of R186. -/
def resOk : Byte := 0x00
def resClamped : Byte := 0x01
def resRefusedState : Byte := 0x02
def resRefusedRange : Byte := 0x03
def resBusy : Byte := 0x04
def resUnknownKind : Byte := 0x05
def resBadLength : Byte := 0x06
def resBadCheck : Byte := 0x07
def resFull : Byte := 0x08
def resNotFound : Byte := 0x09

/-- OK or CLAMPED (R186). -/
def okOr (clamped : Bool) : Byte := if clamped then resClamped else resOk

/-- The link frame of a reply to a frame of this kind, carrying the result code and, for OK and CLAMPED, the data
(R184, R186). -/
def replyFrame (kind : Byte) (payload : List Byte) : List Byte := frameBytes (kind + 0x80) payload

/-! ## Requests (R190) -/

/-- The payload length that R190 gives for a kind; none where the kind names no request. -/
def requestLength (kind : Byte) : Option Nat :=
  match kind.toNat with
  | 0x01 => some 0 | 0x02 => some 25 | 0x03 => some 1 | 0x04 => some 1 | 0x05 => some 1
  | 0x06 => some 2 | 0x07 => some 17 | 0x08 => some 2 | 0x09 => some 0 | 0x0A => some 0
  | 0x0B => some 1 | 0x0C => some 0 | 0x0D => some 5 | 0x0E => some 2 | 0x0F => some 3
  | 0x10 => some 0 | 0x11 => some 7 | 0x12 => some 1 | 0x13 => some 1 | 0x14 => some 1
  | 0x15 => some 1 | 0x16 => some 0 | 0x17 => some 17 | 0x18 => some 8 | 0x19 => some 0
  | 0x1A => some 0 | 0x1B => some 2 | 0x1C => some 3
  | _ => none

/-- The kind and payload of the link frame that a request command stands for (R190); none for the other commands. -/
def requestFrame : Instr → Option (Byte × List Byte)
  | .describe => some (0x01, [])
  | .portSetup port f => some (0x02, port :: setupFieldBytes f)
  | .portRead port => some (0x03, [port])
  | .portStart port => some (0x04, [port])
  | .portStop port => some (0x05, [port])
  | .manualKey port level => some (0x06, [port, level])
  | .planEdit bridge f => some (0x07, bridge :: recordFieldBytes f)
  | .planRead plan bridge => some (0x08, [plan, bridge])
  | .planCopy => some (0x09, [])
  | .planSwitch => some (0x0A, [])
  | .bridgeRead bridge => some (0x0B, [bridge])
  | .clearBridges => some (0x0C, [])
  | .unitEnter unit agency role override => some (0x0D, halfBytes unit ++ [agency, role, override])
  | .unitRemove unit => some (0x0E, halfBytes unit)
  | .unitRead form first second => some (0x0F, [form, first, second])
  | .purgeLearned => some (0x10, [])
  | .watchSet rule f => some (0x11, rule :: ruleFieldBytes f)
  | .watchRead rule => some (0x12, [rule])
  | .emergencyDeclare port => some (0x13, [port])
  | .emergencyClear port => some (0x14, [port])
  | .consoleTalk bridges => some (0x15, [bridges])
  | .consoleRelease => some (0x16, [])
  | .consoleMonitor mask gains => some (0x17, mask :: gainBytes gains)
  | .mixerSetup f => some (0x18, mixerFieldBytes f)
  | .mixerHalt => some (0x19, [])
  | .mixerRun => some (0x1A, [])
  | .faultClear source flags => some (0x1B, [source, flags])
  | .maskSet source mask switch => some (0x1C, [source, mask, switch])
  | .unknownKind kind payload => some (kind, payload)
  | .planSwitchMade | .linkByteTaken _ | .linkGapTimeout | .replyTransmit | .deviceNotice
  | .consoleNotice | .bridgeNotice _ | .portNotice _ | .linkTransmissionEnd | .reset
  | .resetRelease _ _ | .frameStart | .mixSample _ | .alertHalfPeriod _ | .frameCompletion _ _ _
  | .alertSegmentChange _ | .burstEnd _ | .presenceTaken _ | .carrierTaken _ | .voxHoldExpiry _
  | .dataCharacter _ _ _ _ | .assemblyAgeExpiry _ | .ident _ _ | .emerg _ _ | .emergClear _ _
  | .pendingIdentityExpiry _ | .talkTimerExpiry _ | .drainEnd _ | .hangEnd _ | .blankEnd _
  | .keyLimit _ | .coolBlankEnd _ | .cooldownEnd _ | .dataLineWaitEnd _ | .linkCharacterDiscarded
  | .linkLineWaitEnd => none

/-! ## Unit reports (R24) -/

/-- The five bytes of a unit report. -/
def reportBytes (kind : Byte) (u : UnitId) : List Byte :=
  let hi : Byte := u.extractLsb' 8 8
  let lo : Byte := u.extractLsb' 0 8
  [0x7E, kind, hi, lo, -(kind + hi + lo)]

end Sys2Proof.Machine
end

