-- ==== Sys2Proof/Machine/Reports.lean ====
section
/-! DEFINITION. Data line characters, report assembly and what an accepted report does (spec/02, spec/03 3.2). -/

namespace Sys2Proof.Machine

/-! ## The directory's part (R27 steps 1 and 2) -/

/-- The directory finds U and refreshes its entry, or learns U from the port (R37, R39, R41). An entry just learned with a
clear flag is replaceable (R40) and gives way to the next, where the fourth row of R48's table sets DIRECTORY_FULL (the
model's reading: log entry 36). -/
def State.dirReport (p : PortId) (u : UnitId) (s : State) : State :=
  match s.dir.find u with
  | some _ => { s with dir := s.dir.modify u fun e => { e with lastPort := some p, stamp := s.dir.count } }
  | none =>
    match s.dir.room (hashSet u) with
    | some w => { s with dir := s.dir.put (hashSet u) w (some
        { unit := u, kind := .learned, agency := (s.port p).setup.homeAgency
          role := (s.port p).setup.homeRole, override := none, emergency := s.anySourced u
          lastPort := some p, stamp := s.dir.count }) }
    | none => s.raise srcDevice flagDirectoryFull

/-- The emergency flag of U's entry, if it has one, is written (R42). -/
def State.flagUnit (u : UnitId) (on : Bool) (s : State) : State :=
  { s with dir := s.dir.modify u fun e => { e with emergency := on } }

/-! ## The port controller's part (R28, R29, R31) -/

/-- U is taken as the identity of the talker: the current unit of an engaged port, the pending identity of another
(R28). -/
def State.takeIdentity (p : PortId) (u : UnitId) (s : State) : State :=
  s.updatePort p fun q =>
    if q.engaged then { q with unit := some u }
    else { q with pendingId := some ⟨u, Config.identityWindow⟩ }

/-- U's directory entry has its emergency flag set (R38). -/
def State.unitFlagged (s : State) (u : UnitId) : Bool := (s.dir.entry u).any (·.emergency)

/-- An accepted IDENT (R27, R28). -/
def State.acceptIdent (p : PortId) (u : UnitId) (s : State) : State :=
  let old := s.effPriority p
  let s := (s.dirReport p u).takeIdentity p u
  (if s.unitFlagged u then s.takeEmergency p u else s).handPriority p old

/-- An accepted EMERG (R27, R29). -/
def State.acceptEmerg (p : PortId) (u : UnitId) (s : State) : State :=
  let old := s.effPriority p
  ((((s.dirReport p u).flagUnit u true).takeEmergency p u).takeIdentity p u).handPriority p old

/-- An accepted EMERG_CLEAR (R27, R31, R169). -/
def State.acceptEmergClear (p : PortId) (u : UnitId) (s : State) : State :=
  ((s.dirReport p u).flagUnit u false).leaveAllSourced u

/-- A complete report: judged, and it acts or sets REPORT_CHECK (R26). -/
def State.judgeReport (p : PortId) (kind hi lo check : Byte) (s : State) : State :=
  let u : UnitId := hi ++ lo
  if kind + hi + lo + check ≠ 0 ∨ validUnit u = false then s.raise (srcPort p) flagReportCheck
  else if kind = 1 then s.acceptIdent p u
  else if kind = 2 then s.acceptEmerg p u
  else if kind = 3 then s.acceptEmergClear p u
  else s.raise (srcPort p) flagReportCheck

/-! ## The receiver (R21 to R24) -/

/-- The receiver of the port enters a state. -/
def State.setReceiver (p : PortId) (r : Receiver) (s : State) : State :=
  s.setPort p { s.port p with receiver := r }

/-- A byte received is taken by the report assembly (R24). -/
def State.takeDataByte (p : PortId) (b : Byte) (s : State) : State :=
  match (s.port p).receiver with
  | .idle => s
  | .hunting => if b = 0x7E then s.setReceiver p (.assembling [] 0) else s
  | .assembling held age =>
    if b = 0x7E then s.setReceiver p (.assembling [] 0)
    else match held with
      | [kind, hi, lo] => (s.setReceiver p .hunting).judgeReport p kind hi lo b
      | _ => s.setReceiver p (.assembling (held ++ [b]) age)

/-- The parity bit is right for the data bits (R21). -/
def parityGood (par : Parity) (data : Byte) (bit : Bool) : Bool :=
  let odd := (List.range 8).foldl (fun acc i => acc ^^ data.getLsbD i) bit
  match par with
  | .none => true
  | .even => !odd
  | .odd => odd

/-- The level of DATAn as now seen (log entry 10). -/
def State.seeDataLine (p : PortId) (high : Bool) (s : State) : State :=
  { s with dataLines :=
      if high then s.dataLines ||| (1#12 <<< p.val) else s.dataLines &&& ~~~(1#12 <<< p.val) }

/-- The receiver takes falling edges: HUNTING or ASSEMBLING, and in no line wait (R21, R23). -/
def Port.receiving (q : Port) : Bool := q.receiver != .idle && !q.lineWait

/-- A whole character on DATAn (R21, R22). Its stop bit is not the sample that ends a line wait: a character with a high
stop bit that comes in a line wait is not taken, and the wait goes on until its own event ends it (the model's choice: log
entry 26). -/
def State.takeCharacter (p : PortId) (data : Byte) (parity stop : Bool) (s : State) : State :=
  let s := s.seeDataLine p stop
  let q := s.port p
  if !q.receiving then s
  else
    let badParity := !parityGood q.setup.dataParity data parity
    if stop && !badParity then s.takeDataByte p data
    else
      ((s.setPort p { q with receiver := .hunting, lineWait := !stop }).raiseIf (!stop) (srcPort p)
        flagDataFraming).raiseIf badParity (srcPort p) flagDataParity

/-- The parity bit that a radio sends with these data bits. -/
def sentParity (par : Parity) (data : Byte) : Bool := parityGood par data true

/-- A whole good report arrives on DATAn, its five characters one after the other (R24, log entry 4). A report that can
be carried is accepted, whatever was under assembly; any other is taken byte by byte. -/
def State.takeReport (p : PortId) (kind : Byte) (u : UnitId) (accept : State → State) (s : State) : State :=
  if validUnit u && reportCarriable kind u && (s.port p).receiving then
    accept ((s.seeDataLine p true).setReceiver p .hunting)
  else (reportBytes kind u).foldl
    (fun s b => s.takeCharacter p b (sentParity (s.port p).setup.dataParity b) true) s

end Sys2Proof.Machine
end

