-- ==== Sys2Proof/Machine/Completion.lean ====
section
/-! DEFINITION. What a frame completion counts (R127 and the rules of each counter), and the events that it brings: how
each is taken, and what takes those that no command has named (log entries 5 and 6). -/

namespace Sys2Proof.Machine

/-! ## The counts of one port -/

/-- The presence sample differs from the taken level (R10). -/
def Port.presenceDiffers (q : Port) (presHigh : Bool) : Bool :=
  throughPolarity q.setup.presencePolarity presHigh != q.present

/-- The presence sample is the second consecutive differing one (R10). -/
def Port.presenceReached (q : Port) (presHigh : Bool) : Bool :=
  q.presenceDiffers presHigh && q.presenceCount == 1

/-- The port samples its carrier qualifier and VOX detector at this completion: it is ACTIVE and takes no presence loss
(R10, R12, R13). -/
def Port.sampling (q : Port) (presHigh : Bool) : Bool :=
  q.lifecycle == .active && !(q.present && q.presenceReached presHigh)

/-- The change count of the carrier qualifier after a CS sample (R12). -/
def Port.carrierNext (q : Port) (csHigh : Bool) : Nat :=
  if throughPolarity q.setup.csPolarity csHigh = q.carrier then 0 else q.carrierCount + 1

/-- The quiet count of the VOX detector after a frame of this level (R13). -/
def Port.quietNext (q : Port) (level : Nat) : Nat :=
  if q.vox = true ∧ level < q.setup.voxThreshold then q.quietCount + 1 else 0

/-- The VOX level of a frame (R135): the sum of absolute values divided by the number of samples. -/
def voxLevelOf (rate : SampleRate) (sum : Nat) : Nat := sum / frameLength rate

/-- One completion added to the assembly age of a report under assembly (R25). -/
def Receiver.aged : Receiver → Receiver
  | .assembling held age => .assembling held (age + 1)
  | .idle => .idle
  | .hunting => .hunting

/-- The counts of a port at a frame completion, its key machine's apart (R10, R12, R13, R25, R30, R127). A count that
reaches its end stands there until its event is taken. -/
def Port.completed (rate : SampleRate) (csHigh presHigh : Bool) (q : Port) : Port :=
  let level := voxLevelOf rate q.voxSum
  { q with
    presenceCount := if q.presenceDiffers presHigh then 1 else 0
    carrierCount := if q.sampling presHigh then q.carrierNext csHigh else q.carrierCount
    quietCount := if q.sampling presHigh then q.quietNext level else q.quietCount
    voxSum := 0
    voxLevel := level
    receiver := q.receiver.aged
    pendingId := q.pendingId.map fun i => { i with window := i.window - 1 } }

/-- The change count has reached CS debounce + 1 (R12). -/
def Port.carrierReached (q : Port) : Bool := q.setup.csDebounce + 1 ≤ q.carrierCount

/-- The quiet count has reached VOX hold + 1 (R13). -/
def Port.quietReached (q : Port) : Bool := q.setup.voxHold + 1 ≤ q.quietCount

/-- The detector is off and the level handed to it is loud (R13). -/
def Port.voxLoud (q : Port) : Bool :=
  q.lifecycle == .active && !q.vox && q.setup.voxThreshold ≤ q.voxLevel

/-- The assembly age has reached its limit (R25). -/
def Port.ageReached (q : Port) : Bool :=
  match q.receiver with
  | .assembling _ age => Config.assemblyAge ≤ age
  | .idle | .hunting => false

/-- The window of the pending identity has run out (R30). -/
def Port.windowOver (q : Port) : Bool := q.pendingId.any (·.window == 0)

/-! ## The counts of one bridge -/

/-- The talk timer of the holder stands at its last frame (R88). -/
def Bridge.timerLast (r : Bridge) : Bool := r.holder.any fun h => h.timer.any (· ≤ 1)

/-- The holder's talk timer, if present, counted down by one (R87). -/
def Bridge.timerCounted (r : Bridge) : Bridge :=
  { r with holder := r.holder.map fun h => { h with timer := h.timer.map (· - 1) } }

/-- The segment has lasted its frames (R141). -/
def Bridge.segmentReached (r : Bridge) : Bool := r.burst != 0 && Config.segmentFrames ≤ r.phase.frames

/-- The counts of a bridge at a frame completion: ring position (R136), segment frame count (R141), burst remaining (R142)
and talk timer (R87). The last frame of a burst and of a talk timer is left to its event. -/
def Bridge.completed (late : Bool) (r : Bridge) : Bridge :=
  let r := { r with writePos := r.writePos + 1 }
  let r := if r.burst = 0 then r else { r with
    phase := { r.phase with frames := r.phase.frames + 1 }
    burst := if r.burst = 1 then 1 else r.burst - 1 }
  if late || r.timerLast then r else r.timerCounted

/-! ## The events -/

/-- The level of the alert tone turns at the end of its half-period (R141). -/
def State.turnLevel (b : BridgeId) (s : State) : State :=
  let r := s.bridge b
  if r.burst = 0 then s
  else s.setBridge b { r with phase := { r.phase with positive := !r.phase.positive, samples := 0 } }

/-- The other segment. -/
def Segment.other : Segment → Segment
  | .first => .second
  | .second => .first

/-- The segment of the alert tone changes (R141). -/
def State.changeSegment (b : BridgeId) (s : State) : State :=
  let r := s.bridge b
  if r.segmentReached then s.setBridge b { r with phase := ⟨r.phase.segment.other, 0, true, 0⟩ } else s

/-- The completion that brings the burst remaining to 0 ends the burst (R142, R143). -/
def State.endBurst (b : BridgeId) (s : State) : State :=
  let r := s.bridge b
  if r.burst = 1 then
    ((s.setBridge b { r with burst := 0, phase := .start }).reportChange (srcBridge b)).handOn
  else s

/-- A pending identity whose window has run out is dropped (R30). -/
def State.expireIdentity (p : PortId) (s : State) : State :=
  if (s.port p).windowOver then s.setPort p { s.port p with pendingId := none } else s

/-- A report that is incomplete at its assembly age limit is discarded (R25). -/
def State.expireAssembly (p : PortId) (s : State) : State :=
  if (s.port p).ageReached then (s.setReceiver p .hunting).raise (srcPort p) flagReportCheck else s

/-- The cut of a holder (R88): barred, the bridge releases, TALK_TIMEOUT. -/
def State.cut (b : BridgeId) (who : Talker) (s : State) : State :=
  let s := match who with
    | .port p => if (s.port p).engaged then s.updatePort p fun q => { q with bar := true } else s
    | .con => s
  ((s.release b).raise (srcBridge b) flagTalkTimeout).handOn

/-- The count of the holder's talk timer is taken; at its last frame the timer expires (R87, R88). -/
def State.talkTick (b : BridgeId) (s : State) : State :=
  match (s.bridge b).holder with
  | none => s
  | some h =>
    if (s.bridge b).timerLast then s.cut b h.who
    else s.setBridge b (s.bridge b).timerCounted

/-- The new presence level is taken (R10). -/
def State.takePresence (p : PortId) (s : State) : State :=
  let s := s.setPort p { s.port p with present := !(s.port p).present, presenceCount := 0 }
  let q := s.port p
  match q.lifecycle, q.present with
  | .active, false => s.depart p .lost
  | .lost, true => s.activate p
  | .active, true | .lost, false | .off, _ => s

/-- The qualifiers of a port after a change that has come due: the carrier level that its count has reached, the VOX
detector off at the end of its hold, or on at a loud frame (R12, R13). -/
def Port.requalified (q : Port) : Port :=
  let c := if q.carrierReached then { q with carrier := !q.carrier, carrierCount := 0 } else q
  if c.quietReached then { c with vox := false, quietCount := 0 }
  else if c.voxLoud then { c with vox := true, quietCount := 0 }
  else c

/-- The changes of the carrier qualifier and the VOX detector of one completion are taken together, with a single change
of engagement, or none (R14). -/
def State.requalify (p : PortId) (s : State) : State :=
  ((s.setPort p (s.port p).requalified).judgeEngagement false p).handOn

/-- One event or count that is due is taken. -/
def State.takeDue (s : State) : Due → State
  | .half b => s.turnLevel b
  | .segment b => s.changeSegment b
  | .burstEnd b => s.endBurst b
  | .window p => s.expireIdentity p
  | .age p => s.expireAssembly p
  | .talk b => s.talkTick b
  | .key p => s.keyTick p
  | .presence p => s.takePresence p
  | .qualify p => s.requalify p

/-- Everything that a completion has brought and no command has named is taken, in its order (log entry 5). -/
def State.settle (s : State) : State := s.due.foldl State.takeDue { s with due := [] }

/-- The event that a command names is taken, where it is due and comes about (log entries 5, 8). -/
def State.takeNamed (d : Due) (comesAbout : Bool) (s : State) : State :=
  if d ∈ s.due ∧ comesAbout = true then State.takeDue { s with due := s.due.erase d } d else s

/-! ## The frame completion -/

/-- The key machine's count of port p is left to be taken as an event: it moves the machine, or the command says that it
comes late (log entry 6). -/
def keyLeft (late : Late) (p : PortId) (q : Port) : Bool := late.keys.getLsbD p || q.keyEventNext

/-- The VOX detector of the counted port turns on within the completion: no carrier change is taken with it, and the
command does not say that it comes late (R13, R14). -/
def voxNow (late : Late) (p : PortId) (sampled : Bool) (q : Port) : Bool :=
  sampled && q.voxLoud && !q.carrierReached && !late.vox.getLsbD p

/-- A qualifier change of the counted port is left to be taken as an event. -/
def qualifyLeft (late : Late) (p : PortId) (sampled : Bool) (q : Port) : Bool :=
  sampled && (q.carrierReached || q.quietReached || (q.voxLoud && late.vox.getLsbD p))

/-- The ports and bridges for which a test holds, as events. -/
def dueOf {α : Type} (all : List α) (test : α → Bool) (event : α → Due) : List Due :=
  (all.filter test).map event

/-- The events that a completion brings, in the order in which they are taken where no command names another: bursts,
windows and ages; the last frames of talk timers; key machine counts that move a machine; presence; qualifiers; and then
the counts that the command says are taken late. `s` is the state before the completion and `t` after its counts. -/
def State.brought (pres : PortSet) (late : Late) (s t : State) : List Due :=
  let sampled (p : PortId) := (s.port p).sampling (pres.getLsbD p)
  let carrierOrQuiet (p : PortId) := sampled p && ((t.port p).carrierReached || (t.port p).quietReached)
  let moves (p : PortId) := (s.port p).keyEventNext
  dueOf allBridges (fun b => (t.bridge b).segmentReached) .segment
    ++ dueOf allBridges (fun b => (s.bridge b).burst == 1) .burstEnd
    ++ dueOf allPorts (fun p => (t.port p).windowOver) .window
    ++ dueOf allPorts (fun p => (t.port p).ageReached) .age
    ++ dueOf allBridges (fun b => !late.timers.getLsbD b && (s.bridge b).timerLast) .talk
    ++ dueOf allPorts (fun p => !late.keys.getLsbD p && moves p) .key
    ++ dueOf allPorts (fun p => (s.port p).presenceReached (pres.getLsbD p)) .presence
    ++ dueOf allPorts carrierOrQuiet .qualify
    ++ dueOf allBridges (fun b => late.timers.getLsbD b) .talk
    ++ dueOf allPorts (fun p => late.keys.getLsbD p) .key
    ++ dueOf allPorts (fun p => qualifyLeft late p (sampled p) (t.port p) && !carrierOrQuiet p) .qualify

/-- The plain counts of a completion (R36, R125, R127): the frame leaves the mixer, its outputs go on their way to SBOUT,
and every port, bridge and the directory count it. -/
def State.counted (cs pres : PortSet) (late : Late) (s : State) : State :=
  { s with
    ports := Vector.ofFn fun p : PortId =>
      let q := (s.port p).completed s.mixer.rate (cs.getLsbD p) (pres.getLsbD p)
      if keyLeft late p (s.port p) then q else q.keyCounted
    bridges := Vector.ofFn fun b : BridgeId => (s.bridge b).completed (late.timers.getLsbD b)
    dir := { s.dir with count := s.dir.count + 1 }
    mixer := { s.mixer with frame := none, sending := s.mixer.forming, forming := [] } }

/-- A frame completion (R127): the counts, the events they bring, and the VOX detectors that turn on with it. Several that
turn on at one completion do so in port order, each with its change of engagement and its bid (R14; the order among them is
the model's choice: log entry 30). -/
def State.completeFrame (cs pres : PortSet) (late : Late) (s : State) : State :=
  let t := s.counted cs pres late
  let turning := allPorts.filter fun p =>
    voxNow late p ((s.port p).sampling (pres.getLsbD p)) (t.port p)
  turning.foldl (fun s p => s.requalify p) { t with due := s.brought pres late t }

end Sys2Proof.Machine
end

