-- ==== Sys2Proof/Machine/Answers.lean ====
section
/-! DEFINITION. What a request answers (R186), and the runtime state of sources as replies and notices carry it: the
payloads of R192 and section 11.7. -/

namespace Sys2Proof.Machine

/-- The result code of a reply and its data (R186). -/
structure Answer where
  code : Byte
  data : List Byte
  deriving DecidableEq, Repr

/-- The request was taken as carried. -/
def Answer.ok (data : List Byte) : Answer := ⟨resOk, data⟩

/-- A result that stands alone. -/
def Answer.bare (code : Byte) : Answer := ⟨code, []⟩

/-- The payload of the reply. -/
def Answer.payload (a : Answer) : List Byte := a.code :: a.data

/-- What a request does: the state after it and its answer, or no answer while its switch is pending (R58, R185). -/
abbrev Action := State → State × Option Answer

/-- A request that changes nothing and is answered with a bare result. -/
def State.refuse (code : Byte) (s : State) : State × Option Answer := (s, some (.bare code))

/-- A request that has acted and is answered OK with data. -/
def State.answerOk (data : List Byte) (s : State) : State × Option Answer := (s, some (.ok data))

/-! ## Payloads of notices (R192, section 11.7) -/

/-- The fault flags of a source in one byte. -/
def State.flagsByte (s : State) (src : Source) : Byte := s.notices.flags[src].zeroExtend 8

/-- Byte 1 of a port's runtime state. -/
def portStatusByte (q : Port) : Byte :=
  natByte (lifecycleCode q.lifecycle + (if q.present then 4 else 0) + (if q.carrier then 8 else 0)
    + (if q.vox then 16 else 0) + (if q.engaged then 32 else 0) + (if q.bar then 64 else 0)
    + (if q.emergency = .none then 0 else 128))

/-- The emergency source unit. -/
def sourceUnit : Emergency → Option UnitId
  | .none => none
  | .active u => u

/-- The 10 bytes of a port's runtime state. -/
def State.portPayload (s : State) (p : PortId) : List Byte :=
  let q := s.port p
  [natByte p.val, portStatusByte q, keyByte q.key, s.flagsByte (srcPort p)]
    ++ unitBytes q.unit ++ unitBytes (q.pendingId.map (·.unit)) ++ unitBytes (sourceUnit q.emergency)

/-- A holder in four bits: 12 for CON. -/
def talkerCode : Talker → Nat
  | .port p => p.val
  | .con => 12

/-- Bytes 1 to 7 of a bridge's runtime state: the holder. -/
def holderBytes : Option Holder → List Byte
  | none => [15, 0, 0, 0, 0, 0, 0]
  | some h => natByte (talkerCode h.who + 16 * h.priority) :: stampBytes h.stamp ++ timeBytes h.timer

/-- The low 16 bits of an arrival stamp. -/
def lowStampBytes (w : Stamp) : List Byte := halfBytes (w.extractLsb' 0 16)

/-- The 5 bytes of a stack entry. -/
def stackEntryBytes (e : StackEntry) : List Byte :=
  natByte (e.port.val + (if e.tag = Tag.valid then 128 else 0)) :: timeBytes e.saved
    ++ lowStampBytes e.stamp

/-- The 3 bytes of a queue entry, with its port's effective priority as it now stands. -/
def State.queueEntryBytes (s : State) (e : QueueEntry) : List Byte :=
  natByte (e.port.val + 16 * s.effPriority e.port) :: lowStampBytes e.stamp

/-- The 12 + 5S + 3Q bytes of a bridge's runtime state (R93). -/
def State.bridgePayload (s : State) (b : BridgeId) : List Byte :=
  let r := s.bridge b
  natByte b.val :: holderBytes r.holder
    ++ [natByte (r.stack.length + 16 * r.queue.length)] ++ natHalf r.burst ++ [s.flagsByte (srcBridge b)]
    ++ r.stack.flatMap stackEntryBytes ++ r.queue.flatMap s.queueEntryBytes

/-- The 19 bytes of the console's state (R146). -/
def State.consolePayload (s : State) : List Byte :=
  [s.console.talk, s.console.monitorMask] ++ s.console.monitorGains.toList.flatMap natHalf
    ++ [s.flagsByte srcConsole]

/-- The 2 bytes of the device's state: start-up indication and flags (R175). -/
def State.devicePayload (s : State) : List Byte := [switchByte s.notices.started, s.flagsByte srcDevice]

end Sys2Proof.Machine
end

