-- ==== Sys2Proof/Machine/Routing.lean ====
section
/-! DEFINITION. The plan switch (spec/04 4.4, spec/06 R121) and CLEAR_BRIDGES (spec/05 R94, spec/06 R122). -/

namespace Sys2Proof.Machine

/-! ## The plan switch -/

/-- The new talk limit applied to a time of a radio port (R61). -/
def limitTime (limit : Nat) (t : Option Nat) : Option Nat :=
  if limit = 0 then none
  else match t with
    | some n => some (min n (limit * Config.framesPerSecond))
    | none => some (limit * Config.framesPerSecond)

/-- The new talk limit applied to the holder's timer; the console keeps none (R61). -/
def limitHolder (limit : Nat) (h : Holder) : Holder :=
  match h.who with
  | .port _ => { h with timer := limitTime limit h.timer }
  | .con => h

/-- The new talk limit applied to a VALID stack entry (R61). -/
def limitEntry (limit : Nat) (e : StackEntry) : StackEntry :=
  if e.tag = Tag.valid then { e with saved := limitTime limit e.saved } else e

/-- Step 1 of a switch for one bridge: queue entries and stack entries of non-members, the new talk limit, and a holder
that is not a member (R60). -/
def State.removeNonMembers (s : State) (b : BridgeId) : State :=
  let new := s.record b
  let s := s.updateBridge b fun r => { r with
    queue := r.queue.filter fun e => new.members.getLsbD e.port
    stack := r.stack.map fun e =>
      if new.members.getLsbD e.port then e else { e with tag := Tag.empty } }
  let s := s.updateBridge b fun r => { r with
    holder := r.holder.map (limitHolder new.talkLimit)
    stack := r.stack.map (limitEntry new.talkLimit) }
  match (s.bridge b).holder with
  | some h => match h.who with
    | .port p => if new.members.getLsbD p then s else s.release b
    | .con => s
  | none => s

/-- A running burst under the new alert length: ended, shortened or kept (R65, R143); an end or a shortening is
reported (R68). -/
def State.adjustBurst (s : State) (b : BridgeId) : State :=
  let r := s.bridge b
  let frames := (s.record b).alertLength * Config.framesPerSecond
  if r.burst ≤ frames then s
  else (s.setBridge b { r with
      burst := frames
      phase := if frames = 0 then .start else r.phase }).reportChange (srcBridge b)

/-- A port that was a destination of a bridge in the old records and is not one of the same bridge in the new (R62). -/
def destinationRemoved (old new : Vector Record 8) (p : PortId) : Bool :=
  (destinationIn old p).any fun b => !new[b].destinations.getLsbD p

/-- The destination-removal effect (R121). -/
def State.removeDestination (s : State) (old : Vector Record 8) (p : PortId) : State :=
  if destinationRemoved old s.activeRecords p then
    match (s.port p).key with
    | .keyed | .drain | .hang => s.enterBlank false p
    | .deferred => s.setKey p .idle 0 0
    | .idle | .blank | .cool => s
  else s

/-- A port newly a member of a bridge: a member of it in the new records and not in the old (R63). -/
def newlyMember (old new : Vector Record 8) (p : PortId) : Bool :=
  (memberIn new p).any fun b => !old[b].members.getLsbD p

/-- The switch (R59 to R65): the plans are exchanged; non-members are removed and bursts adjusted; destinations are
removed; new members bid in port order (R63); then the key machines judge. The destination-removal effect reaches the ports
in port order, each with the bid that it brings where blank is 0 (R62 gives no order: log entry 32). -/
def State.switchPlans (s : State) : State :=
  let old := s.activeRecords
  let s := { s with plans := { s.plans with active := s.plans.active + 1, switchPending := false } }
  let s := allBridges.foldl State.removeNonMembers s
  let s := allBridges.foldl State.adjustBurst s
  let s := allPorts.foldl (fun s p => (s.removeDestination old p).takeHandedBids) s
  let s := allPorts.foldl (fun s p =>
    if newlyMember old s.activeRecords p then s.takeBid p else s) s
  s.handOn

/-! ## CLEAR_BRIDGES -/

/-- Step 2 of R94 for one bridge: everything of its runtime record but the write position. -/
def State.emptyBridge (s : State) (b : BridgeId) : State :=
  let running := (s.bridge b).burst != 0
  (s.updateBridge b fun r => { r with
    holder := none, stack := [], queue := [], burst := 0, phase := .start, ring := [] }).reportIf
      running (srcBridge b)

/-- Step 3 of R94 for one port. -/
def State.barEngaged (s : State) (p : PortId) : State :=
  if (s.port p).engaged then s.updatePort p fun q => { q with bar := true } else s

/-- Step 4 of R94 for one key machine (R122). An engagement that begins here is barred. -/
def State.clearKey (s : State) (p : PortId) : State :=
  let q := s.port p
  match q.key with
  | .keyed | .drain | .hang =>
    if q.lifecycle = .active then s.enterBlank true p else s.enterIdle true p
  | .blank | .cool => s.enterIdle true p
  | .deferred => s.setKey p .idle 0 0
  | .idle => s

/-- CLEAR_BRIDGES (R94). -/
def State.clearAllBridges (s : State) : State :=
  let talking := s.console.talk != 0
  let s := { s with console := { s.console with talk := 0 } }.reportIf talking srcConsole
  let s := allBridges.foldl State.emptyBridge s
  let s := allPorts.foldl State.barEngaged s
  allPorts.foldl State.clearKey s

end Sys2Proof.Machine
end

