-- ==== Sys2Proof/Machine/ConsoleRequests.lean ====
section
/-! DEFINITION. What the requests of spec/07, spec/08, spec/10 and DESCRIBE do: CONSOLE_TALK, CONSOLE_RELEASE,
CONSOLE_MONITOR, MIXER_SETUP, MIXER_HALT, MIXER_RUN, FAULT_CLEAR, MASK_SET, DESCRIBE. -/

namespace Sys2Proof.Machine

/-! ## The console -/

/-- The leaving bridges are left in bridge order, each change handed on before the next (R149). -/
def State.leaveBridges (leaving : BridgeSet) (s : State) : State :=
  allBridges.foldl (fun s (b : BridgeId) => if leaving.getLsbD b then (s.consoleLeave b).handOn else s) s

/-- The joining bridges are bid into in bridge order, each change handed on before the next (R150). -/
def State.joinBridges (joining : BridgeSet) (s : State) : State :=
  allBridges.foldl (fun s (b : BridgeId) => if joining.getLsbD b then (s.bid b .con).handOn else s) s

/-- The talk set becomes the carried set; a change is reported (R146, R148 step 5). -/
def State.writeTalk (carried : BridgeSet) (s : State) : State :=
  { s with console := { s.console with talk := carried } }.reportIf (s.console.talk != carried) srcConsole

/-- Steps 2 to 5 of R148. -/
def State.moveConsole (carried : BridgeSet) (s : State) : State :=
  let held := s.console.talk
  ((s.leaveBridges (held &&& ~~~carried)).joinBridges (carried &&& ~~~held)).writeTalk carried

/-- CONSOLE_TALK (R148). -/
def talk (carried : BridgeSet) : Action := fun s =>
  match s.mixer.mode with
  | .halted => s.refuse resRefusedState
  | .run => (s.moveConsole carried).answerOk [carried]

/-- CONSOLE_RELEASE (R152). -/
def releaseConsole : Action := fun s =>
  match s.mixer.mode with
  | .halted => s.refuse resRefusedState
  | .run => (s.moveConsole 0).answerOk [0]

/-- CONSOLE_MONITOR (R155). -/
def monitor (mask : BridgeSet) (gains : Vector Half 8) : Action := fun s =>
  match s.mixer.mode with
  | .halted => s.refuse resRefusedState
  | .run =>
    ({ s with console := { s.console with
        monitorMask := mask
        monitorGains := gains.map fun g => clamp 0 4095 g.toNat } },
      some (.bare (okOr (gains.toList.any fun g => 4095 < g.toNat))))

/-! ## The mixer -/

/-- MIXER_SETUP (R131). -/
def setupMixer (f : MixerFields) : Action := fun s =>
  match rateOf f.rate, roundingOf f.rounding with
  | some rate, some rounding =>
    if s.mixer.mode = .run ∧ rate ≠ s.mixer.rate then s.refuse resRefusedState
    else ({ s with mixer := { s.mixer with
        rate := rate, rounding := rounding
        amplitude := clamp 0 16383 f.amplitude.toNat
        p1 := clamp 2 64 f.p1.toNat, p2 := clamp 2 64 f.p2.toNat
        conGain := clamp 0 4095 f.conGain.toNat } },
      some (.bare (okOr (mixerClamped f))))
  | _, _ => s.refuse resRefusedRange

/-- The frame in progress is abandoned and the mixer halted, with SBOUT at 0 (R128, R129). -/
def State.haltMixer (s : State) : State :=
  { s with
    ports := s.ports.map fun q => { q with voxSum := 0 }
    mixer := { s.mixer with
      mode := .halted, frame := none, forming := [], sending := [], sbout := silence } }

/-- MIXER_HALT (R129). -/
def halt : Action := fun s =>
  match s.mixer.mode with
  | .run => s.clearAllBridges.haltMixer.answerOk []
  | .halted => s.clearAllBridges.answerOk []

/-- MIXER_RUN (R130). -/
def run : Action := fun s =>
  match s.mixer.mode with
  | .run => s.answerOk []
  | .halted => State.answerOk [] { s with mixer := { s.mixer with mode := .run } }

/-! ## The notice unit -/

/-- The set names a flag that the source does not have (R177 step 2, R178 step 2). -/
def beyondFlags (src : Source) (flags : Byte) : Bool := flags >>> flagCount src != 0

/-- FAULT_CLEAR (R177). -/
def clearFault (source flags : Byte) : Action := fun s =>
  match sourceOf source with
  | none => s.refuse resRefusedRange
  | some src =>
    if beyondFlags src flags then s.refuse resRefusedRange
    else
      let s := s.clearFlags src (flags.extractLsb' 0 6)
      s.answerOk [s.flagsByte src]

/-- MASK_SET (R178). -/
def setMask (source mask switch : Byte) : Action := fun s =>
  match sourceOf source with
  | none => s.refuse resRefusedRange
  | some src =>
    if beyondFlags src mask then s.refuse resRefusedRange
    else match switchOf switch with
      | none => s.refuse resRefusedRange
      | some on =>
        if src = srcDevice ∧ on = true then s.refuse resRefusedRange
        else (s.writeMask src (mask.extractLsb' 0 6) on).answerOk [mask, switch]

/-! ## DESCRIBE -/

/-- The 17 bytes of DESCRIBE, field by field as R191 lists them. R146 says that DESCRIBE returns the console's values too,
and that the link chapter, which is R191's, gives it: none but the console receive gain is there (DEDUCED: log entry
12). -/
def State.description (s : State) : List Byte :=
  [12, 8, modeByte s.mixer.mode, rateByte s.mixer.rate, roundingByte s.mixer.rounding]
    ++ natHalf s.mixer.amplitude ++ [natByte s.mixer.p1, natByte s.mixer.p2] ++ natHalf s.mixer.conGain
    ++ [natByte s.plans.active.val, linkRateByte s.link.rate] ++ stampBytes s.bidCounter

/-- DESCRIBE (R191). -/
def describe : Action := fun s => s.answerOk s.description

end Sys2Proof.Machine
end

