-- ==== Sys2Proof/Machine/EmergencyRequests.lean ====
section
/-! DEFINITION. What the requests of spec/09 do: WATCH_SET, WATCH_READ, EMERGENCY_DECLARE, EMERGENCY_CLEAR. -/

namespace Sys2Proof.Machine

/-- A rule number: 0 to 7. -/
def ruleOf (b : Byte) : Option (Fin 8) := if h : b.toNat < 8 then some ⟨b.toNat, h⟩ else none

/-- WATCH_SET (R165). -/
def setWatch (rule : Byte) (f : RuleFields) : Action := fun s =>
  match ruleOf rule, readRule f with
  | some n, some new => State.answerOk [] { s with watch := s.watch.set n new }
  | some _, none => s.refuse resRefusedRange
  | none, _ => s.refuse resRefusedRange

/-- WATCH_READ (R167). -/
def readWatch (rule : Byte) : Action := fun s =>
  match ruleOf rule with
  | some n => s.answerOk (rule :: ruleBytes s.watch[n])
  | none => s.refuse resRefusedRange

/-- EMERGENCY_DECLARE (R166). -/
def declare (port : Byte) : Action := fun s =>
  match portOf port with
  | none => s.refuse resRefusedRange
  | some p =>
    match (s.port p).emergency with
    | .active _ => s.answerOk [0]
    | .none =>
      let alerted := if s.mixer.mode = .run then s.alertedBridges p else []
      State.answerOk [bridgeSet alerted] ((s.enterEmergency p none).handPriority p (s.effPriority p))

/-- EMERGENCY_CLEAR (R168). -/
def clearEmergency (port : Byte) : Action := fun s =>
  match portOf port with
  | none => s.refuse resRefusedRange
  | some p =>
    match (s.port p).emergency with
    | .none => s.answerOk (halfBytes 0)
    | .active none => State.answerOk (halfBytes ((portSet [p]).zeroExtend 16)) (s.leaveEmergency p)
    | .active (some u) =>
      State.answerOk (halfBytes ((portSet (allPorts.filter (s.sourcedFrom u))).zeroExtend 16))
        ((s.flagUnit u false).leaveAllSourced u)

end Sys2Proof.Machine
end

