-- ==== Sys2Proof/Machine/PlanRequests.lean ====
section
/-! DEFINITION. What the requests of spec/04 and spec/05 do: PLAN_EDIT, PLAN_READ, PLAN_COPY, PLAN_SWITCH, BRIDGE_READ,
CLEAR_BRIDGES. -/

namespace Sys2Proof.Machine

/-- The edit plan is the plan that is not active (R53). -/
def State.editPlan (s : State) : Fin 2 := s.plans.active + 1

/-- A port among the members is a member of another bridge of the edit plan (R54 step 5). -/
def State.memberElsewhere (s : State) (b : BridgeId) (members : PortSet) : Bool :=
  allBridges.any fun c => c != b && s.plans.records[s.editPlan][c].members &&& members != 0

/-- A record of the edit plan is replaced (R54 step 6, R55). -/
def State.writeRecord (b : BridgeId) (new : Record) (s : State) : State :=
  { s with plans := { s.plans with
      records := s.plans.records.set s.editPlan (s.plans.records[s.editPlan].set b new) } }

/-- PLAN_EDIT (R54). -/
def editPlan (bridge : Byte) (f : RecordFields) : Action := fun s =>
  match bridgeOf bridge, readRecord f with
  | some b, some new =>
    if recordNested new = false then s.refuse resRefusedRange
    else if s.memberElsewhere b new.members then s.refuse resRefusedState
    else (s.writeRecord b new, some (.bare (okOr (recordClamped f))))
  | some _, none => s.refuse resRefusedRange
  | none, _ => s.refuse resRefusedRange

/-- A plan number: 0 or 1. -/
def planOf (n : Byte) : Option (Fin 2) := if h : n.toNat < 2 then some ⟨n.toNat, h⟩ else none

/-- PLAN_READ (R56, R190). -/
def readPlan (plan bridge : Byte) : Action := fun s =>
  match planOf plan, bridgeOf bridge with
  | some n, some b => s.answerOk
      ([plan, switchByte (decide (n = s.plans.active)), bridge] ++ recordBytes s.plans.records[n][b])
  | _, _ => s.refuse resRefusedRange

/-- PLAN_COPY (R57). -/
def copyPlan : Action := fun s =>
  State.answerOk [] { s with plans := { s.plans with
    records := s.plans.records.set s.editPlan s.activeRecords } }

/-- PLAN_SWITCH (R58, R66): pending with the mixer RUN, made at once with the mixer HALTED. -/
def switchPlan : Action := fun s =>
  match s.mixer.mode with
  | .run => ({ s with plans := { s.plans with switchPending := true } }, none)
  | .halted =>
    let s := s.switchPlans
    s.answerOk [natByte s.plans.active.val]

/-- BRIDGE_READ (R93, R190). -/
def readBridge (bridge : Byte) : Action := fun s =>
  match bridgeOf bridge with
  | some b => s.answerOk (s.bridgePayload b)
  | none => s.refuse resRefusedRange

/-- CLEAR_BRIDGES (R94). -/
def clearBridges : Action := fun s => s.clearAllBridges.answerOk []

end Sys2Proof.Machine
end

