-- ==== Sys2Proof/Machine/PortRequests.lean ====
section
/-! DEFINITION. What the requests of spec/01 do: PORT_SETUP, PORT_READ, PORT_START, PORT_STOP, MANUAL_KEY. -/

namespace Sys2Proof.Machine

/-- The write of a port's setup record, a new effective priority handed on (R2 step 5, R3). -/
def State.writeSetup (p : PortId) (new : Setup) (s : State) : State :=
  let old := s.effPriority p
  (s.setPort p { s.port p with setup := new }).handPriority p old

/-- PORT_SETUP (R2). -/
def setupPort (port : Byte) (f : SetupFields) : Action := fun s =>
  match portOf port, readSetup f with
  | some p, some new =>
    if (s.port p).lifecycle ≠ .off ∧ sameButLive (s.port p).setup new = false then s.refuse resRefusedState
    else (s.writeSetup p new, some (.bare (okOr (setupClamped f))))
  | some _, none => s.refuse resRefusedRange
  | none, _ => s.refuse resRefusedRange

/-- PORT_READ (R4, R190): the setup record with the manual key, then the runtime state. -/
def readPort (port : Byte) : Action := fun s =>
  match portOf port with
  | some p => s.answerOk
      (setupBytes (s.port p).setup ++ [switchByte (s.port p).manualKey] ++ s.portPayload p)
  | none => s.refuse resRefusedRange

/-- An OFF port is started: the manual key is released, and the port enters ACTIVE or LOST (R8). -/
def State.startPort (p : PortId) (s : State) : State :=
  let s := s.setPort p { s.port p with manualKey := false }
  if (s.port p).present then s.activate p else s.updatePort p fun q => { q with lifecycle := .lost }

/-- PORT_START (R8). -/
def start (port : Byte) : Action := fun s =>
  match portOf port with
  | some p => ((if (s.port p).lifecycle = .off then s.startPort p else s), some (.ok []))
  | none => s.refuse resRefusedRange

/-- PORT_STOP (R9). -/
def stop (port : Byte) : Action := fun s =>
  match portOf port with
  | some p => ((if (s.port p).lifecycle = .off then s else s.depart p .off), some (.ok []))
  | none => s.refuse resRefusedRange

/-- MANUAL_KEY (R11). -/
def manual (port level : Byte) : Action := fun s =>
  match portOf port, switchOf level with
  | some p, some on =>
    if (s.port p).lifecycle = .off then
      State.answerOk [] (s.setPort p { s.port p with manualKey := on })
    else s.refuse resRefusedState
  | some _, none => s.refuse resRefusedRange
  | none, _ => s.refuse resRefusedRange

end Sys2Proof.Machine
end

