-- ==== Sys2Proof/Machine/UnitRequests.lean ====
section
/-! DEFINITION. What the requests of spec/03 do: UNIT_ENTER, UNIT_REMOVE, UNIT_READ, PURGE_LEARNED. -/

namespace Sys2Proof.Machine

/-- A change of U's override priority is handed to every port whose current unit is U, in port order (R47). `before` is
the state before the change. The entry is written first, so a port of U whose turn has not come already counts at its new
priority where the first one's place is found (the model's choice: log entry 27). -/
def State.handOverride (before : State) (u : UnitId) (s : State) : State :=
  if before.overrideFor (some u) = s.overrideFor (some u) then s
  else allPorts.foldl (fun s p =>
    if (s.port p).unit = some u then s.handPriority p (before.effPriority p) else s) s

/-- The new entry of UNIT_ENTER (R43 step 5). -/
def State.enteredEntry (s : State) (u : UnitId) (agency : BitVec 4) (role : BitVec 3)
    (override : Option Nat) : Entry where
  unit := u
  kind := .registered
  agency := agency
  role := role
  override := override
  emergency := s.anySourced u
  lastPort := none
  stamp := s.dir.count

/-- The directory written (R43 steps 4 to 6), with the way of the entry; none where there is no room. An entry just learned
with a clear flag is replaceable (R40) and gives way, where the third row of R48's table answers FULL (the model's reading:
log entry 35). -/
def State.enterUnit (s : State) (u : UnitId) (agency : BitVec 4) (role : BitVec 3)
    (override : Option Nat) : Option (Fin 4 × Directory) :=
  match s.dir.find u with
  | some w => some (w, s.dir.modify u fun e =>
      { e with kind := .registered, agency := agency, role := role, override := override })
  | none => (s.dir.room (hashSet u)).map fun w =>
      (w, s.dir.put (hashSet u) w (some (s.enteredEntry u agency role override)))

/-- UNIT_ENTER (R43, R47). -/
def enter (unit : Half) (agency role override : Byte) : Action := fun s =>
  if validUnit unit = false then s.refuse resRefusedRange
  else match overrideOf override with
    | none => s.refuse resRefusedRange
    | some o =>
      match s.enterUnit unit (BitVec.ofNat 4 (clamp 0 15 agency.toNat))
          (BitVec.ofNat 3 (clamp 0 7 role.toNat)) o with
      | none => s.refuse resFull
      | some (w, d) =>
        (State.handOverride s unit { s with dir := d },
          some ⟨okOr (15 < agency.toNat || 7 < role.toNat),
            [natByte (hashSet unit).val, natByte w.val]⟩)

/-- UNIT_REMOVE (R44, R47). It acts on the entry as the event before it left it; the first row of R48's table gives the two
outcomes under exchanged headings (the model's reading: log entry 31). -/
def remove (unit : Half) : Action := fun s =>
  if validUnit unit = false then s.refuse resRefusedRange
  else match s.dir.find unit with
    | none => s.refuse resNotFound
    | some w =>
      if (s.dir.at (hashSet unit) w).any (·.emergency) then s.refuse resRefusedState
      else State.answerOk [] (State.handOverride s unit { s with dir := s.dir.put (hashSet unit) w none })

/-- The 9 bytes of an entry and its place (R190). -/
def entryBytes (set : Fin 16) (way : Fin 4) (e : Entry) : List Byte :=
  halfBytes e.unit ++ [natByte set.val, natByte way.val, kindByte e.kind, natByte e.agency.toNat,
    natByte e.role.toNat, overrideByte e.override, switchByte e.emergency,
    match e.lastPort with
    | some p => natByte p.val
    | none => 0xFF]

/-- The entry in a place, or NOT_FOUND. -/
def State.readPlace (set : Fin 16) (way : Fin 4) (s : State) : State × Option Answer :=
  match s.dir.at set way with
  | some e => s.answerOk (entryBytes set way e)
  | none => s.refuse resNotFound

/-- UNIT_READ (R45): form 0 by ID, form 1 by place. -/
def readUnit (form first second : Byte) : Action := fun s =>
  if form = 0 then
    let u : Half := first ++ second
    if validUnit u = false then s.refuse resRefusedRange
    else match s.dir.find u with
      | some w => s.readPlace (hashSet u) w
      | none => s.refuse resNotFound
  else if form = 1 then
    if h : first.toNat < 16 ∧ second.toNat < 4 then s.readPlace ⟨first.toNat, h.1⟩ ⟨second.toNat, h.2⟩
    else s.refuse resRefusedRange
  else s.refuse resRefusedRange

/-- PURGE_LEARNED (R46). -/
def purge : Action := fun s =>
  State.answerOk [natByte s.dir.purgeCount] { s with dir := s.dir.purge }

end Sys2Proof.Machine
end

