-- ==== Sys2Proof/Machine/Link.lean ====
section
/-! DEFINITION. The supervisory link (spec/11): the reply queue, the judging of frames, the receiver, and the
transmitter. -/

namespace Sys2Proof.Machine

/-! ## Requests by kind (R190) -/

/-- What an accepted frame of a request kind does. A kind that names no request acts on nothing (R184 step 3). -/
def requestAction (kind : Byte) (pl : List Byte) : Action :=
  match kind.toNat with
  | 0x01 => describe
  | 0x02 => setupPort (byteAt pl 0) (setupFieldsOf pl)
  | 0x03 => readPort (byteAt pl 0)
  | 0x04 => start (byteAt pl 0)
  | 0x05 => stop (byteAt pl 0)
  | 0x06 => manual (byteAt pl 0) (byteAt pl 1)
  | 0x07 => editPlan (byteAt pl 0) (recordFieldsOf pl)
  | 0x08 => readPlan (byteAt pl 0) (byteAt pl 1)
  | 0x09 => copyPlan
  | 0x0A => switchPlan
  | 0x0B => readBridge (byteAt pl 0)
  | 0x0C => clearBridges
  | 0x0D => enter (halfAt pl 0) (byteAt pl 2) (byteAt pl 3) (byteAt pl 4)
  | 0x0E => remove (halfAt pl 0)
  | 0x0F => readUnit (byteAt pl 0) (byteAt pl 1) (byteAt pl 2)
  | 0x10 => purge
  | 0x11 => setWatch (byteAt pl 0) (ruleFieldsOf pl)
  | 0x12 => readWatch (byteAt pl 0)
  | 0x13 => declare (byteAt pl 0)
  | 0x14 => clearEmergency (byteAt pl 0)
  | 0x15 => talk (byteAt pl 0)
  | 0x16 => releaseConsole
  | 0x17 => monitor (byteAt pl 0) (gainsOf pl)
  | 0x18 => setupMixer (mixerFieldsOf pl)
  | 0x19 => halt
  | 0x1A => run
  | 0x1B => clearFault (byteAt pl 0) (byteAt pl 1)
  | 0x1C => setMask (byteAt pl 0) (byteAt pl 1) (byteAt pl 2)
  | _ => State.refuse resUnknownKind

/-- A complete frame with a good check is judged (R184 steps 2 to 5). -/
def judgeFrame (kind : Byte) (pl : List Byte) : Action := fun s =>
  if s.plans.switchPending then s.refuse resBusy
  else match requestLength kind with
    | none => s.refuse resUnknownKind
    | some n => if pl.length = n then requestAction kind pl s else s.refuse resBadLength

/-! ## The reply queue (R187) -/

def State.withLink (l : Link) (s : State) : State := { s with link := l }

/-- The place reserved for the frame under reception takes what stands for its reply. -/
def fillPlace (place : Place) (replies : List Place) : List Place :=
  replies.map fun x => if x = .reserved then place else x

/-- A place is reserved for a frame that begins (R182). -/
def State.reserve (s : State) : State :=
  { s with link := { s.link with replies := s.link.replies ++ [.reserved] } }

/-- The reply of a frame of this kind is formed in its reserved place, or stays to be formed at the switch (R185). -/
def State.formReply (kind : Byte) (answer : Option Answer) (s : State) : State :=
  let place := match answer with
    | some a => Place.formed (replyFrame kind a.payload)
    | none => Place.awaiting
  { s with link := { s.link with replies := fillPlace place s.link.replies } }

/-- A frame whose place is reserved does what it does and is answered. -/
def State.answerFrame (kind : Byte) (act : Action) (s : State) : State :=
  let r := act s
  r.1.formReply kind r.2

/-- The reply of the pending PLAN_SWITCH is formed: OK and the plan now active (R58). -/
def State.formSwitchReply (s : State) : State :=
  let place := Place.formed (replyFrame 0x0A (Answer.ok [natByte s.plans.active.val]).payload)
  { s with link := { s.link with
      replies := s.link.replies.map fun x => if x = .awaiting then place else x } }

/-- The pending switch is made, and its reply formed (R58, R59). -/
def State.makeSwitch (s : State) : State := s.switchPlans.formSwitchReply

/-! ## The receiver (R180, R182, R183) -/

/-- The receiver enters a state of a frame under reception; the gap timer starts again. -/
def State.receive (rx : LinkRx) (s : State) : State :=
  { s with link := { s.link with rx := rx, gapRunning := true } }

/-- The receiver returns to HUNTING. -/
def State.endReception (s : State) : State :=
  { s with link := { s.link with rx := .hunting, gapRunning := false } }

/-- A frame is abandoned: its place is freed and LINK_FRAME is set (R182, R183). -/
def State.abandonFrame (s : State) : State :=
  let s := s.endReception
  { s with link := { s.link with replies := s.link.replies.filter (· ≠ Place.reserved) } }.raise srcDevice
    flagLinkFrame

/-- A complete frame is judged by its check (R184). -/
def State.completeReception (kind : Byte) (pl : List Byte) (check : Byte) (s : State) : State :=
  let s := s.endReception
  if kind + byteSum pl + check = 0 then s.answerFrame kind (judgeFrame kind pl)
  else (s.raise srcDevice flagLinkFrame).formReply kind (some (.bare resBadCheck))

/-- A byte on LRX (R182). In a line wait no character begins (R180): a byte that a command brings then is lost and does not
end the wait, which LINK_LINE_WAIT_END does (the model's choice: log entry 34). -/
def State.takeLinkByte (s : State) (b : Byte) : State :=
  if s.link.lineWait then s
  else match s.link.rx with
    | .hunting =>
      if b = 0x5A ∧ s.link.replies.length < Config.replyPlaces then s.reserve.receive .length else s
    | .length => if b.toNat ≤ Config.maxPayload then s.receive (.kind b.toNat) else s.abandonFrame
    | .kind n => s.receive (if n = 0 then .check b [] else .payload n b [])
    | .payload n kind taken =>
      let taken := taken ++ [b]
      s.receive (if taken.length < n then .payload n kind taken else .check kind taken)
    | .check kind pl => s.completeReception kind pl b

/-- The gap timer passes 5 ms (R183). -/
def State.expireGap (s : State) : State :=
  match s.link.rx with
  | .hunting => s
  | .length | .kind _ | .payload _ _ _ | .check _ _ => s.abandonFrame

/-- A frame can begin: the receiver is HUNTING, in no line wait, with a free place (R182). -/
def Link.ready (l : Link) : Bool :=
  l.rx == .hunting && !l.lineWait && l.replies.length < Config.replyPlaces

/-- A whole link frame with a good check arrives (log entry 3). At a receiver that is ready for it, it acts as judged;
at another its bytes are taken one after the other, and in a line wait all of them are lost (log entry 34). -/
def State.takeFrame (kind : Byte) (pl : List Byte) (act : Action) (s : State) : State :=
  if s.link.ready && pl.length ≤ Config.maxPayload then
    s.reserve.endReception.answerFrame kind fun s =>
      if s.plans.switchPending then s.refuse resBusy else act s
  else (frameBytes kind pl).foldl State.takeLinkByte s

/-! ## The transmitter (R188, R192) -/

/-- The sources in number order from the one after the last source sent, and round again. -/
def Link.searchOrder (l : Link) : List Source :=
  (List.finRange 22).map fun i => l.lastSource + 1 + i

/-- The notice that the transmitter would send (R188 step 2). -/
def State.pendingSource (s : State) : Option Source :=
  s.link.searchOrder.find? fun src => s.notices.marks[src]

/-- The formed reply at the head of the reply queue (R187, R188 step 1). -/
def State.formedHead (s : State) : Option (List Byte) :=
  match s.link.replies with
  | .formed bytes :: _ => some bytes
  | .reserved :: _ | .awaiting :: _ | [] => none

/-- The kind and payload of a source's notice (R192). -/
def State.noticeFrame (s : State) (src : Source) : List Byte :=
  if src.val = 0 then frameBytes 0x40 s.devicePayload
  else if src.val = 1 then frameBytes 0x41 s.consolePayload
  else if h : src.val < 10 then frameBytes 0x42 (s.bridgePayload ⟨src.val - 2, by omega⟩)
  else frameBytes 0x43 (s.portPayload ⟨src.val - 10, by omega⟩)

/-- The reply at the head starts transmission and the queue loses its place (R187). -/
def State.sendReply (bytes : List Byte) (s : State) : State :=
  { s with link := { s.link with tx := some bytes, replies := s.link.replies.tail } }

/-- A notice starts transmission with the state of its source: its mark is cleared, and with the device's the start-up
indication (R175, R188). -/
def State.sendNotice (src : Source) (s : State) : State :=
  { s with
    notices := { s.notices with
      marks := s.notices.marks.set src false
      started := s.notices.started && src != srcDevice }
    link := { s.link with tx := some (s.noticeFrame src), lastSource := src } }

/-- The transmitter's choice (R188). -/
def State.chooseNext (s : State) : State :=
  match s.formedHead with
  | some bytes => s.sendReply bytes
  | none => match s.pendingSource with
    | some src => s.sendNotice src
    | none => s

/-- A formed reply starts, where the transmitter is idle (R188 step 1). -/
def State.startReply (s : State) : State :=
  match s.link.tx, s.formedHead with
  | none, some bytes => s.sendReply bytes
  | _, _ => s

/-- The notice of this source starts, where the transmitter is idle and it is its choice (R188 step 2, log entry 9). -/
def State.startNotice (src : Source) (s : State) : State :=
  if s.link.tx = none ∧ s.formedHead = none ∧ s.pendingSource = some src then s.sendNotice src else s

/-- The frame in transmission ends, and the next is chosen (R188). -/
def State.endTransmission (s : State) : State :=
  match s.link.tx with
  | some _ => State.chooseNext { s with link := { s.link with tx := none } }
  | none => s

end Sys2Proof.Machine
end

