-- ==== Sys2Proof/Machine/Taking.lean ====
section
/-! DEFINITION. How a command is taken: what has come due is taken first, an event command takes what it names, and while
RESET is asserted nothing is taken (log entries 2, 5, 8). Also the frame start and the sample period. -/

namespace Sys2Proof.Machine

/-- A command that is not an event of a completion: what has come due is taken before it acts (log entry 5). While RESET
is asserted it does nothing (log entry 2). -/
def operate (f : State → State) (s : State) : Host.Outcome State Fault Refusal :=
  .next (if s.inReset then s else f s.settle)

/-- A command that names an event of a completion or of a sample (log entries 5, 8). -/
def event (d : Due) (comesAbout : State → Bool) (s : State) : Host.Outcome State Fault Refusal :=
  .next (if s.inReset then s else s.takeNamed d (comesAbout s))

/-- A request command: its whole frame arrives (log entry 3). -/
def request (kind : Byte) (pl : List Byte) (act : Action) (s : State) :
    Host.Outcome State Fault Refusal :=
  operate (State.takeFrame kind pl act) s

/-- A frame start (R126): a pending switch is made, and the settings are latched. It comes about while the mixer is RUN
with no frame in progress. -/
def State.startFrame (s : State) : State :=
  if s.mixer.mode = .run ∧ s.mixer.frame = none then
    let s := if s.plans.switchPending then s.makeSwitch else s
    { s with mixer := { s.mixer with frame := some ⟨0, s.latch⟩ } }
  else s

/-- The pending switch is made at a frame start, ahead of the latching (R58, R126 step 1). -/
def State.switchAtFrame (s : State) : State :=
  if s.mixer.mode = .run ∧ s.mixer.frame = none ∧ s.plans.switchPending = true then s.makeSwitch else s

/-- One sample period, where a frame is in progress and not yet whole (R125, R128). -/
def State.samplePeriod (slots : Vector Half 13) (s : State) : State :=
  match s.mixer.mode, s.mixer.frame with
  | .run, some f => if f.place < frameLength s.mixer.rate then s.formSample f slots else s
  | .run, none | .halted, _ => s

/-- A frame completion, where the frame in progress has all its samples (R127). -/
def State.endFrame (cs pres : PortSet) (late : Late) (s : State) : State :=
  match s.mixer.mode, s.mixer.frame with
  | .run, some f => if f.place = frameLength s.mixer.rate then s.completeFrame cs pres late else s
  | .run, none | .halted, _ => s

/-- The key machine's port after the count that is due. -/
def State.nextKey (s : State) (p : PortId) : Port := (s.port p).keyCounted

/-- RESET is asserted (R180): every state at its reset value, the levels of the DATA pins apart, which the radios drive
(log entry 10), and the commands that wait. -/
def State.assertReset (s : State) : State :=
  { State.reset with inReset := true, dataLines := s.dataLines, pending := s.pending }

/-- The link rate of the straps (R180). -/
def strapRate (rate1 rate0 : Bool) : LinkRate :=
  match rate1, rate0 with
  | false, false => .b57600
  | false, true => .b115200
  | true, false => .b230400
  | true, true => .b460800

/-- RESET is released: the link rate is taken from the straps and the part begins to operate (R180). -/
def State.releaseReset (rate1 rate0 : Bool) (s : State) : State :=
  if s.inReset then
    { s with inReset := false, link := { s.link with rate := strapRate rate1 rate0 } }
  else s

end Sys2Proof.Machine
end

