-- ==== Sys2Proof/Machine/ConsoleCommands.lean ====
section
/-! DEFINITION. The meanings of the console and mixer requests (spec/08, spec/07 7.2). -/

namespace Sys2Proof.Machine

/-- CONSOLE_TALK (R148). -/
def execConsoleTalk (bridges : BridgeSet) (s : State) : Host.Outcome State Fault Refusal :=
  request 0x15 [bridges] (talk bridges) s

/-- CONSOLE_RELEASE (R152). -/
def execConsoleRelease (s : State) : Host.Outcome State Fault Refusal := request 0x16 [] releaseConsole s

/-- CONSOLE_MONITOR (R155). -/
def execConsoleMonitor (mask : BridgeSet) (gains : Vector Half 8) (s : State) :
    Host.Outcome State Fault Refusal :=
  request 0x17 (mask :: gainBytes gains) (monitor mask gains) s

/-- MIXER_SETUP (R131). -/
def execMixerSetup (f : MixerFields) (s : State) : Host.Outcome State Fault Refusal :=
  request 0x18 (mixerFieldBytes f) (setupMixer f) s

/-- MIXER_HALT (R129). -/
def execMixerHalt (s : State) : Host.Outcome State Fault Refusal := request 0x19 [] halt s

/-- MIXER_RUN (R130). -/
def execMixerRun (s : State) : Host.Outcome State Fault Refusal := request 0x1A [] run s

end Sys2Proof.Machine
end

