-- ==== Sys2Proof/Machine/DataLineCommands.lean ====
section
/-! DEFINITION. The meanings of the data line events and of the unit reports (spec/02). -/

namespace Sys2Proof.Machine

/-- DATA_CHARACTER (R21, R22, R24, R26). -/
def execDataCharacter (port : PortId) (data : Byte) (parity stop : Bool) (s : State) :
    Host.Outcome State Fault Refusal :=
  operate (State.takeCharacter port data parity stop) s

/-- ASSEMBLY_AGE_EXPIRY (R25). -/
def execAssemblyAgeExpiry (port : PortId) (s : State) : Host.Outcome State Fault Refusal :=
  event (.age port) (fun s => (s.port port).ageReached) s

/-- IDENT (R28). -/
def execIdent (port : PortId) (unit : UnitId) (s : State) : Host.Outcome State Fault Refusal :=
  operate (State.takeReport port 1 unit (State.acceptIdent port unit)) s

/-- EMERG (R29). -/
def execEmerg (port : PortId) (unit : UnitId) (s : State) : Host.Outcome State Fault Refusal :=
  operate (State.takeReport port 2 unit (State.acceptEmerg port unit)) s

/-- EMERG_CLEAR (R31). -/
def execEmergClear (port : PortId) (unit : UnitId) (s : State) : Host.Outcome State Fault Refusal :=
  operate (State.takeReport port 3 unit (State.acceptEmergClear port unit)) s

/-- A receiver in a line wait samples DATAn high: it takes falling edges again (R22, R23). -/
def State.endDataLineWait (p : PortId) (s : State) : State :=
  let s := s.seeDataLine p true
  s.setPort p { s.port p with lineWait := false }

/-- DATA_LINE_WAIT_END (R22). -/
def execDataLineWaitEnd (port : PortId) (s : State) : Host.Outcome State Fault Refusal :=
  operate (State.endDataLineWait port) s

end Sys2Proof.Machine
end

