-- ==== Sys2Proof/Machine/EmergencyCommands.lean ====
section
/-! DEFINITION. The meanings of the watch and emergency requests (spec/09). -/

namespace Sys2Proof.Machine

/-- WATCH_SET (R165). -/
def execWatchSet (rule : Byte) (f : RuleFields) (s : State) : Host.Outcome State Fault Refusal :=
  request 0x11 (rule :: ruleFieldBytes f) (setWatch rule f) s

/-- WATCH_READ (R167). -/
def execWatchRead (rule : Byte) (s : State) : Host.Outcome State Fault Refusal :=
  request 0x12 [rule] (readWatch rule) s

/-- EMERGENCY_DECLARE (R166). -/
def execEmergencyDeclare (port : Byte) (s : State) : Host.Outcome State Fault Refusal :=
  request 0x13 [port] (declare port) s

/-- EMERGENCY_CLEAR (R168). -/
def execEmergencyClear (port : Byte) (s : State) : Host.Outcome State Fault Refusal :=
  request 0x14 [port] (clearEmergency port) s

end Sys2Proof.Machine
end

