-- ==== Sys2Proof/Machine/FrameCommands.lean ====
section
/-! DEFINITION. The meanings of the sample bus events and of the events of a sample or of a frame completion that act on
the alert tone, the bridges and the port controllers (spec/01, spec/02, spec/05, spec/07). -/

namespace Sys2Proof.Machine

/-- FRAME_START (R126). -/
def execFrameStart (s : State) : Host.Outcome State Fault Refusal := operate State.startFrame s

/-- MIX_SAMPLE (R134 to R141). -/
def execMixSample (slots : Vector Half 13) (s : State) : Host.Outcome State Fault Refusal :=
  operate (State.samplePeriod slots) s

/-- ALERT_HALF_PERIOD (R141). -/
def execAlertHalfPeriod (bridge : BridgeId) (s : State) : Host.Outcome State Fault Refusal :=
  event (.half bridge) (fun _ => true) s

/-- FRAME_COMPLETION (R127). -/
def execFrameCompletion (cs pres : PortSet) (late : Late) (s : State) :
    Host.Outcome State Fault Refusal :=
  operate (State.endFrame cs pres late) s

/-- ALERT_SEGMENT_CHANGE (R141). -/
def execAlertSegmentChange (bridge : BridgeId) (s : State) : Host.Outcome State Fault Refusal :=
  event (.segment bridge) (fun s => (s.bridge bridge).segmentReached) s

/-- BURST_END (R142). -/
def execBurstEnd (bridge : BridgeId) (s : State) : Host.Outcome State Fault Refusal :=
  event (.burstEnd bridge) (fun s => (s.bridge bridge).burst == 1) s

/-- PRESENCE_TAKEN (R10). -/
def execPresenceTaken (port : PortId) (s : State) : Host.Outcome State Fault Refusal :=
  event (.presence port) (fun _ => true) s

/-- CARRIER_TAKEN (R12). -/
def execCarrierTaken (port : PortId) (s : State) : Host.Outcome State Fault Refusal :=
  event (.qualify port) (fun s => (s.port port).carrierReached) s

/-- VOX_HOLD_EXPIRY (R13). -/
def execVoxHoldExpiry (port : PortId) (s : State) : Host.Outcome State Fault Refusal :=
  event (.qualify port) (fun s => (s.port port).quietReached) s

/-- PENDING_IDENTITY_EXPIRY (R30). -/
def execPendingIdentityExpiry (port : PortId) (s : State) : Host.Outcome State Fault Refusal :=
  event (.window port) (fun s => (s.port port).windowOver) s

/-- TALK_TIMER_EXPIRY (R88). -/
def execTalkTimerExpiry (bridge : BridgeId) (s : State) : Host.Outcome State Fault Refusal :=
  event (.talk bridge) (fun s => (s.bridge bridge).timerLast) s

end Sys2Proof.Machine
end

