-- ==== Sys2Proof/Machine/KeyCommands.lean ====
section
/-! DEFINITION. The meanings of the counts that run out in the key machines (spec/06). The key limit goes ahead of the
settings of DRAIN and HANG (R110). -/

namespace Sys2Proof.Machine

/-- DRAIN_END (R105). -/
def execDrainEnd (port : PortId) (s : State) : Host.Outcome State Fault Refusal :=
  event (.key port) (fun s => (s.nextKey port).drainOver && !(s.nextKey port).limitReached) s

/-- HANG_END (R106). -/
def execHangEnd (port : PortId) (s : State) : Host.Outcome State Fault Refusal :=
  event (.key port) (fun s => (s.nextKey port).hangOver && !(s.nextKey port).limitReached) s

/-- BLANK_END (R107). -/
def execBlankEnd (port : PortId) (s : State) : Host.Outcome State Fault Refusal :=
  event (.key port) (fun s => (s.nextKey port).blankOver) s

/-- KEY_LIMIT (R119). -/
def execKeyLimit (port : PortId) (s : State) : Host.Outcome State Fault Refusal :=
  event (.key port) (fun s => (s.nextKey port).limitReached) s

/-- COOL_BLANK_END (R108). -/
def execCoolBlankEnd (port : PortId) (s : State) : Host.Outcome State Fault Refusal :=
  event (.key port) (fun s => (s.nextKey port).coolBlankOver && !(s.nextKey port).cooldownOver) s

/-- COOLDOWN_END (R108). -/
def execCooldownEnd (port : PortId) (s : State) : Host.Outcome State Fault Refusal :=
  event (.key port) (fun s => (s.nextKey port).cooldownOver) s

end Sys2Proof.Machine
end

