-- ==== Sys2Proof/Machine/LinkCommands.lean ====
section
/-! DEFINITION. The meanings of the link's own events (spec/11) and of RESET and its release. -/

namespace Sys2Proof.Machine

/-- LINK_BYTE_TAKEN (R182). -/
def execLinkByteTaken (byte : Byte) (s : State) : Host.Outcome State Fault Refusal :=
  operate (fun s => s.takeLinkByte byte) s

/-- LINK_GAP_TIMEOUT (R183). -/
def execLinkGapTimeout (s : State) : Host.Outcome State Fault Refusal := operate State.expireGap s

/-- REPLY_TRANSMIT (R187, R188). -/
def execReplyTransmit (s : State) : Host.Outcome State Fault Refusal := operate State.startReply s

/-- DEVICE_NOTICE (R192). -/
def execDeviceNotice (s : State) : Host.Outcome State Fault Refusal :=
  operate (State.startNotice srcDevice) s

/-- CONSOLE_NOTICE (R192). -/
def execConsoleNotice (s : State) : Host.Outcome State Fault Refusal :=
  operate (State.startNotice srcConsole) s

/-- BRIDGE_NOTICE (R192). -/
def execBridgeNotice (bridge : BridgeId) (s : State) : Host.Outcome State Fault Refusal :=
  operate (State.startNotice (srcBridge bridge)) s

/-- PORT_NOTICE (R192). -/
def execPortNotice (port : PortId) (s : State) : Host.Outcome State Fault Refusal :=
  operate (State.startNotice (srcPort port)) s

/-- LINK_TRANSMISSION_END (R188). -/
def execLinkTransmissionEnd (s : State) : Host.Outcome State Fault Refusal :=
  operate State.endTransmission s

/-- LINK_CHARACTER_DISCARDED (R180): the receiver waits for a high line; a frame under reception keeps waiting. -/
def execLinkCharacterDiscarded (s : State) : Host.Outcome State Fault Refusal :=
  operate (fun s => { s with link := { s.link with lineWait := true } }) s

/-- LINK_LINE_WAIT_END (R180). -/
def execLinkLineWaitEnd (s : State) : Host.Outcome State Fault Refusal :=
  operate (fun s => { s with link := { s.link with lineWait := false } }) s

/-- RESET (R180). -/
def execReset (s : State) : Host.Outcome State Fault Refusal := .next s.assertReset

/-- RESET_RELEASE (R180). -/
def execResetRelease (rate1 rate0 : Bool) (s : State) : Host.Outcome State Fault Refusal :=
  .next (s.releaseReset rate1 rate0)

end Sys2Proof.Machine
end

