-- ==== Sys2Proof/Machine/NoticeCommands.lean ====
section
/-! DEFINITION. The meanings of DESCRIBE, of the notice unit's requests (spec/10 10.5) and of a frame of unknown kind. -/

namespace Sys2Proof.Machine

/-- DESCRIBE (R191). -/
def execDescribe (s : State) : Host.Outcome State Fault Refusal := request 0x01 [] describe s

/-- FAULT_CLEAR (R177). -/
def execFaultClear (source flags : Byte) (s : State) : Host.Outcome State Fault Refusal :=
  request 0x1B [source, flags] (clearFault source flags) s

/-- MASK_SET (R178). -/
def execMaskSet (source mask switch : Byte) (s : State) : Host.Outcome State Fault Refusal :=
  request 0x1C [source, mask, switch] (setMask source mask switch) s

/-- A whole frame with a good check whose kind names no request (R184). -/
def execUnknownKind (kind : Byte) (payload : List Byte) (s : State) :
    Host.Outcome State Fault Refusal :=
  request kind payload (judgeFrame kind payload) s

end Sys2Proof.Machine
end

