-- ==== Sys2Proof/Machine/PlanCommands.lean ====
section
/-! DEFINITION. The meanings of the plan and bridge requests (spec/04, spec/05 5.7) and of the pending switch. -/

namespace Sys2Proof.Machine

/-- PLAN_EDIT (R54). -/
def execPlanEdit (bridge : Byte) (f : RecordFields) (s : State) : Host.Outcome State Fault Refusal :=
  request 0x07 (bridge :: recordFieldBytes f) (editPlan bridge f) s

/-- PLAN_READ (R56). -/
def execPlanRead (plan bridge : Byte) (s : State) : Host.Outcome State Fault Refusal :=
  request 0x08 [plan, bridge] (readPlan plan bridge) s

/-- PLAN_COPY (R57). -/
def execPlanCopy (s : State) : Host.Outcome State Fault Refusal := request 0x09 [] copyPlan s

/-- PLAN_SWITCH (R58, R66). -/
def execPlanSwitch (s : State) : Host.Outcome State Fault Refusal := request 0x0A [] switchPlan s

/-- PLAN_SWITCH_MADE (R59). -/
def execPlanSwitchMade (s : State) : Host.Outcome State Fault Refusal := operate State.switchAtFrame s

/-- BRIDGE_READ (R93). -/
def execBridgeRead (bridge : Byte) (s : State) : Host.Outcome State Fault Refusal :=
  request 0x0B [bridge] (readBridge bridge) s

/-- CLEAR_BRIDGES (R94). -/
def execClearBridges (s : State) : Host.Outcome State Fault Refusal := request 0x0C [] clearBridges s

end Sys2Proof.Machine
end

