-- ==== Sys2Proof/Machine/PortCommands.lean ====
section
/-! DEFINITION. The meanings of the port requests (spec/01). -/

namespace Sys2Proof.Machine

/-- PORT_SETUP (R2). -/
def execPortSetup (port : Byte) (f : SetupFields) (s : State) : Host.Outcome State Fault Refusal :=
  request 0x02 (port :: setupFieldBytes f) (setupPort port f) s

/-- PORT_READ (R4). -/
def execPortRead (port : Byte) (s : State) : Host.Outcome State Fault Refusal :=
  request 0x03 [port] (readPort port) s

/-- PORT_START (R8). -/
def execPortStart (port : Byte) (s : State) : Host.Outcome State Fault Refusal :=
  request 0x04 [port] (start port) s

/-- PORT_STOP (R9). -/
def execPortStop (port : Byte) (s : State) : Host.Outcome State Fault Refusal :=
  request 0x05 [port] (stop port) s

/-- MANUAL_KEY (R11). -/
def execManualKey (port level : Byte) (s : State) : Host.Outcome State Fault Refusal :=
  request 0x06 [port, level] (manual port level) s

end Sys2Proof.Machine
end

