-- ==== Sys2Proof/Machine/UnitCommands.lean ====
section
/-! DEFINITION. The meanings of the directory requests (spec/03 3.3). -/

namespace Sys2Proof.Machine

/-- UNIT_ENTER (R43). -/
def execUnitEnter (unit : Half) (agency role override : Byte) (s : State) :
    Host.Outcome State Fault Refusal :=
  request 0x0D (halfBytes unit ++ [agency, role, override]) (enter unit agency role override) s

/-- UNIT_REMOVE (R44). -/
def execUnitRemove (unit : Half) (s : State) : Host.Outcome State Fault Refusal :=
  request 0x0E (halfBytes unit) (remove unit) s

/-- UNIT_READ (R45). -/
def execUnitRead (form first second : Byte) (s : State) : Host.Outcome State Fault Refusal :=
  request 0x0F [form, first, second] (readUnit form first second) s

/-- PURGE_LEARNED (R46). -/
def execPurgeLearned (s : State) : Host.Outcome State Fault Refusal := request 0x10 [] purge s

end Sys2Proof.Machine
end

