-- ==== Sys2Proof/Machine/Dispatch.lean ====
section
/-! DEFINITION. One arm for each command: a direct call of its meaning. -/

namespace Sys2Proof.Machine

def exec (i : Instr) (s : State) : Host.Outcome State Fault Refusal :=
  match i with
  | .describe => Sys2Proof.Machine.execDescribe s
  | .portSetup port fields => Sys2Proof.Machine.execPortSetup port fields s
  | .portRead port => Sys2Proof.Machine.execPortRead port s
  | .portStart port => Sys2Proof.Machine.execPortStart port s
  | .portStop port => Sys2Proof.Machine.execPortStop port s
  | .manualKey port level => Sys2Proof.Machine.execManualKey port level s
  | .planEdit bridge fields => Sys2Proof.Machine.execPlanEdit bridge fields s
  | .planRead plan bridge => Sys2Proof.Machine.execPlanRead plan bridge s
  | .planCopy => Sys2Proof.Machine.execPlanCopy s
  | .planSwitch => Sys2Proof.Machine.execPlanSwitch s
  | .planSwitchMade => Sys2Proof.Machine.execPlanSwitchMade s
  | .bridgeRead bridge => Sys2Proof.Machine.execBridgeRead bridge s
  | .clearBridges => Sys2Proof.Machine.execClearBridges s
  | .unitEnter unit agency role override => Sys2Proof.Machine.execUnitEnter unit agency role override s
  | .unitRemove unit => Sys2Proof.Machine.execUnitRemove unit s
  | .unitRead form first second => Sys2Proof.Machine.execUnitRead form first second s
  | .purgeLearned => Sys2Proof.Machine.execPurgeLearned s
  | .watchSet rule fields => Sys2Proof.Machine.execWatchSet rule fields s
  | .watchRead rule => Sys2Proof.Machine.execWatchRead rule s
  | .emergencyDeclare port => Sys2Proof.Machine.execEmergencyDeclare port s
  | .emergencyClear port => Sys2Proof.Machine.execEmergencyClear port s
  | .consoleTalk bridges => Sys2Proof.Machine.execConsoleTalk bridges s
  | .consoleRelease => Sys2Proof.Machine.execConsoleRelease s
  | .consoleMonitor mask gains => Sys2Proof.Machine.execConsoleMonitor mask gains s
  | .mixerSetup fields => Sys2Proof.Machine.execMixerSetup fields s
  | .mixerHalt => Sys2Proof.Machine.execMixerHalt s
  | .mixerRun => Sys2Proof.Machine.execMixerRun s
  | .faultClear source flags => Sys2Proof.Machine.execFaultClear source flags s
  | .maskSet source mask switch => Sys2Proof.Machine.execMaskSet source mask switch s
  | .unknownKind kind payload => Sys2Proof.Machine.execUnknownKind kind payload s
  | .linkByteTaken byte => Sys2Proof.Machine.execLinkByteTaken byte s
  | .linkGapTimeout => Sys2Proof.Machine.execLinkGapTimeout s
  | .replyTransmit => Sys2Proof.Machine.execReplyTransmit s
  | .deviceNotice => Sys2Proof.Machine.execDeviceNotice s
  | .consoleNotice => Sys2Proof.Machine.execConsoleNotice s
  | .bridgeNotice bridge => Sys2Proof.Machine.execBridgeNotice bridge s
  | .portNotice port => Sys2Proof.Machine.execPortNotice port s
  | .linkTransmissionEnd => Sys2Proof.Machine.execLinkTransmissionEnd s
  | .reset => Sys2Proof.Machine.execReset s
  | .resetRelease rate1 rate0 => Sys2Proof.Machine.execResetRelease rate1 rate0 s
  | .frameStart => Sys2Proof.Machine.execFrameStart s
  | .mixSample slots => Sys2Proof.Machine.execMixSample slots s
  | .alertHalfPeriod bridge => Sys2Proof.Machine.execAlertHalfPeriod bridge s
  | .frameCompletion cs pres late => Sys2Proof.Machine.execFrameCompletion cs pres late s
  | .alertSegmentChange bridge => Sys2Proof.Machine.execAlertSegmentChange bridge s
  | .burstEnd bridge => Sys2Proof.Machine.execBurstEnd bridge s
  | .presenceTaken port => Sys2Proof.Machine.execPresenceTaken port s
  | .carrierTaken port => Sys2Proof.Machine.execCarrierTaken port s
  | .voxHoldExpiry port => Sys2Proof.Machine.execVoxHoldExpiry port s
  | .dataCharacter port data parity stop => Sys2Proof.Machine.execDataCharacter port data parity stop s
  | .assemblyAgeExpiry port => Sys2Proof.Machine.execAssemblyAgeExpiry port s
  | .ident port unit => Sys2Proof.Machine.execIdent port unit s
  | .emerg port unit => Sys2Proof.Machine.execEmerg port unit s
  | .emergClear port unit => Sys2Proof.Machine.execEmergClear port unit s
  | .pendingIdentityExpiry port => Sys2Proof.Machine.execPendingIdentityExpiry port s
  | .talkTimerExpiry bridge => Sys2Proof.Machine.execTalkTimerExpiry bridge s
  | .drainEnd port => Sys2Proof.Machine.execDrainEnd port s
  | .hangEnd port => Sys2Proof.Machine.execHangEnd port s
  | .blankEnd port => Sys2Proof.Machine.execBlankEnd port s
  | .keyLimit port => Sys2Proof.Machine.execKeyLimit port s
  | .coolBlankEnd port => Sys2Proof.Machine.execCoolBlankEnd port s
  | .cooldownEnd port => Sys2Proof.Machine.execCooldownEnd port s
  | .dataLineWaitEnd port => Sys2Proof.Machine.execDataLineWaitEnd port s
  | .linkCharacterDiscarded => Sys2Proof.Machine.execLinkCharacterDiscarded s
  | .linkLineWaitEnd => Sys2Proof.Machine.execLinkLineWaitEnd s

end Sys2Proof.Machine
end

