-- ==== Sys2Proof/Safety.lean ====
section
/-! DEFINITION. What claims about this part are said in: the conditions under which a command completes, the state that
arbitration and keying leave alone, and the invariants that the rules of spec/ state. -/

namespace Sys2Proof.Machine

/-! ## When a command meets the part at rest -/

/-- RESET is released and nothing is due: the command that comes acts on the state as it stands. -/
def State.calm (s : State) : Prop := s.inReset = false ∧ s.due = []

/-- A request's frame can arrive whole and be accepted: the part is at rest, the receiver is HUNTING with a free place
and none reserved, and no switch is pending (R182, R185). -/
def State.linkReady (s : State) : Prop :=
  s.calm ∧ s.link.ready = true ∧ Place.reserved ∉ s.link.replies ∧ s.plans.switchPending = false

/-- What an event of a completion or of a sample takes, by the command that names it; none for every other command. -/
def eventOf : Instr → Option Due
  | .alertHalfPeriod b => some (.half b)
  | .alertSegmentChange b => some (.segment b)
  | .burstEnd b => some (.burstEnd b)
  | .talkTimerExpiry b => some (.talk b)
  | .pendingIdentityExpiry p => some (.window p)
  | .assemblyAgeExpiry p => some (.age p)
  | .presenceTaken p => some (.presence p)
  | .carrierTaken p | .voxHoldExpiry p => some (.qualify p)
  | .drainEnd p | .hangEnd p | .blankEnd p | .keyLimit p | .coolBlankEnd p | .cooldownEnd p => some (.key p)
  | .describe | .portSetup _ _ | .portRead _ | .portStart _ | .portStop _ | .manualKey _ _ | .planEdit _ _
  | .planRead _ _ | .planCopy | .planSwitch | .bridgeRead _ | .clearBridges | .unitEnter _ _ _ _
  | .unitRemove _ | .unitRead _ _ _ | .purgeLearned | .watchSet _ _ | .watchRead _ | .emergencyDeclare _
  | .emergencyClear _ | .consoleTalk _ | .consoleRelease | .consoleMonitor _ _ | .mixerSetup _ | .mixerHalt
  | .mixerRun | .faultClear _ _ | .maskSet _ _ _ | .unknownKind _ _ | .planSwitchMade | .linkByteTaken _
  | .linkGapTimeout | .replyTransmit | .deviceNotice | .consoleNotice | .bridgeNotice _ | .portNotice _
  | .linkTransmissionEnd | .reset | .resetRelease _ _ | .frameStart | .mixSample _ | .frameCompletion _ _ _
  | .dataCharacter _ _ _ _ | .ident _ _ | .emerg _ _ | .emergClear _ _ | .dataLineWaitEnd _
  | .linkCharacterDiscarded | .linkLineWaitEnd => none

/-- A request has been answered: its reply stands behind the others, and the receiver is HUNTING. -/
def State.answered (kind : Byte) (payload : List Byte) (s : State) : State :=
  { s with link := { s.link with
      rx := .hunting, gapRunning := false
      replies := s.link.replies ++ [.formed (replyFrame kind payload)] } }

/-- The key machine of a port has nothing to act on: held, or in a state that its demand, its override key and its
engagement leave as it is (R102 to R108). -/
def State.keyAtRest (s : State) (p : PortId) : Prop := (s.port p).lifecycle = .active →
  match (s.port p).key with
  | .idle => s.demand p = false
  | .deferred => s.demand p = true ∧ (s.port p).engaged = true ∧ s.overrideKey p = false
  | .keyed => s.demand p = true
  | .drain | .hang | .blank => s.demand p = false
  | .cool => True

/-- No key machine has anything to act on, and no bid is on its way. -/
def State.quiet (s : State) : Prop := s.bids = [] ∧ ∀ p : PortId, s.keyAtRest p

/-- The marks of the notice unit after a change of a source, which is pending if the change is reportable and the source's
switch is on (R174). -/
def State.marksIf (changed : Bool) (src : Source) (s : State) : Vector Bool 22 :=
  if changed && s.notices.switches[src] then s.notices.marks.set src true else s.notices.marks

/-- Of the notice unit the flags and the pending marks alone have changed, no flag has gone from set to clear, and a
source has become pending exactly where an unmasked flag of it has gone from clear to set (R172, R174). -/
def State.flagsReported (s t : State) : Prop :=
  t.notices = { s.notices with flags := t.notices.flags, marks := t.notices.marks }
  ∧ (∀ (src : Source) (i : Nat), s.notices.flags[src].getLsbD i = true → t.notices.flags[src].getLsbD i = true)
  ∧ ∀ src : Source, t.notices.marks[src] = true ↔ s.notices.marks[src] = true
    ∨ ∃ i : Nat, s.notices.flags[src].getLsbD i = false ∧ t.notices.flags[src].getLsbD i = true
      ∧ s.notices.masks[src].getLsbD i = false

/-- A port changed in itself, with its change reported (R20). -/
def State.portReported (p : PortId) (q : Port) (s : State) : State :=
  { s with
    ports := s.ports.set p q
    notices := { s.notices with marks := s.marksIf (!(s.port p).sameReported q) (srcPort p) } }

/-- A bridge changed in itself, with a change of its holder, stack or queue, or another that is reportable, reported
(R92). -/
def State.bridgeReported (other : Bool) (b : BridgeId) (r : Bridge) (s : State) : State :=
  { s with
    bridges := s.bridges.set b r
    notices := { s.notices with
      marks := s.marksIf (other || !(s.bridge b).sameReported r) (srcBridge b) } }

/-- The next state of an outcome; the state given for another. -/
def nextOr (other : State) : Host.Outcome State Fault Refusal → State
  | .next s => s
  | .fault _ => other
  | .refused _ => other

/-- The commands are taken one after the other. -/
def takeAll (s : State) (cs : List Instr) : State := cs.foldl (fun s c => nextOr s (exec c s)) s

/-! ## What arbitration and keying leave alone -/

/-- What of a port arbitration and keying may change, blanked out. -/
def Port.backdrop (q : Port) : Port :=
  { q with engaged := false, bar := false, unit := none, pendingId := none, key := .idle, timing := 0,
           keyUp := 0 }

/-- What of a bridge arbitration and keying may change, blanked out. -/
def Bridge.backdrop (r : Bridge) : Bridge := { r with holder := none, stack := [], queue := [] }

/-- Everything but what arbitration and keying may change: the places in the bridges, engagement, bar, identities and key
state of the ports, the bid counter, and the flags and marks of the notice unit. Two states with the same backdrop agree
in all else: setups, lifecycles, qualifiers, receivers, emergencies, plans, directory, rings, bursts, mixer, console,
watch rules, masks, switches, link, and the model's own queues. -/
def State.backdrop (s : State) : State :=
  { s with
    ports := s.ports.map Port.backdrop
    bridges := s.bridges.map Bridge.backdrop
    bidCounter := 0
    notices := { s.notices with flags := Vector.replicate 22 0, marks := Vector.replicate 22 false }
    bids := [] }

/-! ## What a PORT_SETUP carries, field by field (R1, R2, R189) -/

/-- Every enumerated field is inside its list (R2 step 2). -/
def setupListed (f : SetupFields) : Prop :=
  f.qualify.toNat ≤ 2 ∧ f.csPolarity.toNat ≤ 1 ∧ f.keyPolarity.toNat ≤ 1 ∧ f.dataLine.toNat ≤ 1
  ∧ f.dataRate.toNat ≤ 3 ∧ f.dataParity.toNat ≤ 2 ∧ f.presencePolarity.toNat ≤ 1

/-- The record is what the request carries, each numeric field clamped to its range (R2 step 3). -/
def Setup.carriedBy (q : Setup) (f : SetupFields) : Prop :=
  qualifyByte q.qualify = f.qualify ∧ polarityByte q.csPolarity = f.csPolarity
  ∧ q.csDebounce = min f.csDebounce.toNat 15 ∧ q.voxThreshold = min f.voxThreshold.toNat 32767
  ∧ q.voxHold = min f.voxHold.toNat 250 ∧ q.rxGain = min f.rxGain.toNat 4095
  ∧ q.txGain = min f.txGain.toNat 4095 ∧ polarityByte q.keyPolarity = f.keyPolarity
  ∧ q.lead = min f.lead.toNat 125 ∧ q.hang = min f.hang.toNat 250 ∧ q.blank = min f.blank.toNat 125
  ∧ q.keyLimit = min f.keyLimit.toNat 600 ∧ q.cooldown = max 1 (min f.cooldown.toNat 60)
  ∧ q.priority = min f.priority.toNat 3 ∧ q.homeAgency.toNat = min f.homeAgency.toNat 15
  ∧ q.homeRole.toNat = min f.homeRole.toNat 7 ∧ switchByte q.dataLine = f.dataLine
  ∧ dataRateByte q.dataRate = f.dataRate ∧ parityByte q.dataParity = f.dataParity
  ∧ polarityByte q.presencePolarity = f.presencePolarity

/-- No numeric field was clamped. -/
def Setup.asCarried (q : Setup) (f : SetupFields) : Prop := setupBytes q = setupFieldBytes f

/-- The record differs from another in live fields alone (R1). -/
def Setup.liveChangeOf (q old : Setup) : Prop :=
  { q with
    voxThreshold := old.voxThreshold, rxGain := old.rxGain, txGain := old.txGain
    priority := old.priority } = old

/-! ## Invariants -/

/-- Every delay ring has its canonical form, with samples within the sample range (R133, R136). -/
def State.ringsSound (s : State) : Prop := ∀ b : BridgeId, (s.bridge b).ring.wf = true

/-- The eight write positions are equal (R136). -/
def State.positionsEqual (s : State) : Prop := ∀ b : BridgeId, (s.bridge b).writePos = (s.bridge 0).writePos

/-- A port is engaged exactly while its three conditions hold (R16). -/
def State.engagementRule (s : State) : Prop := ∀ p : PortId, (s.port p).engaged = (s.port p).mayEngage

/-- No port is at once KEYED, DRAIN or HANG and engaged (R98). -/
def State.neverKeyedOver (s : State) : Prop :=
  ∀ p : PortId, (s.port p).key.asserted = true → (s.port p).engaged = false

/-- A port that is OFF or LOST: machine IDLE with both counts 0, qualifiers at rest, receiver IDLE (R5, R7, R23, R96). -/
def State.inactiveHeld (s : State) : Prop := ∀ p : PortId, (s.port p).lifecycle ≠ .active →
  (s.port p).key = .idle ∧ (s.port p).timing = 0 ∧ (s.port p).keyUp = 0
  ∧ (s.port p).carrier = false ∧ (s.port p).carrierCount = 0
  ∧ (s.port p).vox = false ∧ (s.port p).quietCount = 0 ∧ (s.port p).receiver = .idle

/-- The key-up count of a port with a key limit stays below it, and of one without stays 0 (R118). -/
def State.keyLimitRule (s : State) : Prop := ∀ p : PortId,
  if (s.port p).setup.keyLimit = 0 then (s.port p).keyUp = 0
  else (s.port p).keyUp < (s.port p).setup.keyLimit * Config.framesPerSecond

/-- Counts in states that do not count (R102, R103, R104, R107, R108). -/
def State.countsAtRest (s : State) : Prop := ∀ p : PortId,
  ((s.port p).key = .idle ∨ (s.port p).key = .deferred → (s.port p).timing = 0 ∧ (s.port p).keyUp = 0)
  ∧ ((s.port p).key = .keyed → (s.port p).timing = 0)
  ∧ ((s.port p).key = .blank ∨ (s.port p).key = .cool → (s.port p).keyUp = 0)

/-- A held-over stack never holds more than 4 entries (R73). -/
def State.stacksBounded (s : State) : Prop :=
  ∀ b : BridgeId, (s.bridge b).stack.length ≤ Config.stackDepth

/-- A bridge without a holder has an empty bid queue and an empty held-over stack (R72). -/
def State.freeBridgesEmpty (s : State) : Prop :=
  ∀ b : BridgeId, (s.bridge b).holder = none → (s.bridge b).stack = [] ∧ (s.bridge b).queue = []

/-- The radio port of a talker. -/
def Talker.ports : Talker → List PortId
  | .port p => [p]
  | .con => []

/-- The radio ports named by a bridge's holder, stack and queue, each as often as it is named. -/
def Bridge.named (r : Bridge) : List PortId :=
  (r.holder.map (·.who.ports)).getD [] ++ r.stack.map (·.port) ++ r.queue.map (·.port)

/-- No radio port is named twice by a bridge: not in two stack entries, whatever their tags, nor twice in the queue, nor in
two of holder, stack and queue (R71, R73, R74, R192). -/
def State.namedOnce (s : State) : Prop := ∀ b : BridgeId, (s.bridge b).named.Nodup

/-- A port with a place in a bridge is engaged, not barred, and a member of it in the active plan (R71). -/
def State.placesHeld (s : State) : Prop := ∀ (b : BridgeId) (p : PortId), (s.bridge b).hasPlace p = true →
  (s.port p).engaged = true ∧ (s.port p).bar = false ∧ (s.record b).members.getLsbD p = true

/-- A port that is engaged, not barred and a member of a bridge has its place there, or its bid is on its way (R71). -/
def State.placesTaken (s : State) : Prop := ∀ (p : PortId) (b : BridgeId), (s.port p).engaged = true →
  (s.port p).bar = false → s.memberOf p = some b → (s.bridge b).hasPlace p = true ∨ p ∈ s.bids

/-- The membership rule of both plans (R51). -/
def State.planRule (s : State) : Prop := ∀ (n : Fin 2) (b c : BridgeId),
  recordNested s.plans.records[n][b] = true
  ∧ (b ≠ c → s.plans.records[n][b].members &&& s.plans.records[n][c].members = 0)

/-- Every entry stands in the set of its unit's hash, names a valid unit, and if LEARNED has no override; no unit has two
entries (R33, R34). -/
def State.directoryRule (s : State) : Prop := ∀ (set : Fin 16) (way : Fin 4) (e : Entry),
  s.dir.at set way = some e →
    hashSet e.unit = set ∧ validUnit e.unit = true ∧ (e.kind = .learned → e.override = none)
    ∧ ∀ (other : Fin 4) (e' : Entry), s.dir.at set other = some e' → e'.unit = e.unit → other = way

/-- The holder record's priority is its holder's effective priority as it now stands (R72). -/
def State.holderPriorities (s : State) : Prop := ∀ (b : BridgeId) (h : Holder),
  (s.bridge b).holder = some h → h.priority = s.talkerPriority h.who

/-- Every bid queue stands in falling order of effective priority (R74). -/
def State.queuesOrdered (s : State) : Prop := ∀ b : BridgeId,
  (s.bridge b).queue.Pairwise fun x y => s.effPriority y.port ≤ s.effPriority x.port

/-- The console holds exactly the bridges of its talk set, at 5 and without a talk timer (R72, R79, R83). -/
def State.consoleRule (s : State) : Prop := ∀ b : BridgeId,
  ((s.bridge b).holder.any (·.who == .con) = s.console.talk.getLsbD b)
  ∧ ∀ h : Holder, (s.bridge b).holder = some h → h.who = .con → h.priority = 5 ∧ h.timer = none

/-- Settings that were clamped on their way in (R1, R2). -/
def Setup.inRange (q : Setup) : Prop :=
  q.csDebounce ≤ 15 ∧ q.voxThreshold ≤ 32767 ∧ q.voxHold ≤ 250 ∧ q.rxGain ≤ 4095 ∧ q.txGain ≤ 4095
  ∧ q.lead ≤ 125 ∧ q.hang ≤ 250 ∧ q.blank ≤ 125 ∧ q.keyLimit ≤ 600 ∧ 1 ≤ q.cooldown ∧ q.cooldown ≤ 60
  ∧ q.priority ≤ 3

/-- Settings of a bridge record in range (R49, R54). -/
def Record.inRange (r : Record) : Prop :=
  r.duckGain ≤ 4095 ∧ r.talkLimit ≤ 255 ∧ r.alertLength ≤ 10 ∧ r.alertGain ≤ 4095

/-- Every numeric setting lies in its range, and every override priority of the directory is at most 3 (R1, R34, R49,
R128, R146). -/
def State.settingsInRange (s : State) : Prop :=
  (∀ p : PortId, (s.port p).setup.inRange)
  ∧ (∀ (n : Fin 2) (b : BridgeId), s.plans.records[n][b].inRange)
  ∧ (∀ (set : Fin 16) (way : Fin 4) (e : Entry), s.dir.at set way = some e →
      ∀ o : Nat, e.override = some o → o ≤ 3)
  ∧ s.mixer.amplitude ≤ 16383 ∧ 2 ≤ s.mixer.p1 ∧ s.mixer.p1 ≤ 64 ∧ 2 ≤ s.mixer.p2 ∧ s.mixer.p2 ≤ 64
  ∧ s.mixer.conGain ≤ 4095 ∧ ∀ b : BridgeId, s.console.monitorGains[b] ≤ 4095

/-- Where no burst runs the alert phase stands at the start of the tone, and none runs longer than its bridge's alert
length (R141, R143, R161). -/
def State.burstRule (s : State) : Prop := ∀ b : BridgeId,
  ((s.bridge b).burst = 0 → (s.bridge b).phase = .start)
  ∧ (s.bridge b).burst ≤ (s.record b).alertLength * Config.framesPerSecond

/-- A source holds no flag and no mask bit that it does not have, and the device no switch (R171, R173). -/
def State.flagsExist (s : State) : Prop := (∀ src : Source,
    s.notices.flags[src] &&& ~~~allFlags src = 0 ∧ s.notices.masks[src] &&& ~~~allFlags src = 0)
  ∧ s.notices.switches[srcDevice] = false

/-- The reply queue holds at most 4 places; one is reserved exactly while a frame is under reception, and one awaits the
switch exactly while a switch is pending (R182, R185, R187). -/
def State.replyRule (s : State) : Prop :=
  s.link.replies.length ≤ Config.replyPlaces
  ∧ s.link.replies.count .reserved = (if s.link.rx = .hunting then 0 else 1)
  ∧ s.link.replies.count .awaiting = (if s.plans.switchPending then 1 else 0)

/-- While the mixer is HALTED no frame is in progress and SBOUT carries 0 (R128); a frame in progress has not passed its
last sample place (R125). -/
def State.mixerRule (s : State) : Prop :=
  (s.mixer.mode = .halted → s.mixer.frame = none ∧ s.mixer.sbout = silence)
  ∧ ∀ f : Frame, s.mixer.frame = some f → f.place ≤ frameLength s.mixer.rate

end Sys2Proof.Machine
end

