-- ==== Sys2Proof/Certificates/Slice0/Obligations.lean ====
section
/-! DEFINITION. The statements for the provers. Each docstring says which rules of spec/ the statement formalises. A
statement that rests on the model's own choice names its log entry. -/

open Sys2Proof Sys2Proof.Machine

/-! ## The queue of commands and RESET -/

/-- A step takes the command at the front of the queue with the queue's rest; on an empty queue the block idles (the
model's choice: log entry 13). -/
def Obligations.StepTakesTheFrontCommand : Prop :=
  ∀ (s : State) (c : Instr) (rest : List Instr),
    (s.pending = c :: rest → step s = exec c { s with pending := rest })
    ∧ (s.pending = [] → step s = .next s)

/-- The values that the chapters give for reset: R1, R5, R10, R12, R13, R16, R19, R23, R32, R33, R36, R49, R52, R69,
R70, R96, R125 with section 7.10 (SBOUT), R128, R146, R158, R164, R171, R173, R174, R175, R182, R187, R188. -/
def Obligations.ResetHoldsTheSpecsValues : Prop :=
  (∀ p : PortId,
    (State.reset.port p).setup =
      { qualify := .cs, csPolarity := .low, csDebounce := 2, voxThreshold := 512, voxHold := 50, rxGain := 1024
        txGain := 1024, keyPolarity := .low, lead := 25, hang := 0, blank := 25, keyLimit := 60, cooldown := 5
        priority := 1, homeAgency := 0, homeRole := 0, dataLine := false, dataRate := .b1200, dataParity := .none
        presencePolarity := .low }
    ∧ (State.reset.port p).manualKey = false ∧ (State.reset.port p).lifecycle = .off
    ∧ (State.reset.port p).present = false ∧ (State.reset.port p).presenceCount = 0
    ∧ (State.reset.port p).carrier = false ∧ (State.reset.port p).carrierCount = 0
    ∧ (State.reset.port p).vox = false ∧ (State.reset.port p).quietCount = 0
    ∧ (State.reset.port p).engaged = false ∧ (State.reset.port p).bar = false
    ∧ (State.reset.port p).unit = none ∧ (State.reset.port p).pendingId = none
    ∧ (State.reset.port p).emergency = .none ∧ (State.reset.port p).receiver = .idle
    ∧ (State.reset.port p).lineWait = false ∧ (State.reset.port p).key = .idle
    ∧ (State.reset.port p).timing = 0 ∧ (State.reset.port p).keyUp = 0)
  ∧ (∀ b : BridgeId,
    (State.reset.bridge b).holder = none ∧ (State.reset.bridge b).stack = [] ∧ (State.reset.bridge b).queue = []
    ∧ (State.reset.bridge b).burst = 0 ∧ (State.reset.bridge b).phase = ⟨.first, 0, true, 0⟩
    ∧ (State.reset.bridge b).writePos = 0 ∧ ∀ a : Nat, DelayRing.read (State.reset.bridge b).ring a = 0)
  ∧ State.reset.bidCounter = 0
  ∧ State.reset.plans.active = 0 ∧ State.reset.plans.switchPending = false
  ∧ (∀ (n : Fin 2) (b : BridgeId), State.reset.plans.records[n][b] =
      { members := 0, destinations := 0, alertOnly := 0, preempt := true, override := true, duck := false
        duckGain := 256, talkLimit := 0, alertLength := 3, alertGain := 1024 })
  ∧ (∀ (set : Fin 16) (way : Fin 4), State.reset.dir.at set way = none) ∧ State.reset.dir.count = 0
  ∧ State.reset.mixer.mode = .run ∧ State.reset.mixer.rate = .khz8 ∧ State.reset.mixer.rounding = .nearestEven
  ∧ State.reset.mixer.amplitude = 8192 ∧ State.reset.mixer.p1 = 4 ∧ State.reset.mixer.p2 = 5
  ∧ State.reset.mixer.conGain = 1024 ∧ State.reset.mixer.frame = none
  ∧ (∀ slot : Fin 13, State.reset.mixer.sbout[slot] = 0) ∧ State.reset.mixer.sending = []
  ∧ State.reset.console.talk = 0 ∧ State.reset.console.monitorMask = 0
  ∧ (∀ b : BridgeId, State.reset.console.monitorGains[b] = 1024)
  ∧ (∀ n : Fin 8, State.reset.watch[n] = ⟨false, 0, 0, 0, 0, 0⟩)
  ∧ (∀ src : Source, State.reset.notices.flags[src] = 0 ∧ State.reset.notices.masks[src] = allFlags src
      ∧ State.reset.notices.switches[src] = false
      ∧ State.reset.notices.marks[src] = decide (src = 0))
  ∧ State.reset.notices.started = true ∧ State.reset.attn = false ∧ State.reset.attnLine = true
  ∧ State.reset.link.rx = .hunting ∧ State.reset.link.gapRunning = false ∧ State.reset.link.replies = [] ∧ State.reset.link.tx = none
  ∧ State.reset.link.lastSource = 21 ∧ (∀ p : PortId, State.reset.keyLine p = true)

/-- Every invariant of Safety.lean holds at reset, and the part is then at rest and ready for a frame. That the link
receiver is then in no line wait, as `linkReady` has it, is the model's choice (log entry 33). -/
def Obligations.ResetMeetsTheInvariants : Prop :=
  State.reset.ringsSound ∧ State.reset.positionsEqual ∧ State.reset.engagementRule ∧ State.reset.neverKeyedOver
  ∧ State.reset.inactiveHeld ∧ State.reset.keyLimitRule ∧ State.reset.countsAtRest ∧ State.reset.stacksBounded
  ∧ State.reset.freeBridgesEmpty ∧ State.reset.namedOnce ∧ State.reset.placesHeld ∧ State.reset.planRule
  ∧ State.reset.directoryRule ∧ State.reset.holderPriorities ∧ State.reset.queuesOrdered
  ∧ State.reset.consoleRule ∧ State.reset.settingsInRange ∧ State.reset.burstRule ∧ State.reset.flagsExist
  ∧ State.reset.replyRule ∧ State.reset.mixerRule ∧ State.reset.placesTaken ∧ State.reset.linkReady ∧ State.reset.quiet

/-- RESET restores every reset value (the commands that wait and the levels of the DATA pins are outside the part, log
entries 10 and 14); its release takes the link rate from the straps (R180) and does nothing to a part out of reset.
While RESET is asserted no other command acts (the model's choice: log entry 2; R180 says that LRX is ignored). -/
def Obligations.ResetItsReleaseAndNothingElse : Prop :=
  (∀ s : State,
     exec .reset s = .next { State.reset with inReset := true, dataLines := s.dataLines, pending := s.pending }
     ∧ (s.inReset = true →
       exec (.resetRelease false false) s
           = .next { s with inReset := false, link := { s.link with rate := .b57600 } }
       ∧ exec (.resetRelease false true) s
           = .next { s with inReset := false, link := { s.link with rate := .b115200 } }
       ∧ exec (.resetRelease true false) s
           = .next { s with inReset := false, link := { s.link with rate := .b230400 } }
       ∧ exec (.resetRelease true true) s
           = .next { s with inReset := false, link := { s.link with rate := .b460800 } })
     ∧ (s.inReset = false → ∀ rate1 rate0 : Bool, exec (.resetRelease rate1 rate0) s = .next s))
  ∧ ∀ (s : State) (c : Instr), s.inReset = true → c ≠ .reset →
      (∀ rate1 rate0 : Bool, c ≠ .resetRelease rate1 rate0) → exec c s = .next s

/-! ## Reads -/

/-- PORT_READ (R4), BRIDGE_READ (R93) and DESCRIBE (R191): the reply, and nothing else; with the 24 bytes of a port
setup in the order of R1. That DESCRIBE answers what R191 lists, and no console values with it, where R146 says that it
returns those too, is the model's reading (log entry 12). -/
def Obligations.PortBridgeAndPartReads : Prop :=
  (∀ q : Setup, (setupBytes q).length = 24 ∧ setupBytes q =
    [qualifyByte q.qualify, polarityByte q.csPolarity, natByte q.csDebounce]
      ++ natHalf q.voxThreshold ++ [natByte q.voxHold] ++ natHalf q.rxGain ++ natHalf q.txGain
      ++ [polarityByte q.keyPolarity, natByte q.lead, natByte q.hang, natByte q.blank] ++ natHalf q.keyLimit
      ++ [natByte q.cooldown, natByte q.priority, natByte q.homeAgency.toNat, natByte q.homeRole.toNat,
        switchByte q.dataLine, dataRateByte q.dataRate, parityByte q.dataParity, polarityByte q.presencePolarity])
  ∧ ∀ s : State, s.linkReady →
    (∀ n : Byte, 11 < n.toNat → exec (.portRead n) s = .next (s.answered 0x03 [0x03]))
    ∧ (∀ p : PortId, exec (.portRead (natByte p.val)) s = .next (s.answered 0x03
        (0x00 :: (setupBytes (s.port p).setup ++ [switchByte (s.port p).manualKey] ++ s.portPayload p))))
    ∧ (∀ n : Byte, 7 < n.toNat → exec (.bridgeRead n) s = .next (s.answered 0x0B [0x03]))
    ∧ (∀ b : BridgeId, exec (.bridgeRead (natByte b.val)) s
        = .next (s.answered 0x0B (0x00 :: s.bridgePayload b)))
    ∧ exec .describe s = .next (s.answered 0x01
        ([0x00, 12, 8, modeByte s.mixer.mode, rateByte s.mixer.rate, roundingByte s.mixer.rounding]
          ++ natHalf s.mixer.amplitude ++ [natByte s.mixer.p1, natByte s.mixer.p2] ++ natHalf s.mixer.conGain
          ++ [natByte s.plans.active.val, linkRateByte s.link.rate] ++ stampBytes s.bidCounter))

/-- Numbers of one, two and four bytes, the most significant first, and the codes of every enumerated field (R189). The
payloads of the four kinds of notice (R192): the 2 bytes of the device, the 19 of the console, and by section
11.7 the 10 bytes of a port and the bytes of a bridge, at most 56, with its holder, timer, burst, flags, stack entries
and queue entries. -/
def Obligations.NoticePayloadsFollowTheLayouts : Prop :=
  (∀ n : Nat, (natByte n).toNat = n % 256
    ∧ natHalf n = [natByte (n / 256), natByte n] ∧ halfBytes (BitVec.ofNat 16 n) = natHalf n
    ∧ stampBytes (BitVec.ofNat 32 n) = natHalf (n / 65536) ++ natHalf n)
  ∧ ([QualifyMode.cs, .vox, .both].map qualifyByte = [0, 1, 2]
    ∧ [Polarity.high, .low].map polarityByte = [0, 1]
    ∧ [DataRate.b1200, .b2400, .b4800, .b9600].map dataRateByte = [0, 1, 2, 3]
    ∧ [Parity.none, .even, .odd].map parityByte = [0, 1, 2]
    ∧ [Rounding.nearestEven, .floor, .towardZero].map roundingByte = [0, 1, 2]
    ∧ [SampleRate.khz8, .khz16].map rateByte = [0, 1]
    ∧ [Lifecycle.off, .active, .lost].map lifecycleCode = [0, 1, 2]
    ∧ [KeyState.idle, .deferred, .keyed, .drain, .hang, .blank, .cool].map keyByte = [0, 1, 2, 3, 4, 5, 6]
    ∧ [MixerMode.run, .halted].map modeByte = [0, 1]
    ∧ [EntryKind.registered, .learned].map kindByte = [0, 1]
    ∧ [LinkRate.b57600, .b115200, .b230400, .b460800].map linkRateByte = [0, 1, 2, 3]
    ∧ [false, true].map switchByte = [0, 1]
    ∧ overrideByte none = 0x0F ∧ (∀ n : Nat, n ≤ 3 → (overrideByte (some n)).toNat = n)
    ∧ talkerCode .con = 12 ∧ ∀ p : PortId, talkerCode (.port p) = p.val)
  ∧ (∀ (s : State) (p : PortId),
    (s.portPayload p).length = 10
    ∧ (byteAt (s.portPayload p) 0).toNat = p.val
    ∧ ((byteAt (s.portPayload p) 1).extractLsb' 0 2).toNat = lifecycleCode (s.port p).lifecycle
    ∧ (byteAt (s.portPayload p) 1).getLsbD 2 = (s.port p).present
    ∧ (byteAt (s.portPayload p) 1).getLsbD 3 = (s.port p).carrier
    ∧ (byteAt (s.portPayload p) 1).getLsbD 4 = (s.port p).vox
    ∧ (byteAt (s.portPayload p) 1).getLsbD 5 = (s.port p).engaged
    ∧ (byteAt (s.portPayload p) 1).getLsbD 6 = (s.port p).bar
    ∧ ((byteAt (s.portPayload p) 1).getLsbD 7 = true ↔ (s.port p).emergency ≠ .none)
    ∧ byteAt (s.portPayload p) 2 = keyByte (s.port p).key
    ∧ (byteAt (s.portPayload p) 3).extractLsb' 0 6 = s.notices.flags[srcPort p]
    ∧ (byteAt (s.portPayload p) 3).extractLsb' 6 2 = 0
    ∧ halfAt (s.portPayload p) 4 = (s.port p).unit.getD 0
    ∧ halfAt (s.portPayload p) 6 = ((s.port p).pendingId.map (·.unit)).getD 0
    ∧ halfAt (s.portPayload p) 8 = (match (s.port p).emergency with
        | .active (some u) => u
        | .active none => 0
        | .none => 0))
  ∧ (∀ (s : State) (b : BridgeId), s.stacksBounded → s.namedOnce →
    (s.bridgePayload b).length = 12 + 5 * (s.bridge b).stack.length + 3 * (s.bridge b).queue.length
    ∧ (s.bridgePayload b).length ≤ 56
    ∧ (byteAt (s.bridgePayload b) 0).toNat = b.val
    ∧ (∀ h : Holder, (s.bridge b).holder = some h → h.priority ≤ 5 →
        (byteAt (s.bridgePayload b) 1).toNat = talkerCode h.who + 16 * h.priority)
    ∧ (∀ h : Holder, (s.bridge b).holder = some h →
        (halfAt (s.bridgePayload b) 2 ++ halfAt (s.bridgePayload b) 4 : Stamp) = h.stamp
        ∧ (h.timer = none → halfAt (s.bridgePayload b) 6 = 0)
        ∧ ∀ n : Nat, h.timer = some n → n < 65536 → (halfAt (s.bridgePayload b) 6).toNat = n)
    ∧ ((s.bridge b).holder = none → byteAt (s.bridgePayload b) 1 = 15
        ∧ (halfAt (s.bridgePayload b) 2 ++ halfAt (s.bridgePayload b) 4 : Stamp) = 0
        ∧ halfAt (s.bridgePayload b) 6 = 0)
    ∧ ((byteAt (s.bridgePayload b) 8).extractLsb' 0 3).toNat = (s.bridge b).stack.length
    ∧ (byteAt (s.bridgePayload b) 8).getLsbD 3 = false
    ∧ ((byteAt (s.bridgePayload b) 8).extractLsb' 4 4).toNat = (s.bridge b).queue.length
    ∧ ((s.bridge b).burst < 65536 → (halfAt (s.bridgePayload b) 9).toNat = (s.bridge b).burst)
    ∧ (byteAt (s.bridgePayload b) 11).extractLsb' 0 3 = s.notices.flags[srcBridge b].extractLsb' 0 3
    ∧ (s.flagsExist → (byteAt (s.bridgePayload b) 11).extractLsb' 3 5 = 0)
    ∧ (∀ (i k : Nat) (e : StackEntry), (s.bridge b).stack[i]? = some e → k = 12 + 5 * i →
        (byteAt (s.bridgePayload b) k).toNat = e.port.val + (if e.tag = .valid then 128 else 0)
        ∧ (e.saved = none → halfAt (s.bridgePayload b) (k + 1) = 0)
        ∧ (∀ n : Nat, e.saved = some n → n < 65536 → (halfAt (s.bridgePayload b) (k + 1)).toNat = n)
        ∧ halfAt (s.bridgePayload b) (k + 3) = e.stamp.extractLsb' 0 16)
    ∧ ∀ (j k : Nat) (e : QueueEntry), (s.bridge b).queue[j]? = some e →
        k = 12 + 5 * (s.bridge b).stack.length + 3 * j →
        (s.effPriority e.port ≤ 5 →
          (byteAt (s.bridgePayload b) k).toNat = e.port.val + 16 * s.effPriority e.port)
        ∧ halfAt (s.bridgePayload b) (k + 1) = e.stamp.extractLsb' 0 16)
  ∧ ∀ s : State,
    s.devicePayload.length = 2
    ∧ byteAt s.devicePayload 0 = (if s.notices.started = true then 1 else 0)
    ∧ (byteAt s.devicePayload 1).extractLsb' 0 2 = s.notices.flags[srcDevice].extractLsb' 0 2
    ∧ (s.flagsExist → (byteAt s.devicePayload 1).extractLsb' 2 6 = 0)
    ∧ s.consolePayload.length = 19
    ∧ byteAt s.consolePayload 0 = s.console.talk ∧ byteAt s.consolePayload 1 = s.console.monitorMask
    ∧ (∀ b : BridgeId, s.console.monitorGains[b] ≤ 4095 →
        (halfAt s.consolePayload (2 + 2 * b.val)).toNat = s.console.monitorGains[b])
    ∧ (byteAt s.consolePayload 18).extractLsb' 0 2 = s.notices.flags[srcConsole].extractLsb' 0 2
    ∧ (s.flagsExist → (byteAt s.consolePayload 18).extractLsb' 2 6 = 0)

/-! ## Radio ports -/

/-- PORT_SETUP (R2): the first step that fails decides the reply; a refused request changes nothing; otherwise every
field is written. A write that leaves the effective priority as it is, or meets no arbiter, changes nothing else; a new
one is taken by the arbiter of the port's bridge (R3, R77), and what comes of it is handed on. -/
def Obligations.PortSetupFirstFailingStepDecides : Prop :=
  ∀ (s : State) (f : SetupFields), s.linkReady →
    (∀ n : Byte, 11 < n.toNat → exec (.portSetup n f) s = .next (s.answered 0x02 [0x03]))
    ∧ ∀ p : PortId,
      (¬ setupListed f → exec (.portSetup (natByte p.val) f) s = .next (s.answered 0x02 [0x03]))
      ∧ (setupListed f → ∃ q : Setup, q.carriedBy f)
      ∧ ∀ q : Setup, q.carriedBy f →
        ((s.port p).lifecycle ≠ .off → ¬ q.liveChangeOf (s.port p).setup →
          exec (.portSetup (natByte p.val) f) s = .next (s.answered 0x02 [0x02]))
        ∧ ((s.port p).lifecycle = .off ∨ q.liveChangeOf (s.port p).setup →
          ∃ (t u : State) (code : Byte), exec (.portSetup (natByte p.val) f) s = .next t
            ∧ (code = 0x00 ∧ q.asCarried f ∨ code = 0x01 ∧ ¬ q.asCarried f)
            ∧ u = { s with ports := s.ports.set p { s.port p with setup := q } }
            ∧ t.backdrop = (u.answered 0x02 [code]).backdrop
            ∧ (u.effPriority p = s.effPriority p ∨ (s.port p).engaged = false ∨ s.memberOf p = none →
              t = u.answered 0x02 [code])
            ∧ ∀ b : BridgeId, u.effPriority p ≠ s.effPriority p → (s.port p).engaged = true →
              s.memberOf p = some b → t = (u.takePriority b p).handOn.answered 0x02 [code])

/-- PORT_START (R8 with R6): OFF to ACTIVE or LOST by the taken presence level, the manual key released; nothing for
a started port. The port begins with its key machine in IDLE, and its entry is handed on; where nothing else is about to
move, the new port alone changes, keyed at once under demand. Whether a data
line that is low at the entry begins in a line wait is the model's choice, by the level last seen (log entry 10). -/
def Obligations.PortStartEntersActiveOrLost : Prop :=
  ∀ s : State, s.linkReady →
    (∀ n : Byte, 11 < n.toNat → exec (.portStart n) s = .next (s.answered 0x04 [0x03]))
    ∧ ∀ p : PortId,
      ((s.port p).lifecycle ≠ .off →
        exec (.portStart (natByte p.val)) s = .next (s.answered 0x04 [0x00]))
      ∧ ((s.port p).lifecycle = .off → (s.port p).present = false →
        exec (.portStart (natByte p.val)) s = .next
          ((s.portReported p { s.port p with manualKey := false, lifecycle := .lost }).answered 0x04 [0x00]))
      ∧ ((s.port p).lifecycle = .off → (s.port p).present = true →
        ∃ (t : State) (q : Port), exec (.portStart (natByte p.val)) s = .next t
          ∧ q = { s.port p with
              manualKey := false, lifecycle := .active, carrier := false, carrierCount := 0, vox := false
              quietCount := 0, engaged := false, bar := false
              key := if s.demand p then .keyed else .idle
              timing := 0, keyUp := 0
              receiver := if (s.port p).setup.dataLine then .hunting else .idle
              lineWait := (s.port p).setup.dataLine && !s.dataLines.getLsbD p }
          ∧ t.backdrop = (({ s with ports := s.ports.set p q } : State).answered 0x04 [0x00]).backdrop
          ∧ t = (s.portReported p { q with key := .idle }).handOn.answered 0x04 [0x00]
          ∧ (s.quiet → t = (s.portReported p q).answered 0x04 [0x00]))

/-- PORT_STOP (R9 with R7): the departure of an ACTIVE or LOST port, which keeps its setup and its emergency, and leaves
no place in any bridge where the places were sound. The lifecycle changes first, then its engagement ends, then the rest
of its state goes to rest, and what comes of it is handed on. -/
def Obligations.PortStopDeparts : Prop :=
  ∀ s : State, s.linkReady →
    (∀ n : Byte, 11 < n.toNat → exec (.portStop n) s = .next (s.answered 0x05 [0x03]))
    ∧ ∀ p : PortId,
      ((s.port p).lifecycle = .off → exec (.portStop (natByte p.val)) s = .next (s.answered 0x05 [0x00]))
      ∧ ((s.port p).lifecycle ≠ .off →
        ∃ (t : State) (q : Port), exec (.portStop (natByte p.val)) s = .next t
          ∧ q = { s.port p with
              lifecycle := .off, engaged := false, bar := false, unit := none, pendingId := none
              receiver := .idle, lineWait := false, carrier := false, carrierCount := 0, vox := false
              quietCount := 0, key := .idle, timing := 0, keyUp := 0 }
          ∧ t.port p = q
          ∧ t.backdrop = (({ s with ports := s.ports.set p q } : State).answered 0x05 [0x00]).backdrop
          ∧ (s.namedOnce → s.placesHeld → s.planRule → ∀ b : BridgeId, (t.bridge b).hasPlace p = false)
          ∧ (∀ x : State, x = (s.portReported p { s.port p with lifecycle := .off }).judgeEngagement false p →
            t = (x.portReported p q).handOn.answered 0x05 [0x00])
          ∧ ((s.port p).engaged = false → s.quiet → t = (s.portReported p q).answered 0x05 [0x00]))

/-- MANUAL_KEY, step by step, and the level it drives on the key line of an OFF port (R11). -/
def Obligations.ManualKeyDrivesAnOffPort : Prop :=
  ∀ s : State, s.linkReady →
    (∀ n level : Byte, 11 < n.toNat → exec (.manualKey n level) s = .next (s.answered 0x06 [0x03]))
    ∧ (∀ (p : PortId) (level : Byte), 1 < level.toNat →
      exec (.manualKey (natByte p.val) level) s = .next (s.answered 0x06 [0x03]))
    ∧ (∀ (p : PortId) (on : Bool), (s.port p).lifecycle ≠ .off →
      exec (.manualKey (natByte p.val) (switchByte on)) s = .next (s.answered 0x06 [0x02]))
    ∧ (∀ (p : PortId) (on : Bool), (s.port p).lifecycle = .off →
      ∃ t : State, exec (.manualKey (natByte p.val) (switchByte on)) s = .next t
        ∧ t = ({ s with ports := s.ports.set p { s.port p with manualKey := on } } : State).answered 0x06 [0x00]
        ∧ ((s.port p).setup.keyPolarity = .high → t.keyLine p = on)
        ∧ ((s.port p).setup.keyPolarity = .low → t.keyLine p = !on))

/-- A second consecutive differing presence sample takes the new level and moves the lifecycle by the table of R10. The
two rows of that table that cannot occur (an ACTIVE port whose level was absent, a LOST port whose level was present)
take the level alone, and a port back in ACTIVE begins in a line wait where its data line was last seen low: both are
the model's choice (log entries 29 and 10). -/
def Obligations.PresenceTakenMovesTheLifecycle : Prop :=
  ∀ (s u : State) (p : PortId), s.inReset = false → Due.presence p ∈ s.due →
    u = { s with
      due := s.due.erase (.presence p)
      ports := s.ports.set p { s.port p with present := !(s.port p).present, presenceCount := 0 } } →
    ((s.port p).lifecycle = .off → exec (.presenceTaken p) s = .next u)
    ∧ ((s.port p).lifecycle = .active → (s.port p).present = false → exec (.presenceTaken p) s = .next u)
    ∧ ((s.port p).lifecycle = .lost → (s.port p).present = true → exec (.presenceTaken p) s = .next u)
    ∧ ((s.port p).lifecycle = .active → (s.port p).present = true →
      ∃ (t : State) (q : Port), exec (.presenceTaken p) s = .next t
        ∧ q = { u.port p with
            lifecycle := .lost, engaged := false, bar := false, unit := none, pendingId := none
            receiver := .idle, lineWait := false, carrier := false, carrierCount := 0, vox := false
            quietCount := 0, key := .idle, timing := 0, keyUp := 0 }
        ∧ t.port p = q ∧ t.backdrop = ({ u with ports := u.ports.set p q } : State).backdrop
        ∧ (∀ x : State, x = (u.portReported p { u.port p with lifecycle := .lost }).judgeEngagement false p →
          t = (x.portReported p q).handOn)
        ∧ (s.namedOnce → s.placesHeld → s.planRule → ∀ b : BridgeId, (t.bridge b).hasPlace p = false))
    ∧ ((s.port p).lifecycle = .lost → (s.port p).present = false →
      ∃ (t : State) (q : Port), exec (.presenceTaken p) s = .next t
        ∧ q = { u.port p with
            lifecycle := .active, carrier := false, carrierCount := 0, vox := false, quietCount := 0
            engaged := false, bar := false
            key := if u.demand p then .keyed else .idle
            timing := 0, keyUp := 0
            receiver := if (s.port p).setup.dataLine then .hunting else .idle
            lineWait := (s.port p).setup.dataLine && !s.dataLines.getLsbD p }
        ∧ t.backdrop = ({ u with ports := u.ports.set p q } : State).backdrop
        ∧ t = (u.portReported p { q with key := .idle }).handOn
        ∧ (u.quiet → t = u.portReported p q))

/-! ## The plan store and the switch -/

/-- PLAN_EDIT (R54), PLAN_READ (R56) and PLAN_COPY (R57), each with every reply; the edit plan is
the one that is not active (R53). The 16 bytes of a record, carried or read, stand in one order (R190). -/
def Obligations.PlanEditReadAndCopy : Prop :=
  (∀ r : Record, (recordBytes r).length = 16 ∧ recordBytes r =
    halfBytes (r.members.zeroExtend 16) ++ halfBytes (r.destinations.zeroExtend 16)
      ++ halfBytes (r.alertOnly.zeroExtend 16) ++ [switchByte r.preempt, switchByte r.override, switchByte r.duck]
      ++ natHalf r.duckGain ++ natHalf r.talkLimit ++ [natByte r.alertLength] ++ natHalf r.alertGain)
  ∧ (∀ f : RecordFields, recordFieldBytes f =
    halfBytes f.members ++ halfBytes f.destinations ++ halfBytes f.alertOnly ++ [f.preempt, f.override, f.duck]
      ++ halfBytes f.duckGain ++ halfBytes f.talkLimit ++ [f.alertLength] ++ halfBytes f.alertGain)
  ∧ ∀ s : State, s.linkReady →
    s.editPlan ≠ s.plans.active
    ∧ (∀ (n : Byte) (f : RecordFields), 7 < n.toNat → exec (.planEdit n f) s = .next (s.answered 0x07 [0x03]))
    ∧ (∀ (b : BridgeId) (f : RecordFields),
      (4096 ≤ f.members.toNat ∨ 4096 ≤ f.destinations.toNat ∨ 4096 ≤ f.alertOnly.toNat ∨ 1 < f.preempt.toNat
          ∨ 1 < f.override.toNat ∨ 1 < f.duck.toNat →
        exec (.planEdit (natByte b.val) f) s = .next (s.answered 0x07 [0x03]))
      ∧ (¬ (f.destinations &&& f.members = f.destinations ∧ f.alertOnly &&& f.destinations = f.alertOnly) →
        exec (.planEdit (natByte b.val) f) s = .next (s.answered 0x07 [0x03])))
    ∧ (∀ (b : BridgeId) (f : RecordFields) (r : Record),
      r.members.zeroExtend 16 = f.members → r.destinations.zeroExtend 16 = f.destinations →
      r.alertOnly.zeroExtend 16 = f.alertOnly → switchByte r.preempt = f.preempt →
      switchByte r.override = f.override → switchByte r.duck = f.duck →
      r.duckGain = min f.duckGain.toNat 4095 → r.talkLimit = min f.talkLimit.toNat 255 →
      r.alertLength = min f.alertLength.toNat 10 → r.alertGain = min f.alertGain.toNat 4095 →
      r.destinations &&& r.members = r.destinations → r.alertOnly &&& r.destinations = r.alertOnly →
      ((∃ c : BridgeId, c ≠ b ∧ s.plans.records[s.editPlan][c].members &&& r.members ≠ 0) →
        exec (.planEdit (natByte b.val) f) s = .next (s.answered 0x07 [0x02]))
      ∧ ((∀ c : BridgeId, c ≠ b → s.plans.records[s.editPlan][c].members &&& r.members = 0) →
        ∃ code : Byte,
          (code = 0x00 ∧ recordBytes r = recordFieldBytes f ∨ code = 0x01 ∧ recordBytes r ≠ recordFieldBytes f)
          ∧ ∀ edited : Vector Record 8, edited = s.plans.records[s.editPlan].set b r →
            ∀ both : Vector (Vector Record 8) 2, both = s.plans.records.set s.editPlan edited →
            exec (.planEdit (natByte b.val) f) s = .next
              (({ s with plans := { s.plans with records := both } } : State).answered 0x07 [code])))
    ∧ (∀ m n : Byte, (1 < m.toNat ∨ 7 < n.toNat) →
      exec (.planRead m n) s = .next (s.answered 0x08 [0x03]))
    ∧ (∀ (m : Fin 2) (b : BridgeId), exec (.planRead (natByte m.val) (natByte b.val)) s
        = .next (s.answered 0x08 ([0x00, natByte m.val, if m = s.plans.active then 1 else 0, natByte b.val]
            ++ recordBytes s.plans.records[m][b])))
    ∧ ∀ both : Vector (Vector Record 8) 2,
      both = s.plans.records.set s.editPlan s.plans.records[s.plans.active] →
      exec .planCopy s = .next
        (({ s with plans := { s.plans with records := both } } : State).answered 0x09 [0x00])

/-- PLAN_SWITCH with the mixer RUN waits for the next frame start with its reply unformed (R58, R185); with the mixer
HALTED it is made at once (R66); PLAN_SWITCH_MADE or the frame start makes a pending one. Made, it exchanges the plans
and copies no record (R53), and takes its steps in order (R59): `x` is the state after step 1, in which every bridge has
lost its non-members (R60, R61; SwitchRemovesMembersAndDestinations) and its burst stands within the new alert length
(R65), with no port touched and those changes reported (R68), where that a switch which adjusts saved times alone makes
no notice pending is the model's reading and not the spec's word (log entry 15); then the destination-removal effect
reaches the ports (R62, R121) in port order, each with the bid that it brings (the model's choice: log entry 32; a port
with its place does not bid again: log entry 16); then the ports newly members bid in port order (R63); then what has
changed is handed on. -/
def Obligations.PlanSwitchWaitsAndIsMade : Prop :=
  ∀ s : State,
    let u : State := { s with
      plans := { s.plans with active := s.plans.active + 1, switchPending := false }
      bridges := Vector.ofFn fun b : BridgeId =>
        let frames := s.plans.records[s.plans.active + 1][b].alertLength * 250
        { s.bridge b with
          burst := min (s.bridge b).burst frames
          phase := if frames = 0 ∧ (s.bridge b).burst ≠ 0 then ⟨.first, 0, true, 0⟩ else (s.bridge b).phase } }
    let exchanged : State := { s with plans := u.plans }
    let bid (z : State) (p : PortId) : State := match z.memberOf p with
      | some b => if (z.port p).engaged = true ∧ (z.port p).bar = false ∧ (z.bridge b).hasPlace p = false
          then z.bid b (.port p) else z
      | none => z
    let removed (z : State) (p : PortId) : State :=
      let r := z.removeDestination s.activeRecords p
      if r.bids = [] then r else bid { r with bids := [] } p
    let joined (z : State) (p : PortId) : State :=
      if (z.memberOf p).any (fun b => !(s.record b).members.getLsbD p) then bid z p else z
    let switched (t : State) : Prop := ∃ x : State,
      x = { exchanged with bridges := x.bridges, notices := { s.notices with marks := x.notices.marks } }
      ∧ (∀ b : BridgeId, x.bridge b = { (exchanged.removeNonMembers b).bridge b with
          burst := (u.bridge b).burst, phase := (u.bridge b).phase })
      ∧ (s.namedOnce → ∀ src : Source, x.notices.marks[src] = true ↔ s.notices.marks[src] = true
        ∨ ∃ b : BridgeId, src = srcBridge b ∧ s.notices.switches[src] = true
          ∧ ((s.bridge b).sameReported (x.bridge b) = false ∨ (x.bridge b).burst ≠ (s.bridge b).burst))
      ∧ t = (allPorts.foldl joined (allPorts.foldl removed x)).handOn
    let made : Place := .formed (replyFrame 0x0A [0x00, natByte (s.plans.active + 1).val])
    (s.linkReady → s.mixer.mode = .run → exec .planSwitch s = .next
      { s with
        plans := { s.plans with switchPending := true }
        link := { s.link with rx := .hunting, gapRunning := false, replies := s.link.replies ++ [.awaiting] } })
    ∧ (s.linkReady → s.mixer.mode = .halted → ∃ t : State,
      exec .planSwitch s = .next (t.answered 0x0A [0x00, natByte (s.plans.active + 1).val])
      ∧ t.backdrop = u.backdrop ∧ (s.bids = [] → switched t))
    ∧ (s.calm → s.mixer.mode = .run → s.mixer.frame = none → s.plans.switchPending = true →
      ∃ (t w : State), exec .planSwitchMade s = .next w ∧ t.backdrop = u.backdrop ∧ (s.bids = [] → switched t)
        ∧ w = { t with link := { s.link with
            replies := s.link.replies.map fun x => if x = .awaiting then made else x } }
        ∧ exec .frameStart s = exec .frameStart w)

/-- Step 1 of a switch for one bridge (R60, R61), under the records now active: non-members leave the queue, their stack
entries become EMPTY, the new talk limit is applied to the holder and to VALID entries, and a radio holder that is no
member releases by R85; the console keeps the bridge, and no other bridge or port is touched. The bridge's notice
becomes pending where its switch is on and its holder, stack or queue has changed (R68); that saved times are no such
change is the model's reading (log entry 15). And the destination-removal effect (R121, R62) on one key machine, for old
records and those now active. -/
def Obligations.SwitchRemovesMembersAndDestinations : Prop :=
  (∀ (s t : State) (b : BridgeId), t = s.removeNonMembers b →
     (∀ e ∈ (t.bridge b).queue, (s.record b).members.getLsbD e.port = true)
     ∧ (∀ e ∈ (t.bridge b).stack, e.tag = .valid → (s.record b).members.getLsbD e.port = true)
     ∧ (∀ (h : Holder) (p : PortId), (t.bridge b).holder = some h → h.who = .port p →
         (s.record b).members.getLsbD p = true)
     ∧ (∀ h : Holder, (s.bridge b).holder = some h → h.who = .con → (t.bridge b).holder = some h)
     ∧ (∀ (h : Holder) (p : PortId), (s.bridge b).holder = some h → h.who = .port p →
         (s.record b).members.getLsbD p = true →
         ∃ timer : Option Nat, (t.bridge b).holder = some { h with timer := timer }
           ∧ ((s.record b).talkLimit = 0 → timer = none)
           ∧ ((s.record b).talkLimit ≠ 0 →
               timer = some (min (h.timer.getD ((s.record b).talkLimit * 250)) ((s.record b).talkLimit * 250)))
           ∧ (t.bridge b).queue = (s.bridge b).queue.filter (fun e => (s.record b).members.getLsbD e.port)
           ∧ (t.bridge b).stack.map (·.port) = (s.bridge b).stack.map (·.port)
           ∧ (t.bridge b).stack.map (·.stamp) = (s.bridge b).stack.map (·.stamp)
           ∧ ∀ i : Nat, (t.bridge b).stack[i]? = (s.bridge b).stack[i]?.map fun e =>
               if (s.record b).members.getLsbD e.port = false then { e with tag := .empty }
               else if e.tag = .empty then e
               else if (s.record b).talkLimit = 0 then { e with saved := none }
               else { e with
                 saved := some (min (e.saved.getD ((s.record b).talkLimit * 250)) ((s.record b).talkLimit * 250)) })
     ∧ (∀ c : BridgeId, c ≠ b → t.bridge c = s.bridge c)
     ∧ (∀ (limit : Nat) (time : Option Nat → Option Nat) (r : Bridge),
         limit = (s.record b).talkLimit * 250 →
         (∀ x : Option Nat, time x = if limit = 0 then none else some (min (x.getD limit) limit)) →
         r = { s.bridge b with
           holder := (s.bridge b).holder.map fun h => if h.who = .con then h else { h with timer := time h.timer }
           queue := (s.bridge b).queue.filter fun e => (s.record b).members.getLsbD e.port
           stack := (s.bridge b).stack.map fun e =>
             if (s.record b).members.getLsbD e.port = false then { e with tag := .empty }
             else if e.tag = .empty then e else { e with saved := time e.saved } } →
         (((s.bridge b).holder = none ∨ ∃ h : Holder, (s.bridge b).holder = some h
             ∧ ∀ p : PortId, h.who = .port p → (s.record b).members.getLsbD p = true) → t.bridge b = r)
         ∧ ∀ (h : Holder) (p : PortId), (s.bridge b).holder = some h → h.who = .port p →
           (s.record b).members.getLsbD p = false →
           t.bridge b = (State.release b { s with bridges := s.bridges.set b r }).bridge b)
     ∧ t.ports = s.ports ∧ t.bidCounter = s.bidCounter ∧ t.backdrop = s.backdrop
     ∧ t = { s with bridges := t.bridges, notices := { s.notices with marks := t.notices.marks } }
     ∧ (s.namedOnce → ∀ src : Source, t.notices.marks[src] = (s.notices.marks[src] || (s.notices.switches[src]
         && decide (src = srcBridge b) && !(s.bridge b).sameReported (t.bridge b)))))
  ∧ ∀ (s t : State) (old : Vector Record 8) (p : PortId), t = s.removeDestination old p →
      ((∀ b : BridgeId, destinationIn old p = some b → (s.record b).destinations.getLsbD p = true) → t = s)
      ∧ ((s.port p).key = .idle ∨ (s.port p).key = .blank ∨ (s.port p).key = .cool → t = s)
      ∧ ∀ b : BridgeId, destinationIn old p = some b → (s.record b).destinations.getLsbD p = false →
        ((s.port p).key = .deferred →
          t = s.portReported p { s.port p with key := .idle, timing := 0, keyUp := 0 })
        ∧ ((s.port p).key = .keyed ∨ (s.port p).key = .drain ∨ (s.port p).key = .hang →
          (s.port p).setup.blank ≠ 0 →
          t = s.portReported p { s.port p with key := .blank, timing := 0, keyUp := 0 })
        ∧ ((s.port p).key = .keyed ∨ (s.port p).key = .drain ∨ (s.port p).key = .hang →
          (s.port p).setup.blank = 0 →
          t = (s.portReported p { s.port p with key := .idle, timing := 0, keyUp := 0 }).judgeEngagement false p)

/-! ## The unit directory -/

/-- UNIT_ENTER (R43): an entry that exists is rewritten in its way with its flag, last port and stamp kept; another is
made in the room that its set has, of a LEARNED entry with a clear flag too (the model's reading against the third row
of R48's table: log entry 35); FULL otherwise. Where the override priority that the directory answers is unchanged, no
port is reached (R47). UNIT_REMOVE by the table of R44; where the entry carried no override priority, no port is reached
(R47). Where it changes, every port whose current unit is U hands a changed effective priority to the arbiter of its
bridge, in port order, each with what comes of it before the next (R47); the entry is written first, so that a port
whose turn has not come already counts at its new priority (the model's choice: log entry 27). -/
def Obligations.UnitEntriesAreEnteredAndRemoved : Prop :=
  let reached (before : State) (u : UnitId) (z : State) (p : PortId) : State := match z.memberOf p with
    | some b => if (z.port p).unit = some u ∧ (z.port p).engaged = true ∧ z.effPriority p ≠ before.effPriority p
        then (z.takePriority b p).handOn else z
    | none => z
  (∀ (s : State) (u : Half) (agency role ovr : Byte), s.linkReady →
     (u = 0 ∨ u = 0xFFFF → exec (.unitEnter u agency role ovr) s = .next (s.answered 0x0D [0x03]))
     ∧ (3 < ovr.toNat → ovr ≠ 0x0F → exec (.unitEnter u agency role ovr) s = .next (s.answered 0x0D [0x03]))
     ∧ ∀ (o : Option Nat) (a : BitVec 4) (r : BitVec 3), u ≠ 0 → u ≠ 0xFFFF →
       overrideByte o = ovr → (∀ n : Nat, o = some n → n ≤ 3) →
       a.toNat = min agency.toNat 15 → r.toNat = min role.toNat 7 →
       (s.dir.find u = none → s.dir.room (hashSet u) = none →
         exec (.unitEnter u agency role ovr) s = .next (s.answered 0x0D [0x08]))
       ∧ ∀ (w : Fin 4) (e : Entry),
         (s.dir.find u = some w ∧ (∃ old : Entry, s.dir.at (hashSet u) w = some old
             ∧ e = { old with kind := .registered, agency := a, role := r, override := o })
           ∨ s.dir.find u = none ∧ s.dir.room (hashSet u) = some w
             ∧ e = { unit := u, kind := .registered, agency := a, role := r, override := o
                     emergency := decide (∃ p : PortId, (s.port p).emergency = .active (some u))
                     lastPort := none, stamp := s.dir.count }) →
         ∃ (t v : State) (code : Byte), exec (.unitEnter u agency role ovr) s = .next t
           ∧ (code = 0x00 ∧ agency.toNat ≤ 15 ∧ role.toNat ≤ 7
               ∨ code = 0x01 ∧ (15 < agency.toNat ∨ 7 < role.toNat))
           ∧ v = { s with dir := s.dir.put (hashSet u) w (some e) }
           ∧ t.backdrop = (v.answered 0x0D [code, natByte (hashSet u).val, natByte w.val]).backdrop
           ∧ (s.overrideFor (some u) = o → t = v.answered 0x0D [code, natByte (hashSet u).val, natByte w.val])
           ∧ t = (allPorts.foldl (reached s u) v).answered 0x0D [code, natByte (hashSet u).val, natByte w.val])
  ∧ ∀ (s : State) (u : Half), s.linkReady →
      (u = 0 ∨ u = 0xFFFF → exec (.unitRemove u) s = .next (s.answered 0x0E [0x03]))
      ∧ (u ≠ 0 → u ≠ 0xFFFF →
        (s.dir.find u = none → exec (.unitRemove u) s = .next (s.answered 0x0E [0x09]))
        ∧ ∀ (w : Fin 4) (e : Entry), s.dir.find u = some w → s.dir.at (hashSet u) w = some e →
          (e.emergency = true → exec (.unitRemove u) s = .next (s.answered 0x0E [0x02]))
          ∧ (e.emergency = false → ∃ t v : State, exec (.unitRemove u) s = .next t
            ∧ v = { s with dir := s.dir.put (hashSet u) w none }
            ∧ t.backdrop = (v.answered 0x0E [0x00]).backdrop
            ∧ (s.directoryRule → e.override = none → t = v.answered 0x0E [0x00])
            ∧ t = (allPorts.foldl (reached s u) v).answered 0x0E [0x00]))

/-- UNIT_READ by ID and by place (R45). -/
def Obligations.UnitReadAnswersOneEntry : Prop :=
  ∀ s : State, s.linkReady →
    let reply (set : Fin 16) (way : Fin 4) : List Byte := match s.dir.at set way with
      | none => [0x09]
      | some e => [0x00] ++ halfBytes e.unit ++ [natByte set.val, natByte way.val, kindByte e.kind,
          natByte e.agency.toNat, natByte e.role.toNat, overrideByte e.override, switchByte e.emergency,
          (e.lastPort.map fun p => natByte p.val).getD 0xFF]
    (∀ form x y : Byte, 1 < form.toNat → exec (.unitRead form x y) s = .next (s.answered 0x0F [0x03]))
    ∧ (∀ x y : Byte, (x ++ y : Half) = 0 ∨ (x ++ y : Half) = 0xFFFF →
      exec (.unitRead 0 x y) s = .next (s.answered 0x0F [0x03]))
    ∧ (∀ x y : Byte, (x ++ y : Half) ≠ 0 → (x ++ y : Half) ≠ 0xFFFF →
      (s.dir.find (x ++ y) = none → exec (.unitRead 0 x y) s = .next (s.answered 0x0F [0x09]))
      ∧ ∀ w : Fin 4, s.dir.find (x ++ y) = some w →
        exec (.unitRead 0 x y) s = .next (s.answered 0x0F (reply (hashSet (x ++ y)) w)))
    ∧ (∀ x y : Byte, 15 < x.toNat ∨ 3 < y.toNat →
      exec (.unitRead 1 x y) s = .next (s.answered 0x0F [0x03]))
    ∧ (∀ (set : Fin 16) (way : Fin 4), exec (.unitRead 1 (natByte set.val) (natByte way.val)) s
        = .next (s.answered 0x0F (reply set way)))

/-- PURGE_LEARNED (R46): exactly the LEARNED entries with a clear flag go, the reply counts them, and no port's
effective priority changes. -/
def Obligations.PurgeRemovesLearnedEntries : Prop :=
  ∀ s : State, s.linkReady → ∃ (t : State) (d : Directory) (n : Nat),
    exec .purgeLearned s = .next t
    ∧ t = ({ s with dir := d } : State).answered 0x10 [0x00, natByte n]
    ∧ d.count = s.dir.count
    ∧ (∀ (set : Fin 16) (way : Fin 4), d.at set way = (s.dir.at set way).filter fun e =>
        !(e.kind == .learned && !e.emergency))
    ∧ n = (allSets.flatMap fun set => allWays.filter fun way =>
        (s.dir.at set way).isSome && (d.at set way).isNone).length
    ∧ n ≤ 64
    ∧ (s.directoryRule → ∀ p : PortId, t.effPriority p = s.effPriority p)

/-- A place written holds what was written and every other stays (R33); an entry is what stands at the way found, and a
change of it stays in its way (R35, R38). Lookup and room in a set (R35, R36, R39, R40, R41): the hash, the entry found, the lowest free way, and the oldest
replaceable entry with ties to the lowest way; no room exactly where every way holds an entry that is REGISTERED or has
its emergency flag set. -/
def Obligations.DirectoryLooksUpAndMakesRoom : Prop :=
  (∀ (d : Directory) (set : Fin 16) (way : Fin 4) (e : Option Entry), (d.put set way e).count = d.count
    ∧ ∀ (i : Fin 16) (w : Fin 4), (d.put set way e).at i w = if i = set ∧ w = way then e else d.at i w)
  ∧ (∀ (d : Directory) (u : UnitId) (change : Entry → Entry),
    (d.find u = none → d.entry u = none ∧ d.modify u change = d)
    ∧ ∀ w : Fin 4, d.find u = some w → d.entry u = d.at (hashSet u) w
      ∧ d.modify u change = d.put (hashSet u) w ((d.at (hashSet u) w).map change))
  ∧ ∀ s : State,
    (∀ (u : UnitId) (i : Nat), i < 4 → (hashSet u).val.testBit i = (u.getLsbD i ^^ u.getLsbD (8 + i)))
    ∧ (s.directoryRule → ∀ u : UnitId,
      (∀ w : Fin 4, s.dir.find u = some w ↔ ∃ e : Entry, s.dir.at (hashSet u) w = some e ∧ e.unit = u)
      ∧ (s.dir.find u = none →
        ∀ (set : Fin 16) (way : Fin 4) (e : Entry), s.dir.at set way = some e → e.unit ≠ u))
    ∧ (∀ set : Fin 16, s.dir.room set = none ↔ ∀ v : Fin 4, ∃ e : Entry, s.dir.at set v = some e
      ∧ (e.kind = .registered ∨ e.emergency = true))
    ∧ ∀ (set : Fin 16) (w : Fin 4), s.dir.room set = some w →
      (s.dir.at set w = none ∧ ∀ v : Fin 4, v < w → s.dir.at set v ≠ none)
      ∨ (∀ v : Fin 4, s.dir.at set v ≠ none)
        ∧ ∃ e : Entry, s.dir.at set w = some e ∧ e.kind = .learned ∧ e.emergency = false
          ∧ ∀ (v : Fin 4) (x : Entry), s.dir.at set v = some x → x.kind = .learned → x.emergency = false →
            (s.dir.count - x.stamp).toNat < (s.dir.count - e.stamp).toNat
            ∨ (s.dir.count - x.stamp).toNat = (s.dir.count - e.stamp).toNat ∧ w ≤ v

/-! ## The bridge arbiter -/

/-- The table of effective priority, which no radio port takes to 5 (R75); the override priority is what the directory
answers for a unit, and none for one without an entry (R38). -/
def Obligations.EffectivePriorityFollowsTheTable : Prop :=
  ∀ s : State, s.talkerPriority .con = 5
    ∧ (∀ u : UnitId, s.overrideFor (some u) = (s.dir.entry u).bind (·.override))
    ∧ ∀ p : PortId,
      s.talkerPriority (.port p) = s.effPriority p
      ∧ (∀ source : Option UnitId, (s.port p).emergency = .active source → s.effPriority p = 4)
      ∧ ((s.port p).emergency = .none →
        (∀ (u : UnitId) (e : Entry) (o : Nat), (s.port p).unit = some u → s.dir.entry u = some e →
          e.override = some o → s.effPriority p = max (s.port p).setup.priority o)
        ∧ ((∀ (u : UnitId) (e : Entry), (s.port p).unit = some u → s.dir.entry u = some e → e.override = none) →
          s.effPriority p = (s.port p).setup.priority))
      ∧ (s.settingsInRange → s.effPriority p ≤ 4)

/-- The order of a bid queue (R74): effective priority, highest first, and within it the older stamp first. An entry
inserted into an ordered queue stands in its place, and the others keep their order. -/
def Obligations.QueueInsertionKeepsTheOrder : Prop :=
  ∀ (s : State) (e : QueueEntry) (q : List QueueEntry),
    let before (x y : QueueEntry) : Prop := s.effPriority y.port < s.effPriority x.port
      ∨ s.effPriority x.port = s.effPriority y.port
        ∧ (s.bidCounter - y.stamp).toNat ≤ (s.bidCounter - x.stamp).toNat
    (s.insertEntry e q).Perm (e :: q) ∧ q.Sublist (s.insertEntry e q)
    ∧ (q.Pairwise before → (s.insertEntry e q).Pairwise before)
    ∧ (s.sortQueue q).Perm q ∧ (s.sortQueue q).Pairwise before

/-- A bid (R78 to R82): it takes the next stamp; a free path is granted, a holder that is outranked is preempted and
pushed with its timer and stamp, the console preempts whatever holds; any other bid is queued. A full stack gives up its
bottom entry to the queue and sets STACK_OVERFLOW (R81). A bid of one that is not the
holder changes the bridge's holder or its queue, so that its notice becomes pending where its switch is on (R92, R174); no
other flag is set and no other notice made pending. -/
def Obligations.BidIsGrantedPreemptsOrQueues : Prop :=
  ∀ (s u t : State) (b : BridgeId) (who : Talker) (own : List StackEntry) (timer : Option Nat) (new : Holder),
    t = s.bid b who → u = { s with bidCounter := s.bidCounter + 1 } →
    own = (s.bridge b).stack.filter (fun e => !(who == .port e.port && e.tag == .empty)) →
    (who = .con → timer = none) →
    (who ≠ .con → timer = if (s.record b).talkLimit = 0 then none else some ((s.record b).talkLimit * 250)) →
    new = ⟨who, s.talkerPriority who, s.bidCounter + 1, timer⟩ →
    t.bidCounter = s.bidCounter + 1 ∧ t.ports = s.ports ∧ (∀ c : BridgeId, c ≠ b → t.bridge c = s.bridge c)
    ∧ t.backdrop = s.backdrop
    ∧ t = { u with bridges := t.bridges, notices := { s.notices with
        flags := t.notices.flags, marks := t.notices.marks } }
    ∧ ((∀ h : Holder, (s.bridge b).holder = some h → h.who ≠ who) → (s.bridge b).sameReported (t.bridge b) = false)
    ∧ (∀ spills : Bool,
      (spills = true ↔ 4 ≤ own.length ∧ ∃ h : Holder, (s.bridge b).holder = some h
        ∧ (who = .con ∨ (s.record b).preempt = true ∧ h.priority < s.talkerPriority who)) →
      ∀ src : Source,
        (∀ i : Nat, t.notices.flags[src].getLsbD i = (s.notices.flags[src].getLsbD i
          || decide (src = srcBridge b ∧ i = flagStackOverflow ∧ spills = true)))
        ∧ t.notices.marks[src] = (s.notices.marks[src] || decide (src = srcBridge b
          ∧ (s.notices.switches[src] = true ∧ (s.bridge b).sameReported (t.bridge b) = false ∨ spills = true
            ∧ s.notices.flags[src].getLsbD flagStackOverflow = false
            ∧ s.notices.masks[src].getLsbD flagStackOverflow = false))))
    ∧ ((s.bridge b).holder = none → t.bridge b = { s.bridge b with holder := some new, stack := own })
    ∧ ∀ h : Holder, (s.bridge b).holder = some h →
      (∀ p : PortId, who = .port p → (s.record b).preempt = false ∨ s.effPriority p ≤ h.priority →
        t.bridge b = { s.bridge b with
          stack := own, queue := u.insertEntry ⟨p, s.bidCounter + 1⟩ (s.bridge b).queue })
      ∧ (who = .con ∨ (s.record b).preempt = true ∧ h.priority < s.talkerPriority who →
        ∀ pushed : List StackEntry, (∀ p : PortId, h.who = .port p → pushed = [⟨p, .valid, h.timer, h.stamp⟩]) →
          (h.who = .con → pushed = []) →
          (own.length < 4 → t.bridge b = { s.bridge b with holder := some new, stack := pushed ++ own })
          ∧ ∀ (rest : List StackEntry) (bottom : StackEntry), own = rest ++ [bottom] → 4 ≤ own.length →
            t.notices.flags[srcBridge b].getLsbD flagStackOverflow = true
            ∧ (bottom.tag = .empty → t.bridge b = { s.bridge b with holder := some new, stack := pushed ++ rest })
            ∧ (bottom.tag = .valid → t.bridge b = { s.bridge b with
                holder := some new, stack := pushed ++ rest
                queue := u.insertEntry ⟨bottom.port, bottom.stamp⟩ (s.bridge b).queue }))

/-- A release (R85): EMPTY entries leave the stack top; of the stack top and the queue head the higher effective
priority becomes holder, the stack top on a tie; a stack top resumes with its saved time, a queue head is granted
afresh; with no candidate there is no holder. -/
def Obligations.ReleaseGivesThePathToTheBestWaiting : Prop :=
  ∀ (s t : State) (b : BridgeId) (waiting : List StackEntry), t = s.release b →
    waiting = (s.bridge b).stack.dropWhile (fun e => decide (e.tag = .empty)) →
    t = s.bridgeReported false b (t.bridge b)
    ∧ (waiting = [] → (s.bridge b).queue = [] →
      t.bridge b = { s.bridge b with holder := none, stack := [], queue := [] })
    ∧ (∀ (e : StackEntry) (below : List StackEntry), waiting = e :: below →
      (∀ x : QueueEntry, (s.bridge b).queue.head? = some x → s.effPriority x.port ≤ s.effPriority e.port) →
      t.bridge b = { s.bridge b with
        holder := some ⟨.port e.port, s.effPriority e.port, e.stamp, e.saved⟩, stack := below })
    ∧ (∀ (x : QueueEntry) (behind : List QueueEntry), (s.bridge b).queue = x :: behind →
      (∀ e : StackEntry, waiting.head? = some e → s.effPriority e.port < s.effPriority x.port) →
      t.bridge b = { s.bridge b with
        holder := some ⟨.port x.port, s.effPriority x.port, x.stamp,
          if (s.record b).talkLimit = 0 then none else some ((s.record b).talkLimit * 250)⟩
        stack := waiting, queue := behind })

/-- A port's new effective priority at its arbiter, by its place (R77). A queued port's entry is put back in order by
the order of the whole queue (the model's reading: log entry 20); one that outranks the holder preempts, from a full
stack with its spill and STACK_OVERFLOW (R81). The bridge's notice becomes pending where its switch is on and its
holder, stack or queue has changed (R92, R174); that an entry put back at its own place is no change is the model's
choice (log entry 28). -/
def Obligations.PriorityChangeActsByPlace : Prop :=
  ∀ (s t : State) (b : BridgeId) (p : PortId), t = s.takePriority b p →
    t.ports = s.ports ∧ t.bidCounter = s.bidCounter ∧ (∀ c : BridgeId, c ≠ b → t.bridge c = s.bridge c)
    ∧ t.backdrop = s.backdrop
    ∧ t = { s with bridges := t.bridges, notices := { s.notices with
        flags := t.notices.flags, marks := t.notices.marks } }
    ∧ (∀ spills : Bool,
      (spills = true ↔ 4 ≤ (s.bridge b).stack.length ∧ (s.record b).preempt = true
        ∧ (∃ e ∈ (s.bridge b).queue, e.port = p)
        ∧ ∃ h : Holder, (s.bridge b).holder = some h ∧ h.who ≠ .port p ∧ h.priority < s.effPriority p) →
      ∀ src : Source,
        (∀ i : Nat, t.notices.flags[src].getLsbD i = (s.notices.flags[src].getLsbD i
          || decide (src = srcBridge b ∧ i = flagStackOverflow ∧ spills = true)))
        ∧ t.notices.marks[src] = (s.notices.marks[src] || decide (src = srcBridge b
          ∧ (s.notices.switches[src] = true ∧ (s.bridge b).sameReported (t.bridge b) = false ∨ spills = true
            ∧ s.notices.flags[src].getLsbD flagStackOverflow = false
            ∧ s.notices.masks[src].getLsbD flagStackOverflow = false))))
    ∧ (∀ h : Holder, (s.bridge b).holder = some h → h.who = .port p →
      t.bridge b = { s.bridge b with holder := some { h with priority := s.effPriority p } })
    ∧ ((∀ e ∈ (s.bridge b).queue, e.port ≠ p) → (∀ h : Holder, (s.bridge b).holder = some h → h.who ≠ .port p) →
      t = s)
    ∧ ∀ (h : Holder) (e : QueueEntry), (s.bridge b).holder = some h → h.who ≠ .port p →
      (s.bridge b).queue.find? (·.port == p) = some e →
      ((s.record b).preempt = false ∨ s.effPriority p ≤ h.priority →
        t.bridge b = { s.bridge b with queue := s.sortQueue (s.bridge b).queue })
      ∧ ((s.record b).preempt = true → h.priority < s.effPriority p →
        (∃ timer : Option Nat, (t.bridge b).holder = some ⟨.port p, s.effPriority p, e.stamp, timer⟩
          ∧ timer = if (s.record b).talkLimit = 0 then none else some ((s.record b).talkLimit * 250))
        ∧ ((s.bridge b).stack.length < 4 →
          (t.bridge b).queue = (s.sortQueue (s.bridge b).queue).filter (fun x => !(x.port == p))
          ∧ (∀ q : PortId, h.who = .port q →
            (t.bridge b).stack = ⟨q, .valid, h.timer, h.stamp⟩ :: (s.bridge b).stack))
        ∧ ∀ (rest : List StackEntry) (bottom : StackEntry) (others : List QueueEntry),
          (s.bridge b).stack = rest ++ [bottom] → 4 ≤ (s.bridge b).stack.length →
          others = (s.sortQueue (s.bridge b).queue).filter (fun x => !(x.port == p)) →
          t.notices.flags[srcBridge b].getLsbD flagStackOverflow = true
          ∧ (∀ q : PortId, h.who = .port q → (t.bridge b).stack = ⟨q, .valid, h.timer, h.stamp⟩ :: rest)
          ∧ (bottom.tag = .empty → (t.bridge b).queue = others)
          ∧ (bottom.tag = .valid →
            (t.bridge b).queue = s.insertEntry ⟨bottom.port, bottom.stamp⟩ others))

/-- The expiry of a talk timer (R88): the engaged holder is barred, the bridge releases without it, TALK_TIMEOUT is set;
then what the release brings is handed on. -/
def Obligations.TalkTimerExpiryCutsTheHolder : Prop :=
  ∀ (s v : State) (b : BridgeId) (p : PortId) (h : Holder) (n : Nat), s.inReset = false → Due.talk b ∈ s.due →
    (s.bridge b).holder = some h → h.who = .port p → h.timer = some n → n ≤ 1 →
    v = { s with due := s.due.erase (.talk b) } →
    ∃ (t u : State), exec (.talkTimerExpiry b) s = .next t ∧ t = u.handOn
      ∧ u.notices.flags[srcBridge b].getLsbD flagTalkTimeout = true
      ∧ u.port p = (if (s.port p).engaged then { s.port p with bar := true } else s.port p)
      ∧ (∀ r : PortId, r ≠ p → u.port r = s.port r)
      ∧ u.bridge b = (v.release b).bridge b ∧ (∀ c : BridgeId, c ≠ b → u.bridge c = s.bridge c)
      ∧ u.bidCounter = s.bidCounter ∧ t.backdrop = v.backdrop
      ∧ (∀ w : State, w = (if (s.port p).engaged then v.portReported p { s.port p with bar := true } else v) →
        u = (w.release b).raise (srcBridge b) flagTalkTimeout)
      ∧ (s.namedOnce → (u.bridge b).hasPlace p = false)
      ∧ (u.quiet → t = u)

/-! ## Engagement and the key machines -/

/-- The qualified receive condition follows the qualify mode (R14): carrier in CS, VOX in VOX, both in BOTH. Engagement
begins and ends with its three conditions (R16, R17, R18): at its beginning a pending identity is taken
up and an unbarred port's bid is on its way; at its end the port leaves its place, its bar and its unit, and its notice,
and that of its bridge if its holder, stack or queue has changed, become pending where their switches are on (R20, R92).
What an event hands on: a bid on its way reaches its arbiter before any key machine acts, a bid that a key machine hands
on before the next one acts (R17, R78, R111), and no bid is left over. The key machines act in port order, round by
round (the model's choice, as is the bound of 64 rounds: log entry 7). -/
def Obligations.EngagementBeginsAndEnds : Prop :=
  (∀ q : Port, (q.setup.qualify = .cs → q.qualified = q.carrier)
    ∧ (q.setup.qualify = .vox → q.qualified = q.vox)
    ∧ (q.setup.qualify = .both → q.qualified = (q.carrier && q.vox)))
  ∧ (allPorts.Pairwise (· < ·) ∧ ∀ p : PortId, p ∈ allPorts)
  ∧ (∀ s : State, s.handOn.bids = [] ∧ s.handOn.backdrop = s.backdrop ∧ (s.quiet → s.handOn = s))
  ∧ (∀ (s u : State) (p : PortId) (b : BridgeId), s.bids = [p] → (s.port p).engaged = true →
    (s.port p).bar = false → s.memberOf p = some b → (s.bridge b).hasPlace p = false →
    u = ({ s with bids := [] } : State).bid b (.port p) → s.handOn = u.handOn ∧ (u.quiet → s.handOn = u))
  ∧ (∀ (s u : State) (p : PortId), s.bids = [] → u = s.judgeKey p →
    (u.bids = [] → s.actKey p = u)
    ∧ (u.bids ≠ [] → u.bids = [p] ∧ (u.port p).engaged = true ∧ (u.port p).bar = false
      ∧ (u.memberOf p = none → s.actKey p = { u with bids := [] })
      ∧ ∀ b : BridgeId, u.memberOf p = some b → (u.bridge b).hasPlace p = false →
        s.actKey p = ({ u with bids := [] } : State).bid b (.port p)))
  ∧ (∀ (s : State) (k : Nat) (round : State → State), s.bids = [] → k ≤ 64 →
    (∀ x : State, round x = allPorts.foldl State.actKey x) → (round^[k] s).quiet → s.handOn = round^[k] s)
  ∧ ∀ (s t : State) (p : PortId), t = s.judgeEngagement false p →
    ((s.port p).mayEngage = true ↔ (s.port p).lifecycle = .active ∧ (s.port p).qualified = true
      ∧ (s.port p).key ≠ .keyed ∧ (s.port p).key ≠ .drain ∧ (s.port p).key ≠ .hang ∧ (s.port p).key ≠ .blank
      ∧ ((s.port p).key = .cool → (s.port p).setup.blank ≤ (s.port p).timing))
    ∧ ((s.port p).engaged = (s.port p).mayEngage → t = s)
    ∧ ((s.port p).engaged = false → (s.port p).mayEngage = true → ∃ q : Port,
      q = { s.port p with
        engaged := true, pendingId := none
        unit := ((s.port p).pendingId.map (·.unit)).or (s.port p).unit }
      ∧ t = { s.portReported p q with bids := if (s.port p).bar then s.bids else s.bids ++ [p] })
    ∧ ((s.port p).engaged = true → (s.port p).mayEngage = false →
      t.port p = { s.port p with engaged := false, bar := false, unit := none }
      ∧ (∀ r : PortId, r ≠ p → t.port r = s.port r) ∧ t.bids = s.bids ∧ t.bidCounter = s.bidCounter
      ∧ t.backdrop = s.backdrop
      ∧ t = { s with
          ports := t.ports, bridges := t.bridges, notices := { s.notices with marks := t.notices.marks } }
      ∧ (∀ src : Source, t.notices.marks[src] = (s.notices.marks[src] || (s.notices.switches[src]
        && (decide (src = srcPort p) || allBridges.any fun b => decide (src = srcBridge b ∧ s.memberOf p = some b)
          && !(s.bridge b).sameReported (t.bridge b)))))
      ∧ (∀ b : BridgeId, s.memberOf p ≠ some b → t.bridge b = s.bridge b)
      ∧ ∀ b : BridgeId, s.memberOf p = some b →
        ((s.bridge b).holder.any (·.who == .port p) = true → t.bridge b = (s.release b).bridge b)
        ∧ ((s.bridge b).holder.any (·.who == .port p) = false → t.bridge b = { s.bridge b with
            stack := (s.bridge b).stack.map fun e => if e.port = p then { e with tag := .empty } else e
            queue := (s.bridge b).queue.filter fun e => !(e.port == p) }))

/-- The bridge of which a port is a member, and that of which it is a destination, by the records of a plan that keeps
the membership rule (R50, R51, R71); key demand (R100) and the override key (R101). -/
def Obligations.DemandAndOverrideKey : Prop :=
  ∀ (s : State) (p : PortId), s.planRule →
    (∀ b : BridgeId, s.record b = s.plans.records[s.plans.active][b]
      ∧ (s.memberOf p = some b ↔ (s.record b).members.getLsbD p = true)
      ∧ (s.destinationOf p = some b ↔ (s.record b).destinations.getLsbD p = true)
      ∧ ∀ n : Fin 2, destinationIn s.plans.records[n] p = some b
        ↔ s.plans.records[n][b].destinations.getLsbD p = true)
    ∧ s.activeRecords = s.plans.records[s.plans.active]
    ∧ (s.demand p = true ↔ ∃ b : BridgeId, (s.record b).destinations.getLsbD p = true
      ∧ ((∃ h : Holder, (s.bridge b).holder = some h ∧ h.who ≠ .port p) ∨ (s.bridge b).burst ≠ 0))
    ∧ (s.overrideKey p = true ↔ ∃ b : BridgeId, (s.record b).destinations.getLsbD p = true
      ∧ (s.record b).override = true
      ∧ ∃ h : Holder, (s.bridge b).holder = some h ∧ h.who ≠ .port p ∧ 4 ≤ h.priority)
    ∧ (s.overrideKey p = true → s.demand p = true)

/-- The key line of an ACTIVE or LOST port is at the asserted level of its key polarity exactly in KEYED, DRAIN and
HANG, and at the other in IDLE, DEFERRED, BLANK and COOL (R97). How a key machine of an ACTIVE port acts on demand and engagement (R102 to R107, R109); one of an OFF or LOST port
is held (R96), and one in COOL waits for its counts (R108). -/
def Obligations.KeyMachineTransitions : Prop :=
  (∀ (s : State) (p : PortId), (s.port p).lifecycle ≠ .off →
    let up : Prop := (s.port p).key = .keyed ∨ (s.port p).key = .drain ∨ (s.port p).key = .hang
    let down : Prop := (s.port p).key = .idle ∨ (s.port p).key = .deferred ∨ (s.port p).key = .blank
      ∨ (s.port p).key = .cool
    ((s.port p).key.asserted = true ↔ up)
    ∧ ((s.port p).setup.keyPolarity = .high → (s.keyLine p = true ↔ up) ∧ (s.keyLine p = false ↔ down))
    ∧ ((s.port p).setup.keyPolarity = .low → (s.keyLine p = false ↔ up) ∧ (s.keyLine p = true ↔ down)))
  ∧ ∀ (s t : State) (p : PortId), t = s.judgeKey p →
    ((s.port p).lifecycle ≠ .active → t = s)
    ∧ ((s.port p).lifecycle = .active →
      (s.keyAtRest p → t = s)
      ∧ ((s.port p).key = .idle → s.demand p = true → (s.port p).engaged = true → s.overrideKey p = false →
        t = s.portReported p { s.port p with key := .deferred, timing := 0, keyUp := 0 })
      ∧ ((s.port p).key = .deferred → s.demand p = false →
        t = s.portReported p { s.port p with key := .idle, timing := 0, keyUp := 0 })
      ∧ ((s.port p).key = .idle ∨ (s.port p).key = .deferred ∨ (s.port p).key = .blank → s.demand p = true →
        (s.port p).engaged = false →
        t = s.portReported p { s.port p with key := .keyed, timing := 0, keyUp := 0 })
      ∧ ((s.port p).key = .idle ∨ (s.port p).key = .deferred → s.demand p = true →
        (s.port p).engaged = true → s.overrideKey p = true →
        t.port p = { s.port p with
            key := .keyed, timing := 0, keyUp := 0, engaged := false, bar := false, unit := none }
        ∧ t.backdrop = s.backdrop ∧ t.bids = s.bids
        ∧ t = (s.portReported p { s.port p with key := .keyed, timing := 0, keyUp := 0 }).judgeEngagement false p)
      ∧ ((s.port p).key = .keyed → s.demand p = false →
        ((s.port p).setup.lead ≠ 0 → t = s.portReported p { s.port p with key := .drain, timing := 0 })
        ∧ ((s.port p).setup.lead = 0 → (s.port p).setup.hang ≠ 0 →
          t = s.portReported p { s.port p with key := .hang, timing := 0 })
        ∧ ((s.port p).setup.lead = 0 → (s.port p).setup.hang = 0 → (s.port p).setup.blank ≠ 0 →
          t = s.portReported p { s.port p with key := .blank, timing := 0, keyUp := 0 })
        ∧ ((s.port p).setup.lead = 0 → (s.port p).setup.hang = 0 → (s.port p).setup.blank = 0 →
          t = (s.portReported p { s.port p with key := .idle, timing := 0, keyUp := 0 }).judgeEngagement false p))
      ∧ ((s.port p).key = .drain ∨ (s.port p).key = .hang → s.demand p = true →
        t = s.portReported p { s.port p with key := .keyed, timing := 0 }))

/-- The counts that run out in a key machine (R105 to R110, R118, R119), each as its event is taken: the machine moves,
a port whose blanking ends may engage, and what comes of it is handed on. -/
def Obligations.KeyCountsRunOut : Prop :=
  ∀ (s v : State) (p : PortId) (up : Nat), s.inReset = false → Due.key p ∈ s.due →
    v = { s with due := s.due.erase (.key p) } →
    up = (if (s.port p).setup.keyLimit = 0 then (s.port p).keyUp else (s.port p).keyUp + 1) →
    let limited : Prop := (s.port p).setup.keyLimit ≠ 0 ∧ (s.port p).setup.keyLimit * 250 ≤ up
    let blanked : State := v.portReported p { s.port p with key := .blank, timing := 0, keyUp := 0 }
    let idle : State := v.portReported p { s.port p with key := .idle, timing := 0, keyUp := 0 }
    ((s.port p).key = .drain → (s.port p).setup.lead ≤ (s.port p).timing + 1 → ¬ limited →
      ((s.port p).setup.hang ≠ 0 → exec (.drainEnd p) s
        = .next (v.portReported p { s.port p with key := .hang, timing := 0, keyUp := up }).handOn)
      ∧ ((s.port p).setup.hang = 0 → (s.port p).setup.blank ≠ 0 → exec (.drainEnd p) s = .next blanked.handOn)
      ∧ ((s.port p).setup.hang = 0 → (s.port p).setup.blank = 0 →
        exec (.drainEnd p) s = .next (idle.judgeEngagement false p).handOn))
    ∧ ((s.port p).key = .hang → (s.port p).setup.hang ≤ (s.port p).timing + 1 → ¬ limited →
      ((s.port p).setup.blank ≠ 0 → exec (.hangEnd p) s = .next blanked.handOn)
      ∧ ((s.port p).setup.blank = 0 → exec (.hangEnd p) s = .next (idle.judgeEngagement false p).handOn))
    ∧ ((s.port p).key = .blank → (s.port p).setup.blank ≤ (s.port p).timing + 1 →
      exec (.blankEnd p) s = .next (idle.judgeEngagement false p).handOn)
    ∧ ((s.port p).key = .keyed ∨ (s.port p).key = .drain ∨ (s.port p).key = .hang → limited →
      ∃ u : State, u = (v.portReported p { s.port p with key := .cool, timing := 0, keyUp := 0 }).raise
          (srcPort p) flagKeyLimit
        ∧ exec (.keyLimit p) s = .next (u.judgeEngagement false p).handOn
        ∧ u.notices.flags[srcPort p].getLsbD flagKeyLimit = true
        ∧ ((s.port p).lifecycle ≠ .off → u.keyLine p = !(s.keyLine p)))
    ∧ ((s.port p).key = .cool → (s.port p).setup.blank = (s.port p).timing + 1 →
      (s.port p).timing + 1 < (s.port p).setup.cooldown * 250 → ∃ u : State,
        u = { v with ports := v.ports.set p { s.port p with timing := (s.port p).timing + 1 } }
        ∧ exec (.coolBlankEnd p) s = .next (u.judgeEngagement false p).handOn)
    ∧ ((s.port p).key = .cool → (s.port p).setup.cooldown * 250 ≤ (s.port p).timing + 1 →
      exec (.cooldownEnd p) s = .next (idle.judgeEngagement false p).handOn)

/-- A carrier level or VOX change that has come due is taken with one change of engagement, or none; where both counts
have run out, either command takes both new values (R12, R13, R14). -/
def Obligations.CarrierAndVoxChangesAreTaken : Prop :=
  ∀ (s v : State) (p : PortId), s.inReset = false → Due.qualify p ∈ s.due →
    v = { s with due := s.due.erase (.qualify p) } →
    ((s.port p).setup.csDebounce + 1 ≤ (s.port p).carrierCount → ∃ (u : State) (q : Port),
      u = { v with ports := v.ports.set p q }
      ∧ exec (.carrierTaken p) s = .next (u.judgeEngagement false p).handOn
      ∧ q.carrier = (!(s.port p).carrier) ∧ q.carrierCount = 0
      ∧ ((s.port p).quietCount < (s.port p).setup.voxHold + 1 →
        ((s.port p).lifecycle = .active → (s.port p).setup.voxThreshold ≤ (s.port p).voxLevel → q.vox = true)
        ∧ ((s.port p).voxLevel < (s.port p).setup.voxThreshold → q.vox = (s.port p).vox))
      ∧ ((s.port p).setup.voxHold + 1 ≤ (s.port p).quietCount → q.vox = false ∧ q.quietCount = 0)
      ∧ { q with carrier := false, carrierCount := 0, vox := false, quietCount := 0 }
        = { s.port p with carrier := false, carrierCount := 0, vox := false, quietCount := 0 })
    ∧ ((s.port p).setup.voxHold + 1 ≤ (s.port p).quietCount → ∃ (u : State) (q : Port),
      u = { v with ports := v.ports.set p q }
      ∧ exec (.voxHoldExpiry p) s = .next (u.judgeEngagement false p).handOn
      ∧ q.vox = false ∧ q.quietCount = 0
      ∧ ((s.port p).carrierCount < (s.port p).setup.csDebounce + 1 →
        q.carrier = (s.port p).carrier ∧ q.carrierCount = (s.port p).carrierCount)
      ∧ ((s.port p).setup.csDebounce + 1 ≤ (s.port p).carrierCount →
        q.carrier = (!(s.port p).carrier) ∧ q.carrierCount = 0)
      ∧ { q with carrier := false, carrierCount := 0, vox := false, quietCount := 0 }
        = { s.port p with carrier := false, carrierCount := 0, vox := false, quietCount := 0 })

/-! ## The mixer -/

/-- The rounding of R132 in each mode, by the integers it lies between, and the saturation of R133. -/
def Obligations.RoundingAndSaturation : Prop :=
  (∀ v : Int,
    (2 * (1024 * roundDiv .nearestEven v - v)).natAbs ≤ 1024
    ∧ ((2 * (1024 * roundDiv .nearestEven v - v)).natAbs = 1024 → roundDiv .nearestEven v % 2 = 0)
    ∧ 1024 * roundDiv .floor v ≤ v ∧ v < 1024 * (roundDiv .floor v + 1)
    ∧ (0 ≤ v → 0 ≤ roundDiv .towardZero v ∧ 1024 * roundDiv .towardZero v ≤ v
        ∧ v < 1024 * (roundDiv .towardZero v + 1))
    ∧ (v ≤ 0 → roundDiv .towardZero v ≤ 0 ∧ v ≤ 1024 * roundDiv .towardZero v
        ∧ 1024 * (roundDiv .towardZero v - 1) < v)
    ∧ ∀ (mode : Rounding) (q : Int), v = 1024 * q → roundDiv mode v = q)
  ∧ ∀ v : Int,
    inSampleRange (saturate v) = true
    ∧ (v < -32768 → saturate v = -32768 ∧ clips v = true)
    ∧ (32767 < v → saturate v = 32767 ∧ clips v = true)
    ∧ (-32768 ≤ v → v ≤ 32767 → saturate v = v ∧ clips v = false)

/-- A frame start latches the settings of the frame (R126); with a frame in progress or the mixer HALTED none comes
about (log entry 8). -/
def Obligations.FrameStartLatchesTheSettings : Prop :=
  ∀ s : State, s.calm →
    (s.mixer.mode = .halted ∨ s.mixer.frame ≠ none → exec .frameStart s = .next s)
    ∧ (s.mixer.mode = .run → s.mixer.frame = none → s.plans.switchPending = false → ∃ g : Latched,
      exec .frameStart s = .next { s with mixer := { s.mixer with frame := some ⟨0, g⟩ } }
      ∧ g.rounding = s.mixer.rounding ∧ g.amplitude = s.mixer.amplitude ∧ g.p1 = s.mixer.p1
      ∧ g.p2 = s.mixer.p2 ∧ g.conGain = s.mixer.conGain
      ∧ (∀ p : PortId, g.rxGain[p] = (s.port p).setup.rxGain ∧ g.txGain[p] = (s.port p).setup.txGain)
      ∧ (∀ b : BridgeId, g.duck[b] = (s.record b).duck ∧ g.duckGain[b] = (s.record b).duckGain
          ∧ g.alertOnly[b] = (s.record b).alertOnly ∧ g.alertGain[b] = (s.record b).alertGain
          ∧ g.monitorGains[b] = s.console.monitorGains[b])
      ∧ g.monitorMask = s.console.monitorMask)

/-- One sample period: conditioning (R134), talk signals into the rings (R136, R137), destination outputs at their taps
with the alert tone (R138, R139), the console monitor (R140), the clip flags (R133) with the notices that they make
pending (R174) and no other flag, the VOX sums (R135) and the half-period counts (R141); SBOUT carries the frame before
(R125). Nothing else changes. Outside a frame the command does nothing, a keyed port
that is the destination of no bridge sends 0, and the lifecycle is read at each sample: log entries 8, 19 and 25. -/
def Obligations.MixSampleFormsEveryOutput : Prop :=
  (frameLength .khz8 = 32 ∧ frameLength .khz16 = 64 ∧ ∀ slot : Fin 13, silence[slot] = 0)
  ∧ ∀ (s : State) (slots : Vector Half 13), s.calm →
    (s.mixer.mode = .halted ∨ s.mixer.frame = none → exec (.mixSample slots) s = .next s)
    ∧ ∀ f : Frame, s.mixer.mode = .run → s.mixer.frame = some f → f.place < frameLength s.mixer.rate →
      s.ringsSound →
      let g := f.settings
      let heard (p : PortId) : Int :=
        if (s.port p).lifecycle = .active then
          roundDiv g.rounding ((slots[p.val]'(by omega)).toInt * (g.rxGain[p] : Int)) else 0
      let console : Int := roundDiv g.rounding (slots[12].toInt * (g.conGain : Int))
      let voice : Talker → Int
        | .port p => saturate (heard p)
        | .con => saturate console
      let talk (b : BridgeId) : Int :=
        (((s.bridge b).holder.map fun h => voice h.who).getD 0)
        + (((s.bridge b).stack.head?.map fun e =>
            if g.duck[b] = true ∧ e.tag = .valid then
              roundDiv g.rounding (voice (.port e.port) * (g.duckGain[b] : Int)) else 0).getD 0)
      let tone (b : BridgeId) : Int :=
        if (s.bridge b).burst = 0 then 0
        else if (s.bridge b).phase.positive then (g.amplitude : Int) else -(g.amplitude : Int)
      let tap (b : BridgeId) (p : PortId) : Int :=
        if (s.bridge b).burst ≠ 0 ∧ g.alertOnly[b].getLsbD p = true then 0
        else if (s.port p).setup.lead % 128 = 0 then saturate (talk b)
        else DelayRing.read (s.bridge b).ring
          (((s.bridge b).writePos.val + 128 - (s.port p).setup.lead % 128) % 128 * 64 + f.place)
      let output (p : PortId) : Int :=
        if (s.port p).lifecycle = .active ∧ (s.port p).key.asserted = true then
          ((s.destinationOf p).map fun b => roundDiv g.rounding
            (tap b p * (g.txGain[p] : Int) + tone b * (g.alertGain[b] : Int))).getD 0
        else 0
      let monitor : Int := roundDiv g.rounding ((allBridges.map fun b : BridgeId =>
        if g.monitorMask.getLsbD b = true then saturate (talk b) * (g.monitorGains[b] : Int) else 0).sum)
      ∃ (t : State) (sample : Vector Sample 13), exec (.mixSample slots) s = .next t
        ∧ (∀ (b : BridgeId) (a : Nat), DelayRing.read (t.bridge b).ring a =
            if a = (s.bridge b).writePos.val * 64 + f.place then saturate (talk b)
            else DelayRing.read (s.bridge b).ring a)
        ∧ (∀ p : PortId, sample[p.val]'(by omega) = saturate (output p)) ∧ sample[12] = saturate monitor
        ∧ t.mixer = { s.mixer with
            frame := some { f with place := f.place + 1 }
            forming := s.mixer.forming ++ [sample]
            sbout := (s.mixer.sending[f.place]?).getD silence }
        ∧ (∀ p : PortId, t.port p = { s.port p with
            voxSum := (s.port p).voxSum + (saturate (heard p)).natAbs })
        ∧ (∀ b : BridgeId, (t.bridge b).holder = (s.bridge b).holder ∧ (t.bridge b).stack = (s.bridge b).stack
          ∧ (t.bridge b).queue = (s.bridge b).queue ∧ (t.bridge b).burst = (s.bridge b).burst
          ∧ (t.bridge b).writePos = (s.bridge b).writePos
          ∧ (t.bridge b).phase = (if (s.bridge b).burst = 0 then (s.bridge b).phase
              else { (s.bridge b).phase with samples := (s.bridge b).phase.samples + 1 })
          ∧ (Due.half b ∈ t.due ↔ (s.bridge b).burst ≠ 0
              ∧ (if (s.bridge b).phase.segment = .first then g.p1 else g.p2)
                  ≤ (s.bridge b).phase.samples + 1))
        ∧ (∀ p : PortId,
          t.notices.flags[srcPort p].getLsbD flagInputClip
              = (s.notices.flags[srcPort p].getLsbD flagInputClip || clips (heard p))
          ∧ t.notices.flags[srcPort p].getLsbD flagOutputClip
              = (s.notices.flags[srcPort p].getLsbD flagOutputClip || clips (output p)))
        ∧ (∀ b : BridgeId, t.notices.flags[srcBridge b].getLsbD flagTalkClip
              = (s.notices.flags[srcBridge b].getLsbD flagTalkClip || clips (talk b)))
        ∧ t.notices.flags[srcConsole].getLsbD flagConsoleInputClip
              = (s.notices.flags[srcConsole].getLsbD flagConsoleInputClip || clips console)
        ∧ t.notices.flags[srcConsole].getLsbD flagConsoleOutputClip
              = (s.notices.flags[srcConsole].getLsbD flagConsoleOutputClip || clips monitor)
        ∧ (∀ (src : Source) (i : Nat), t.notices.flags[src].getLsbD i = s.notices.flags[src].getLsbD i
          ∨ (∃ p : PortId, src = srcPort p ∧ (i = flagInputClip ∨ i = flagOutputClip))
          ∨ (∃ b : BridgeId, src = srcBridge b ∧ i = flagTalkClip)
          ∨ src = srcConsole ∧ (i = flagConsoleInputClip ∨ i = flagConsoleOutputClip))
        ∧ s.flagsReported t
        ∧ (∀ d ∈ t.due, ∃ b : BridgeId, d = .half b)
        ∧ t = { s with
            ports := t.ports, bridges := t.bridges, mixer := t.mixer, notices := t.notices, due := t.due }

/-- The turns of the alert tone and the end of a burst (R141, R142, R143). -/
def Obligations.AlertToneAndBurstEvents : Prop :=
  ∀ (s : State) (b : BridgeId), s.inReset = false →
    (Due.half b ∈ s.due → (s.bridge b).burst ≠ 0 →
      ∃ r : Bridge, exec (.alertHalfPeriod b) s
          = .next { s with due := s.due.erase (.half b), bridges := s.bridges.set b r }
        ∧ r = { s.bridge b with phase := { (s.bridge b).phase with
            positive := !(s.bridge b).phase.positive, samples := 0 } })
    ∧ (Due.segment b ∈ s.due → (s.bridge b).burst ≠ 0 → 25 ≤ (s.bridge b).phase.frames →
      ∃ (r : Bridge) (seg : Segment), exec (.alertSegmentChange b) s
          = .next { s with due := s.due.erase (.segment b), bridges := s.bridges.set b r }
        ∧ seg ≠ (s.bridge b).phase.segment ∧ r = { s.bridge b with phase := ⟨seg, 0, true, 0⟩ })
    ∧ (Due.burstEnd b ∈ s.due → (s.bridge b).burst = 1 → ∃ u v : State,
      v = { s with due := s.due.erase (.burstEnd b) }
      ∧ u = v.bridgeReported true b { s.bridge b with burst := 0, phase := ⟨.first, 0, true, 0⟩ }
      ∧ exec (.burstEnd b) s = .next u.handOn ∧ u.handOn.backdrop = u.backdrop
      ∧ (u.quiet → exec (.burstEnd b) s = .next u))

/-- A level read through a polarity stands while the line is at that level (R10, R12). What a frame completion counts
(R127): the mixer, the directory, every bridge's position, burst and tone (R136,
R141, R142), every port's presence, carrier, VOX, age and window counts (R10, R12, R13, R25, R30, R135). A count at its
end stands for its event (log entry 5). A loud frame turns a detector on, but not where `late` names the port or a
carrier change comes due with it (log entry 6). The talk timers (R87) and the key machines (R110) that reach no end
count too: `c` is the state after the counts, on which the detectors that turn on act in port order, each with its
change of engagement and what that hands on before the next (R14; the order is the model's choice: log entry 30). -/
def Obligations.FrameCompletionCounts : Prop :=
  (∀ high : Bool, throughPolarity .high high = high ∧ throughPolarity .low high = !high)
  ∧ ∀ (s : State) (f : Frame) (cs pres : PortSet) (late : Late), s.calm → s.mixer.mode = .run →
    s.mixer.frame = some f → f.place = frameLength s.mixer.rate →
    let heard (p : PortId) : Nat := (s.port p).voxSum / frameLength s.mixer.rate
    let present (p : PortId) : Bool := throughPolarity (s.port p).setup.presencePolarity (pres.getLsbD p)
    let carrier (p : PortId) : Bool := throughPolarity (s.port p).setup.csPolarity (cs.getLsbD p)
    let lost (p : PortId) : Prop := (s.port p).present = true ∧ present p = false ∧ (s.port p).presenceCount = 1
    let sampled (p : PortId) : Prop := (s.port p).lifecycle = .active ∧ ¬ lost p
    let changes (p : PortId) : Nat := if carrier p = (s.port p).carrier then 0 else (s.port p).carrierCount + 1
    let turnsOn (p : PortId) : Prop := sampled p ∧ (s.port p).vox = false
      ∧ (s.port p).setup.voxThreshold ≤ heard p ∧ changes p ≤ (s.port p).setup.csDebounce
      ∧ late.vox.getLsbD p = false
    ∃ (t c : State) (turning : List PortId), exec (.frameCompletion cs pres late) s = .next t
      ∧ turning.Pairwise (· < ·) ∧ (∀ p : PortId, p ∈ turning ↔ turnsOn p)
      ∧ t = turning.foldl (fun z p => (State.judgeEngagement false p
          { z with ports := z.ports.set p { z.port p with vox := true, quietCount := 0 } }).handOn) c
      ∧ t.mixer = { s.mixer with frame := none, sending := s.mixer.forming, forming := [] }
      ∧ t.dir = { s.dir with count := s.dir.count + 1 }
      ∧ (∀ b : BridgeId, (t.bridge b).writePos = (s.bridge b).writePos + 1
        ∧ (t.bridge b).ring = (s.bridge b).ring
        ∧ (t.bridge b).burst = (if (s.bridge b).burst ≤ 1 then (s.bridge b).burst else (s.bridge b).burst - 1)
        ∧ (t.bridge b).phase = (if (s.bridge b).burst = 0 then (s.bridge b).phase
            else { (s.bridge b).phase with frames := (s.bridge b).phase.frames + 1 }))
      ∧ (∀ p : PortId, (t.port p).voxSum = 0 ∧ (t.port p).voxLevel = heard p
        ∧ (t.port p).present = (s.port p).present
        ∧ (t.port p).presenceCount = (if present p = (s.port p).present then 0 else 1)
        ∧ (t.port p).carrier = (s.port p).carrier
        ∧ (sampled p → (t.port p).carrierCount = changes p
          ∧ (t.port p).quietCount = (if (s.port p).vox = true ∧ heard p < (s.port p).setup.voxThreshold
              then (s.port p).quietCount + 1 else 0))
        ∧ (¬ sampled p → (t.port p).carrierCount = (s.port p).carrierCount
          ∧ (t.port p).quietCount = (s.port p).quietCount)
        ∧ (turnsOn p → (t.port p).vox = true) ∧ (¬ turnsOn p → (t.port p).vox = (s.port p).vox)
        ∧ (∀ (held : List Byte) (age : Nat), (s.port p).receiver = .assembling held age →
          (t.port p).receiver = .assembling held (age + 1))
        ∧ (t.port p).lifecycle = (s.port p).lifecycle ∧ (t.port p).setup = (s.port p).setup
        ∧ (t.port p).emergency = (s.port p).emergency)
      ∧ c.backdrop = { t with
          ports := Vector.ofFn fun p : PortId => { t.port p with vox := (s.port p).vox } }.backdrop
      ∧ c.notices = s.notices ∧ c.bidCounter = s.bidCounter
      ∧ (∀ p : PortId, (c.port p).engaged = (s.port p).engaged ∧ (c.port p).bar = (s.port p).bar
          ∧ (c.port p).unit = (s.port p).unit
          ∧ (c.port p).pendingId = (s.port p).pendingId.map (fun i => { i with window := i.window - 1 })
          ∧ (c.port p).key = (s.port p).key
          ∧ (Due.key p ∈ t.due →
            (c.port p).timing = (s.port p).timing ∧ (c.port p).keyUp = (s.port p).keyUp)
          ∧ (Due.key p ∉ t.due →
            (c.port p).timing = (match (s.port p).key with
              | .idle | .deferred | .keyed => (s.port p).timing
              | .drain | .hang | .blank | .cool => (s.port p).timing + 1)
            ∧ (c.port p).keyUp = (match (s.port p).key with
              | .idle | .deferred | .blank | .cool => (s.port p).keyUp
              | .keyed | .drain | .hang =>
                if (s.port p).setup.keyLimit = 0 then (s.port p).keyUp else (s.port p).keyUp + 1)))
      ∧ ∀ b : BridgeId, (c.bridge b).stack = (s.bridge b).stack ∧ (c.bridge b).queue = (s.bridge b).queue
          ∧ (Due.talk b ∈ t.due → (c.bridge b).holder = (s.bridge b).holder)
          ∧ (Due.talk b ∉ t.due → (c.bridge b).holder
              = (s.bridge b).holder.map fun h => { h with timer := h.timer.map (· - 1) })

/-- The events that a frame completion brings, each at the count that its rule gives: R10, R12, R13, R25, R30, R88, R105
to R108, R119, R141, R142. `late` leaves the counts that it names to be taken after the events (log entry 6). How what
is due is taken (the model's choice: log entries 5, 8): by the command that names it, or one after the other ahead of a
command that is no event; and what a count that `late` named does where it does not run out (R13, R87, R110). -/
def Obligations.FrameCompletionBringsItsEvents : Prop :=
  (∀ (s : State) (c : Instr) (d : Due), s.inReset = false →
    (eventOf c = some d → d ∉ s.due → exec c s = .next s)
    ∧ (eventOf c = some d → d ∈ s.due →
      exec c s = .next s ∨ exec c s = .next (State.takeDue { s with due := s.due.erase d } d))
    ∧ ∀ rest : List Due, eventOf c = none → (∀ rate1 rate0 : Bool, c ≠ .resetRelease rate1 rate0) →
      s.due = d :: rest → exec c s = exec c (State.takeDue { s with due := rest } d))
  ∧ (∀ (s : State) (b : BridgeId),
    ((∀ h : Holder, (s.bridge b).holder = some h → h.timer = none) → s.takeDue (.talk b) = s)
    ∧ ∀ (h : Holder) (n : Nat), (s.bridge b).holder = some h → h.timer = some n → 1 < n →
      ∃ r : Bridge, r = { s.bridge b with holder := some { h with timer := some (n - 1) } }
        ∧ s.takeDue (.talk b) = { s with bridges := s.bridges.set b r })
  ∧ (∀ (s u : State) (p : PortId) (up timing : Nat),
    up = (if (s.port p).setup.keyLimit = 0 then (s.port p).keyUp else (s.port p).keyUp + 1) →
    timing = (s.port p).timing + 1 →
    let counts (timing keyUp : Nat) : State :=
      { s with ports := s.ports.set p { s.port p with timing := timing, keyUp := keyUp } }
    ((s.port p).key = .idle ∨ (s.port p).key = .deferred → s.takeDue (.key p) = s.handOn)
    ∧ (((s.port p).setup.keyLimit = 0 ∨ up < (s.port p).setup.keyLimit * 250) →
      ((s.port p).key = .keyed → s.takeDue (.key p) = (counts (s.port p).timing up).handOn)
      ∧ ((s.port p).key = .drain ∧ timing < (s.port p).setup.lead
          ∨ (s.port p).key = .hang ∧ timing < (s.port p).setup.hang →
        s.takeDue (.key p) = (counts timing up).handOn))
    ∧ ((s.port p).key = .blank → timing < (s.port p).setup.blank →
      s.takeDue (.key p) = (counts timing (s.port p).keyUp).handOn)
    ∧ ((s.port p).key = .cool → timing < (s.port p).setup.cooldown * 250 →
      u = (counts timing (s.port p).keyUp).judgeEngagement false p → s.takeDue (.key p) = u.handOn))
  ∧ (∀ (s u : State) (p : PortId), (s.port p).carrierCount < (s.port p).setup.csDebounce + 1 →
    (s.port p).quietCount < (s.port p).setup.voxHold + 1 →
    u = (if (s.port p).lifecycle = .active ∧ (s.port p).vox = false
        ∧ (s.port p).setup.voxThreshold ≤ (s.port p).voxLevel
      then { s with ports := s.ports.set p { s.port p with vox := true, quietCount := 0 } } else s) →
    s.takeDue (.qualify p) = (u.judgeEngagement false p).handOn)
  ∧ ∀ (s t : State) (f : Frame) (cs pres : PortSet) (late : Late), s.calm → s.mixer.mode = .run →
    s.mixer.frame = some f → f.place = frameLength s.mixer.rate →
    exec (.frameCompletion cs pres late) s = .next t →
    (∀ b : BridgeId, Due.half b ∉ t.due
      ∧ (Due.segment b ∈ t.due ↔ (s.bridge b).burst ≠ 0 ∧ 25 ≤ (s.bridge b).phase.frames + 1)
      ∧ (Due.burstEnd b ∈ t.due ↔ (s.bridge b).burst = 1)
      ∧ (Due.talk b ∈ t.due ↔ late.timers.getLsbD b = true
          ∨ ∃ (h : Holder) (n : Nat), (s.bridge b).holder = some h ∧ h.timer = some n ∧ n ≤ 1))
    ∧ ∀ (p : PortId) (present : Bool) (changes level up : Nat),
      present = throughPolarity (s.port p).setup.presencePolarity (pres.getLsbD p) →
      changes = (if throughPolarity (s.port p).setup.csPolarity (cs.getLsbD p) = (s.port p).carrier then 0
        else (s.port p).carrierCount + 1) →
      level = (s.port p).voxSum / frameLength s.mixer.rate →
      up = (if (s.port p).setup.keyLimit = 0 then (s.port p).keyUp else (s.port p).keyUp + 1) →
      (Due.window p ∈ t.due ↔ ∃ i : PendingIdentity, (s.port p).pendingId = some i ∧ i.window ≤ 1)
      ∧ (Due.age p ∈ t.due ↔ ∃ (held : List Byte) (age : Nat),
          (s.port p).receiver = .assembling held age ∧ 25 ≤ age + 1)
      ∧ (Due.presence p ∈ t.due ↔ present ≠ (s.port p).present ∧ (s.port p).presenceCount = 1)
      ∧ (Due.qualify p ∈ t.due ↔ (s.port p).lifecycle = .active
          ∧ ¬ ((s.port p).present = true ∧ present = false ∧ (s.port p).presenceCount = 1)
          ∧ ((s.port p).setup.csDebounce + 1 ≤ changes
            ∨ ((s.port p).vox = true ∧ level < (s.port p).setup.voxThreshold
              ∧ (s.port p).setup.voxHold ≤ (s.port p).quietCount)
            ∨ ((s.port p).vox = false ∧ (s.port p).setup.voxThreshold ≤ level ∧ late.vox.getLsbD p = true)))
      ∧ (Due.key p ∈ t.due ↔ late.keys.getLsbD p = true
          ∨ ((s.port p).key = .keyed ∨ (s.port p).key = .drain ∨ (s.port p).key = .hang)
            ∧ (s.port p).setup.keyLimit ≠ 0 ∧ (s.port p).setup.keyLimit * 250 ≤ up
          ∨ (s.port p).key = .drain ∧ (s.port p).setup.lead ≤ (s.port p).timing + 1
          ∨ (s.port p).key = .hang ∧ (s.port p).setup.hang ≤ (s.port p).timing + 1
          ∨ (s.port p).key = .blank ∧ (s.port p).setup.blank ≤ (s.port p).timing + 1
          ∨ (s.port p).key = .cool ∧ ((s.port p).setup.cooldown * 250 ≤ (s.port p).timing + 1
            ∨ (s.port p).setup.blank = (s.port p).timing + 1))

/-- MIXER_SETUP (R131), MIXER_RUN (R130) and CONSOLE_MONITOR (R155), each with every reply. -/
def Obligations.MixerAndMonitorSettings : Prop :=
  ∀ s : State, s.linkReady →
    (∀ f : MixerFields, 1 < f.rate.toNat ∨ 2 < f.rounding.toNat →
      exec (.mixerSetup f) s = .next (s.answered 0x18 [0x03]))
    ∧ (∀ (f : MixerFields) (rate : SampleRate) (mode : Rounding), rateByte rate = f.rate →
      roundingByte mode = f.rounding →
      (s.mixer.mode = .run → rate ≠ s.mixer.rate → exec (.mixerSetup f) s = .next (s.answered 0x18 [0x02]))
      ∧ (s.mixer.mode = .halted ∨ rate = s.mixer.rate → ∃ (code : Byte) (m : Mixer),
        exec (.mixerSetup f) s = .next (({ s with mixer := m } : State).answered 0x18 [code])
        ∧ m = { s.mixer with
            rate := rate, rounding := mode, amplitude := min f.amplitude.toNat 16383
            p1 := max 2 (min f.p1.toNat 64), p2 := max 2 (min f.p2.toNat 64)
            conGain := min f.conGain.toNat 4095 }
        ∧ (code = 0x00 ∧ m.amplitude = f.amplitude.toNat ∧ m.p1 = f.p1.toNat ∧ m.p2 = f.p2.toNat
            ∧ m.conGain = f.conGain.toNat
          ∨ code = 0x01 ∧ ¬ (m.amplitude = f.amplitude.toNat ∧ m.p1 = f.p1.toNat ∧ m.p2 = f.p2.toNat
            ∧ m.conGain = f.conGain.toNat))))
    ∧ (s.mixer.mode = .run → exec .mixerRun s = .next (s.answered 0x1A [0x00]))
    ∧ (s.mixer.mode = .halted → ∃ m : Mixer, m = { s.mixer with mode := .run }
      ∧ exec .mixerRun s = .next (({ s with mixer := m } : State).answered 0x1A [0x00]))
    ∧ (∀ (mask : BridgeSet) (gains : Vector Half 8), s.mixer.mode = .halted →
      exec (.consoleMonitor mask gains) s = .next (s.answered 0x17 [0x02]))
    ∧ ∀ (mask : BridgeSet) (gains : Vector Half 8), s.mixer.mode = .run → ∃ (c : Console) (code : Byte),
      exec (.consoleMonitor mask gains) s = .next (({ s with console := c } : State).answered 0x17 [code])
      ∧ c.talk = s.console.talk ∧ c.monitorMask = mask
      ∧ (∀ b : BridgeId, c.monitorGains[b] = min gains[b].toNat 4095)
      ∧ (code = 0x00 ∧ (∀ b : BridgeId, gains[b].toNat ≤ 4095)
          ∨ code = 0x01 ∧ ∃ b : BridgeId, 4095 < gains[b].toNat)

/-- CLEAR_BRIDGES (R94, R95, R122), and MIXER_HALT which performs it (R129): bridges and talk set emptied, rings at 0,
engaged ports barred and no other, keyed machines in BLANK and the others in IDLE; the halt also abandons the frame. A
port is `still` afterwards, with its unit, its pending identity and its engagement kept, unless a machine that leaves
for IDLE ends its blanking: a qualified port then engages, barred, and takes up its pending identity. No flag changes,
no bid is made, and exactly the sources that have changed have their notice made pending where their switch is on (R20,
R92). -/
def Obligations.ClearBridgesAndMixerHalt : Prop :=
  ∀ s : State, s.linkReady →
    let empty (b : BridgeId) : Bridge := { s.bridge b with
      holder := none, stack := [], queue := [], burst := 0, phase := ⟨.first, 0, true, 0⟩, ring := [] }
    let u : State := { s with
      console := { s.console with talk := 0 }
      bridges := Vector.ofFn fun b : BridgeId => empty b }
    let m : Mixer := if s.mixer.mode = .halted then s.mixer else { s.mixer with
      mode := .halted, frame := none, forming := [], sending := [], sbout := silence }
    let rest (p : PortId) : KeyState :=
      if (s.port p).key.asserted = true ∧ (s.port p).lifecycle = .active ∧ (s.port p).setup.blank ≠ 0
        then .blank else .idle
    let still (p : PortId) : Port := { s.port p with
      bar := (s.port p).bar || (s.port p).engaged, key := rest p
      timing := if (s.port p).key = .idle then (s.port p).timing else 0
      keyUp := if (s.port p).key = .idle then (s.port p).keyUp else 0 }
    let unblanked (p : PortId) : Prop := rest p = .idle ∧ (s.port p).key ≠ .idle ∧ (s.port p).key ≠ .deferred
    let becomes (p : PortId) (q : Port) : Prop :=
      (¬ unblanked p ∨ (s.port p).engaged = (still p).mayEngage → q = still p)
      ∧ (unblanked p → (s.port p).engaged = false → (still p).mayEngage = true → q = { still p with
        engaged := true, bar := true, pendingId := none
        unit := ((s.port p).pendingId.map (·.unit)).or (s.port p).unit })
      ∧ (unblanked p → (s.port p).engaged = true → (still p).mayEngage = false →
        q = { still p with engaged := false, bar := false, unit := none })
    let cleared (t : State) : Prop :=
      (∀ b : BridgeId, t.bridge b = empty b)
      ∧ (∀ p : PortId, becomes p { t.port p with voxSum := (s.port p).voxSum }) ∧ t.bids = s.bids
      ∧ t.notices = { s.notices with marks := t.notices.marks }
      ∧ t.notices.marks[srcDevice] = s.notices.marks[srcDevice]
      ∧ t.notices.marks[srcConsole] = (s.notices.marks[srcConsole]
          || (s.notices.switches[srcConsole] && decide (s.console.talk ≠ 0)))
      ∧ (∀ b : BridgeId, t.notices.marks[srcBridge b] = (s.notices.marks[srcBridge b]
          || (s.notices.switches[srcBridge b] && decide ((s.bridge b).holder ≠ none ∨ (s.bridge b).stack ≠ []
            ∨ (s.bridge b).queue ≠ [] ∨ (s.bridge b).burst ≠ 0))))
      ∧ (∀ p : PortId, t.notices.marks[srcPort p] = (s.notices.marks[srcPort p]
          || (s.notices.switches[srcPort p] && !(s.port p).sameReported (t.port p))))
      ∧ (∀ p : PortId, (t.port p).engaged = true → (t.port p).bar = true)
      ∧ (∀ p : PortId, (t.port p).key = rest p)
      ∧ (∀ p : PortId, (s.port p).key ≠ .idle → (t.port p).timing = 0 ∧ (t.port p).keyUp = 0)
      ∧ (s.engagementRule → t.engagementRule) ∧ t.bidCounter = s.bidCounter
    (∃ t : State, exec .clearBridges s = .next t ∧ cleared t
      ∧ t.backdrop = (u.answered 0x0C [0x00]).backdrop)
    ∧ ∃ (t w : State), exec .mixerHalt s = .next t ∧ cleared t ∧ t.mixer = m
      ∧ w = { u with
        mixer := m
        ports := if s.mixer.mode = .halted then s.ports else s.ports.map fun q => { q with voxSum := 0 } }
      ∧ t.backdrop = (w.answered 0x19 [0x00]).backdrop

/-! ## The console -/

/-- CONSOLE_TALK (R148) and CONSOLE_RELEASE (R152): refused while HALTED; a carried set equal to the held set changes
nothing; otherwise the console holds exactly the carried bridges, at 5, keeping its hold and stamp in those kept. The
leaving bridges release (R149) and the joining ones are bid into (R150), each kind in bridge order, with what each hands
on before the next; then the talk set is written and its change reported (R146). -/
def Obligations.ConsoleHoldsItsTalkSet : Prop :=
  (allBridges.Pairwise (· < ·) ∧ ∀ b : BridgeId, b ∈ allBridges)
  ∧ ∀ s : State, s.linkReady →
    (s.mixer.mode = .halted →
      (∀ carried : BridgeSet, exec (.consoleTalk carried) s = .next (s.answered 0x15 [0x02]))
      ∧ exec .consoleRelease s = .next (s.answered 0x16 [0x02]))
    ∧ (s.mixer.mode = .run → ∀ (c : Instr) (kind : Byte) (carried : BridgeSet),
      (c = .consoleTalk carried ∧ kind = 0x15 ∨ c = .consoleRelease ∧ kind = 0x16 ∧ carried = 0) →
      ∃ (t u : State), exec c s = .next t
        ∧ u = ({ s with console := { s.console with talk := carried } } : State).answered kind [0x00, carried]
        ∧ t.backdrop = u.backdrop
        ∧ (carried = s.console.talk → t = u)
        ∧ (∀ w : State, w = allBridges.foldl (fun z (b : BridgeId) =>
              if carried.getLsbD b = true ∧ s.console.talk.getLsbD b = false then (z.bid b .con).handOn else z)
            (allBridges.foldl (fun z (b : BridgeId) =>
              if s.console.talk.getLsbD b = true ∧ carried.getLsbD b = false then
                (if (z.bridge b).holder.any (·.who == .con) = true then z.release b else z).handOn else z) s) →
          t = ({ w with
            console := { s.console with talk := carried }
            notices := { w.notices with
              marks := w.marksIf (decide (carried ≠ s.console.talk)) srcConsole } } : State).answered
            kind [0x00, carried])
        ∧ (s.settingsInRange → s.consoleRule → ∀ b : BridgeId,
          (carried.getLsbD b = true → s.console.talk.getLsbD b = true → (t.bridge b).holder = (s.bridge b).holder)
          ∧ (carried.getLsbD b = true → ∃ h : Holder, (t.bridge b).holder = some h ∧ h.who = .con
            ∧ h.priority = 5 ∧ h.timer = none)
          ∧ (carried.getLsbD b = false → ∀ h : Holder, (t.bridge b).holder = some h → h.who ≠ .con)))

/-! ## Emergencies and watch rules -/

/-- WATCH_SET (R165) and WATCH_READ (R167), each with every reply, and the 6 bytes of a rule, carried or read. -/
def Obligations.WatchRulesAreWrittenAndRead : Prop :=
  (∀ (r : Rule) (f : RuleFields),
    (ruleBytes r).map BitVec.toNat = [if r.enabled = true then 1 else 0, r.agencyCompare.toNat, r.agencyCare.toNat,
      r.roleCompare.toNat, r.roleCare.toNat, r.bridges.toNat]
    ∧ ruleFieldBytes f = [f.enabled, f.agencyCompare, f.agencyCare, f.roleCompare, f.roleCare, f.bridges])
  ∧ ∀ s : State, s.linkReady →
    (∀ (n : Byte) (f : RuleFields), 7 < n.toNat → exec (.watchSet n f) s = .next (s.answered 0x11 [0x03]))
    ∧ (∀ (n : Fin 8) (f : RuleFields), 1 < f.enabled.toNat ∨ 15 < f.agencyCompare.toNat
        ∨ 15 < f.agencyCare.toNat ∨ 7 < f.roleCompare.toNat ∨ 7 < f.roleCare.toNat →
      exec (.watchSet (natByte n.val) f) s = .next (s.answered 0x11 [0x03]))
    ∧ (∀ (n : Fin 8) (f : RuleFields) (r : Rule), ruleBytes r = ruleFieldBytes f →
      exec (.watchSet (natByte n.val) f) s
        = .next (({ s with watch := s.watch.set n r } : State).answered 0x11 [0x00]))
    ∧ (∀ n : Byte, 7 < n.toNat → exec (.watchRead n) s = .next (s.answered 0x12 [0x03]))
    ∧ ∀ n : Fin 8, exec (.watchRead (natByte n.val)) s
      = .next (s.answered 0x12 ([0x00, natByte n.val] ++ ruleBytes s.watch[n]))

/-- The bridges to alert for a port that enters emergency without a source unit: its own and those of matching rules
(R160 step 2, R164), less those of alert length 0; their bursts are started or reloaded (R161), in bridge order, each
with what it hands on before the next; then the port's new effective priority is taken (R160 step 4, R77).
EMERGENCY_DECLARE with every reply (R166). -/
def Obligations.EmergencyDeclareAlertsItsBridges : Prop :=
  ∀ s : State, s.linkReady →
    (∀ n : Byte, 11 < n.toNat → exec (.emergencyDeclare n) s = .next (s.answered 0x13 [0x03]))
    ∧ ∀ p : PortId,
      (∀ source : Option UnitId, (s.port p).emergency = .active source →
        exec (.emergencyDeclare (natByte p.val)) s = .next (s.answered 0x13 [0x00, 0]))
      ∧ ((s.port p).emergency = .none → ∃ (t u : State) (alerted : BridgeSet),
        exec (.emergencyDeclare (natByte p.val)) s = .next t
        ∧ (∀ b : BridgeId, alerted.getLsbD b = true ↔ s.mixer.mode = .run ∧ (s.record b).alertLength ≠ 0
          ∧ (s.memberOf p = some b ∨ ∃ n : Fin 8, s.watch[n].enabled = true ∧ s.watch[n].bridges.getLsbD b = true
            ∧ (s.port p).setup.homeAgency &&& s.watch[n].agencyCare
                = s.watch[n].agencyCompare &&& s.watch[n].agencyCare
            ∧ (s.port p).setup.homeRole &&& s.watch[n].roleCare
                = s.watch[n].roleCompare &&& s.watch[n].roleCare))
        ∧ u = { s with
            ports := s.ports.set p { s.port p with emergency := .active none }
            bridges := Vector.ofFn fun b : BridgeId =>
              if alerted.getLsbD b = true then { s.bridge b with
                burst := (s.record b).alertLength * 250
                phase := if (s.bridge b).burst = 0 then ⟨.first, 0, true, 0⟩ else (s.bridge b).phase }
              else s.bridge b }
        ∧ t.backdrop = (u.answered 0x13 [0x00, alerted]).backdrop
        ∧ t.notices.marks[srcPort p] = true ∧ t.effPriority p = 4
        ∧ ∀ called z : State, called = { s with
            ports := u.ports, notices := { s.notices with marks := s.notices.marks.set (srcPort p) true } } →
          z = (allBridges.filter fun b : BridgeId => alerted.getLsbD b).foldl (fun z b => State.handOn
            (if (z.bridge b).burst = 0
              then z.bridgeReported true b { z.bridge b with
                burst := (s.record b).alertLength * 250, phase := ⟨.first, 0, true, 0⟩ }
              else { z with bridges := z.bridges.set b { z.bridge b with
                burst := (s.record b).alertLength * 250 } })) called →
          (s.effPriority p = 4 ∨ (z.port p).engaged = false ∨ s.memberOf p = none →
            t = z.answered 0x13 [0x00, alerted])
          ∧ ∀ b : BridgeId, s.effPriority p ≠ 4 → (z.port p).engaged = true → s.memberOf p = some b →
            t = (z.takePriority b p).handOn.answered 0x13 [0x00, alerted])

/-- EMERGENCY_CLEAR with every reply (R168): the port alone, or every port of the same source unit and the flag of that
unit's entry; bursts run on. The ports leave in port order (R169): one that leaves goes to NONE with its notice, and its
arbiter takes a changed effective priority (R77), with what that hands on, before the next. -/
def Obligations.EmergencyClearReachesItsSource : Prop :=
  (∀ (z t x : State) (r : PortId), t = z.leaveEmergency r → (z.port r).emergency ≠ .none →
    x = { z with
      ports := z.ports.set r { z.port r with emergency := .none }
      notices := { z.notices with marks := z.notices.marks.set (srcPort r) true } } →
    (x.effPriority r = z.effPriority r ∨ (z.port r).engaged = false ∨ z.memberOf r = none → t = x)
    ∧ ∀ b : BridgeId, x.effPriority r ≠ z.effPriority r → (z.port r).engaged = true → z.memberOf r = some b →
      t = (x.takePriority b r).handOn)
  ∧ ∀ s : State, s.linkReady →
    (∀ n : Byte, 11 < n.toNat → exec (.emergencyClear n) s = .next (s.answered 0x14 [0x03]))
    ∧ ∀ p : PortId,
      ((s.port p).emergency = .none →
        exec (.emergencyClear (natByte p.val)) s = .next (s.answered 0x14 [0x00, 0, 0]))
      ∧ ∀ source : Option UnitId, (s.port p).emergency = .active source →
        ∃ (t u : State) (went : PortSet), exec (.emergencyClear (natByte p.val)) s = .next t
          ∧ (∀ r : PortId, went.getLsbD r = true ↔ r = p
            ∨ ∃ x : UnitId, source = some x ∧ (s.port r).emergency = .active (some x))
          ∧ u = { s with
            dir := match source with
              | none => s.dir
              | some x => s.dir.modify x fun e => { e with emergency := false }
            ports := Vector.ofFn fun r : PortId =>
              if went.getLsbD r = true then { s.port r with emergency := .none } else s.port r }
          ∧ t.backdrop = (u.answered 0x14 (0x00 :: halfBytes (went.zeroExtend 16))).backdrop
          ∧ (∀ r : PortId, went.getLsbD r = true → t.notices.marks[srcPort r] = true)
          ∧ t = ((allPorts.filter fun r : PortId => went.getLsbD r).foldl State.leaveEmergency
            { s with dir := u.dir }).answered 0x14 (0x00 :: halfBytes (went.zeroExtend 16))

/-! ## The notice unit -/

/-- FAULT_CLEAR (R177) and MASK_SET (R178), each with every reply. -/
def Obligations.FaultClearAndMaskSet : Prop :=
  ∀ s : State, s.linkReady →
    (∀ n flags : Byte, 21 < n.toNat → exec (.faultClear n flags) s = .next (s.answered 0x1B [0x03]))
    ∧ (∀ (src : Source) (flags : Byte), 2 ^ flagCount src ≤ flags.toNat →
      exec (.faultClear (natByte src.val) flags) s = .next (s.answered 0x1B [0x03]))
    ∧ (∀ (src : Source) (flags : Byte), flags.toNat < 2 ^ flagCount src → ∃ left : FlagSet,
      (∀ i : Nat, left.getLsbD i = (s.notices.flags[src].getLsbD i && !flags.getLsbD i))
      ∧ exec (.faultClear (natByte src.val) flags) s = .next
        (({ s with notices := { s.notices with flags := s.notices.flags.set src left } } : State).answered 0x1B
          [0x00, left.zeroExtend 8]))
    ∧ (∀ n mask switch : Byte, 21 < n.toNat → exec (.maskSet n mask switch) s = .next (s.answered 0x1C [0x03]))
    ∧ (∀ (src : Source) (mask switch : Byte),
      2 ^ flagCount src ≤ mask.toNat ∨ 1 < switch.toNat ∨ src = srcDevice ∧ switch = 1 →
      exec (.maskSet (natByte src.val) mask switch) s = .next (s.answered 0x1C [0x03]))
    ∧ ∀ (src : Source) (mask : Byte) (on : Bool), mask.toNat < 2 ^ flagCount src → (src = srcDevice → on = false) →
      ∃ (new : FlagSet) (marks : Vector Bool 22), new.zeroExtend 8 = mask
        ∧ marks = (if s.notices.flags[src] &&& s.notices.masks[src] &&& ~~~new = 0 then s.notices.marks
          else s.notices.marks.set src true)
        ∧ exec (.maskSet (natByte src.val) mask (switchByte on)) s = .next
          (({ s with notices := { s.notices with
              masks := s.notices.masks.set src new, switches := s.notices.switches.set src on
              marks := marks } } : State).answered 0x1C [0x00, mask, switchByte on])

/-- The sources, their flags and the numbers of these (R171); the reportable state of a port (R20) and of a bridge (R92).
ATTN is asserted exactly while an unmasked flag is set, and its pin is low exactly then (R176). The setting of a
flag (R172, R174): the one flag is set and stays set if it was; the source's notice becomes pending exactly where an
unmasked flag goes from clear to set; nothing else changes. -/
def Obligations.FlagsDriveAttnAndNotices : Prop :=
  (srcDevice = 0 ∧ srcConsole = 1 ∧ (∀ b : BridgeId, (srcBridge b).val = 2 + b.val)
    ∧ (∀ p : PortId, (srcPort p).val = 10 + p.val)
    ∧ flagCount srcDevice = 2 ∧ flagCount srcConsole = 2 ∧ (∀ b : BridgeId, flagCount (srcBridge b) = 3)
    ∧ (∀ p : PortId, flagCount (srcPort p) = 6)
    ∧ (∀ (src : Source) (i : Nat), (allFlags src).getLsbD i = decide (i < flagCount src))
    ∧ [flagLinkFrame, flagDirectoryFull] = [0, 1] ∧ [flagConsoleInputClip, flagConsoleOutputClip] = [0, 1]
    ∧ [flagStackOverflow, flagTalkTimeout, flagTalkClip] = [0, 1, 2]
    ∧ [flagDataFraming, flagDataParity, flagReportCheck, flagKeyLimit, flagInputClip, flagOutputClip]
      = [0, 1, 2, 3, 4, 5])
  ∧ (∀ q r : Port, q.sameReported r = true ↔ q.lifecycle = r.lifecycle ∧ q.engaged = r.engaged ∧ q.bar = r.bar
    ∧ q.unit = r.unit ∧ q.key = r.key)
  ∧ (∀ q r : Bridge, q.sameReported r = true ↔ q.holder.map (·.who) = r.holder.map (·.who) ∧ q.queue = r.queue
    ∧ q.stack.map (fun e => (e.port, e.tag, e.stamp)) = r.stack.map (fun e => (e.port, e.tag, e.stamp)))
  ∧ (∀ s : State, s.attn = true ↔ ∃ (src : Source) (i : Nat),
     s.notices.flags[src].getLsbD i = true ∧ s.notices.masks[src].getLsbD i = false)
  ∧ (∀ s : State, s.attnLine = false ↔ s.attn = true)
  ∧ ∀ (s t : State) (src : Source) (n : Nat), n < flagCount src → t = s.raise src n →
      (∀ (other : Source) (i : Nat), t.notices.flags[other].getLsbD i
          = (s.notices.flags[other].getLsbD i || decide (other = src ∧ i = n)))
      ∧ (∀ other : Source, t.notices.marks[other] = (s.notices.marks[other]
          || decide (other = src ∧ s.notices.flags[src].getLsbD n = false
              ∧ s.notices.masks[src].getLsbD n = false)))
      ∧ t = { s with notices := { s.notices with flags := t.notices.flags, marks := t.notices.marks } }

/-! ## The supervisory link -/

/-- The receiver takes each byte by its state (R182), its gap timer runs out (R183), and a character with a low stop bit
is discarded, with a line wait in which no byte is taken (R180); that a byte which a command brings then leaves the wait
standing, and that there is no wait at reset, is the model's choice (log entries 34 and 33), as is that LINK_GAP_TIMEOUT
does nothing at a HUNTING receiver (log entry 8). -/
def Obligations.LinkReceiverActsByState : Prop :=
  (State.reset.link.rx = .hunting ∧ State.reset.link.lineWait = false
   ∧ ∀ (s : State) (b : Byte), s.calm → s.link.lineWait = false →
     let goesOn (rx : LinkRx) : State := { s with link := { s.link with rx := rx, gapRunning := true } }
     (s.link.rx = .hunting → b ≠ 0x5A → exec (.linkByteTaken b) s = .next s)
     ∧ (s.link.rx = .hunting → 4 ≤ s.link.replies.length → exec (.linkByteTaken b) s = .next s)
     ∧ (s.link.rx = .hunting → s.link.replies.length < 4 → exec (.linkByteTaken 0x5A) s = .next
         { s with link := { s.link with
           rx := .length, gapRunning := true, replies := s.link.replies ++ [.reserved] } })
     ∧ (s.link.rx = .length → b.toNat ≤ 60 → exec (.linkByteTaken b) s = .next (goesOn (.kind b.toNat)))
     ∧ (s.link.rx = .length → 60 < b.toNat → exec (.linkByteTaken b) s = .next
         (State.raise srcDevice flagLinkFrame { s with link := { s.link with
           rx := .hunting, gapRunning := false
           replies := s.link.replies.filter (fun x => decide (x ≠ .reserved)) } }))
     ∧ (s.link.rx = .kind 0 → exec (.linkByteTaken b) s = .next (goesOn (.check b [])))
     ∧ (∀ n : Nat, s.link.rx = .kind (n + 1) → exec (.linkByteTaken b) s = .next (goesOn (.payload (n + 1) b [])))
     ∧ (∀ (n : Nat) (kind : Byte) (taken : List Byte), s.link.rx = .payload n kind taken →
       (taken.length + 1 < n → exec (.linkByteTaken b) s = .next (goesOn (.payload n kind (taken ++ [b]))))
       ∧ (n ≤ taken.length + 1 → exec (.linkByteTaken b) s = .next (goesOn (.check kind (taken ++ [b])))))
     ∧ (∀ (kind : Byte) (pl : List Byte), s.link.rx = .check kind pl → ∃ t : State,
       exec (.linkByteTaken b) s = .next t ∧ t.link.rx = .hunting ∧ t.link.gapRunning = false))
  ∧ ∀ s : State, s.calm →
      (s.link.rx = .hunting → exec .linkGapTimeout s = .next s)
      ∧ (s.link.rx ≠ .hunting → exec .linkGapTimeout s = .next
          (State.raise srcDevice flagLinkFrame { s with link := { s.link with
            rx := .hunting, gapRunning := false
            replies := s.link.replies.filter (fun x => decide (x ≠ .reserved)) } }))
      ∧ exec .linkCharacterDiscarded s = .next { s with link := { s.link with lineWait := true } }
      ∧ exec .linkLineWaitEnd s = .next { s with link := { s.link with lineWait := false } }
      ∧ (s.link.lineWait = true → ∀ b : Byte, exec (.linkByteTaken b) s = .next s)

/-- The bytes of a frame: start byte, length, kind, payload, and the check that takes the sum to 0 modulo 256 (R181);
a reply carries the received kind + 0x80 modulo 256 (R184). A complete frame is judged by its check, by a request in progress, by its kind and by its length, in that order
(R184, R185), and a frame that arrives whole likewise. -/
def Obligations.FramesAreJudgedInOrder : Prop :=
  (∀ pl : List Byte, (byteSum pl).toNat = (pl.map BitVec.toNat).sum % 256)
  ∧ (∀ (kind : Byte) (pl : List Byte), pl.length ≤ 60 → ∃ length check replyCheck : Byte,
    length.toNat = pl.length
    ∧ frameBytes kind pl = [0x5A, length, kind] ++ pl ++ [check] ∧ kind + byteSum pl + check = 0
    ∧ replyFrame kind pl = [0x5A, length, kind + 0x80] ++ pl ++ [replyCheck]
    ∧ kind + 0x80 + byteSum pl + replyCheck = 0)
  ∧ (∀ (s : State) (kind b : Byte) (pl : List Byte), s.calm → s.link.lineWait = false →
    s.link.rx = .check kind pl →
    let replied (code : Byte) (t : State) : State := { t with link := { t.link with
      rx := .hunting, gapRunning := false
      replies := t.link.replies.map fun x => if x = .reserved then .formed (replyFrame kind [code]) else x } }
    (kind + byteSum pl + b ≠ 0 →
      exec (.linkByteTaken b) s = .next (replied 0x07 (s.raise srcDevice flagLinkFrame)))
    ∧ (kind + byteSum pl + b = 0 → s.plans.switchPending = true →
      exec (.linkByteTaken b) s = .next (replied 0x04 s))
    ∧ (kind + byteSum pl + b = 0 → s.plans.switchPending = false → kind.toNat = 0 ∨ 0x1C < kind.toNat →
      exec (.linkByteTaken b) s = .next (replied 0x05 s))
    ∧ (∀ n : Nat, kind + byteSum pl + b = 0 → s.plans.switchPending = false → requestLength kind = some n →
      pl.length ≠ n → exec (.linkByteTaken b) s = .next (replied 0x06 s)))
  ∧ (∀ (s : State) (kind : Byte) (pl : List Byte), s.linkReady → pl.length ≤ 60 →
    kind.toNat = 0 ∨ 0x1C < kind.toNat → exec (.unknownKind kind pl) s = .next (s.answered kind [0x05]))
  ∧ ∀ (s : State) (c : Instr) (kind : Byte) (pl : List Byte), s.calm → s.link.ready = true →
    Place.reserved ∉ s.link.replies → s.plans.switchPending = true → requestFrame c = some (kind, pl) →
    pl.length ≤ 60 → exec c s = .next (s.answered kind [0x04])

/-- The transmitter (R187, R188): a formed reply at the head goes first; otherwise the notice of the first pending
source after the last sent, and round again, with the frame of R192; its mark is cleared as it starts, and STARTED with
the device's (R175). An idle transmitter starts by the command (log entry 9); one that ends a frame chooses its next;
while it sends, these commands do nothing (log entry 8). -/
def Obligations.TransmitterSendsRepliesThenNotices : Prop :=
  ∀ s : State, s.calm →
    let reply (bytes : List Byte) (rest : List Place) : State :=
      { s with link := { s.link with tx := some bytes, replies := rest } }
    let notice (src : Source) (bytes : List Byte) : State := { s with
      notices := { s.notices with
        marks := s.notices.marks.set src false
        started := if src = srcDevice then false else s.notices.started }
      link := { s.link with tx := some bytes, lastSource := src } }
    let next (src : Source) : Prop := s.notices.marks[src] = true
      ∧ ∀ other : Source, s.notices.marks[other] = true →
        (src - s.link.lastSource - 1).val ≤ (other - s.link.lastSource - 1).val
    let turn (src : Source) : Prop := (∀ bytes : List Byte, s.link.replies.head? ≠ some (.formed bytes)) ∧ next src
    (∀ (bytes : List Byte) (rest : List Place), s.link.replies = .formed bytes :: rest →
      (s.link.tx = none → exec .replyTransmit s = .next (reply bytes rest))
      ∧ (s.link.tx ≠ none → exec .linkTransmissionEnd s = .next (reply bytes rest)))
    ∧ (s.link.tx = none → turn srcDevice →
      exec .deviceNotice s = .next (notice srcDevice (frameBytes 0x40 s.devicePayload)))
    ∧ (s.link.tx = none → turn srcConsole →
      exec .consoleNotice s = .next (notice srcConsole (frameBytes 0x41 s.consolePayload)))
    ∧ (∀ b : BridgeId, s.link.tx = none → turn (srcBridge b) →
      exec (.bridgeNotice b) s = .next (notice (srcBridge b) (frameBytes 0x42 (s.bridgePayload b))))
    ∧ (∀ p : PortId, s.link.tx = none → turn (srcPort p) →
      exec (.portNotice p) s = .next (notice (srcPort p) (frameBytes 0x43 (s.portPayload p))))
    ∧ (s.link.tx ≠ none →
      (turn srcDevice → exec .linkTransmissionEnd s = .next (notice srcDevice (frameBytes 0x40 s.devicePayload)))
      ∧ (turn srcConsole →
        exec .linkTransmissionEnd s = .next (notice srcConsole (frameBytes 0x41 s.consolePayload)))
      ∧ (∀ b : BridgeId, turn (srcBridge b) →
        exec .linkTransmissionEnd s = .next (notice (srcBridge b) (frameBytes 0x42 (s.bridgePayload b))))
      ∧ (∀ p : PortId, turn (srcPort p) →
        exec .linkTransmissionEnd s = .next (notice (srcPort p) (frameBytes 0x43 (s.portPayload p))))
      ∧ ((∀ bytes : List Byte, s.link.replies.head? ≠ some (.formed bytes)) →
        (∀ src : Source, s.notices.marks[src] = false) →
        exec .linkTransmissionEnd s = .next { s with link := { s.link with tx := none } }))
    ∧ (s.link.tx ≠ none → exec .replyTransmit s = .next s ∧ exec .deviceNotice s = .next s
      ∧ exec .consoleNotice s = .next s ∧ (∀ b : BridgeId, exec (.bridgeNotice b) s = .next s)
      ∧ ∀ p : PortId, exec (.portNotice p) s = .next s)

/-- The kind and payload of every request, with the length that R190 gives its kind; a receiver is ready that is HUNTING,
in no line wait, with a place free (R182). The bytes of a request's frame, taken one after the other by a receiver that is ready, do what the request's command
does (R181, R182, R184, R190; log entry 3). -/
def Obligations.FrameBytesActAsTheirRequest : Prop :=
  (requestFrame .describe = some (0x01, []) ∧ requestFrame .planCopy = some (0x09, [])
    ∧ requestFrame .planSwitch = some (0x0A, []) ∧ requestFrame .clearBridges = some (0x0C, [])
    ∧ requestFrame .purgeLearned = some (0x10, []) ∧ requestFrame .consoleRelease = some (0x16, [])
    ∧ requestFrame .mixerHalt = some (0x19, []) ∧ requestFrame .mixerRun = some (0x1A, []))
  ∧ (∀ (n x y : Byte) (u : Half) (set : BridgeSet) (kind : Byte) (pl : List Byte),
    requestFrame (.portRead n) = some (0x03, [n]) ∧ requestFrame (.portStart n) = some (0x04, [n])
    ∧ requestFrame (.portStop n) = some (0x05, [n]) ∧ requestFrame (.manualKey n x) = some (0x06, [n, x])
    ∧ requestFrame (.planRead n x) = some (0x08, [n, x]) ∧ requestFrame (.bridgeRead n) = some (0x0B, [n])
    ∧ requestFrame (.unitEnter u n x y) = some (0x0D, halfBytes u ++ [n, x, y])
    ∧ requestFrame (.unitRemove u) = some (0x0E, halfBytes u)
    ∧ requestFrame (.unitRead n x y) = some (0x0F, [n, x, y]) ∧ requestFrame (.watchRead n) = some (0x12, [n])
    ∧ requestFrame (.emergencyDeclare n) = some (0x13, [n]) ∧ requestFrame (.emergencyClear n) = some (0x14, [n])
    ∧ requestFrame (.consoleTalk set) = some (0x15, [set]) ∧ requestFrame (.faultClear n x) = some (0x1B, [n, x])
    ∧ requestFrame (.maskSet n x y) = some (0x1C, [n, x, y]) ∧ requestFrame (.unknownKind kind pl) = some (kind, pl))
  ∧ (∀ (n : Byte) (f : SetupFields) (r : RecordFields) (w : RuleFields) (m : MixerFields) (set : BridgeSet)
      (gains : Vector Half 8),
    requestFrame (.portSetup n f) = some (0x02, [n, f.qualify, f.csPolarity, f.csDebounce]
      ++ halfBytes f.voxThreshold ++ [f.voxHold] ++ halfBytes f.rxGain ++ halfBytes f.txGain
      ++ [f.keyPolarity, f.lead, f.hang, f.blank] ++ halfBytes f.keyLimit
      ++ [f.cooldown, f.priority, f.homeAgency, f.homeRole, f.dataLine, f.dataRate, f.dataParity,
        f.presencePolarity])
    ∧ requestFrame (.planEdit n r) = some (0x07, n :: recordFieldBytes r)
    ∧ requestFrame (.watchSet n w) = some (0x11, n :: ruleFieldBytes w)
    ∧ requestFrame (.consoleMonitor set gains) = some ((0x17 : Byte), [set] ++ allBridges.flatMap fun b => halfBytes gains[b])
    ∧ requestFrame (.mixerSetup m) = some (0x18, [m.rate, m.rounding] ++ halfBytes m.amplitude ++ [m.p1, m.p2]
      ++ halfBytes m.conGain))
  ∧ (∀ kind : Byte, kind.toNat = 0 ∨ 0x1C < kind.toNat ↔ requestLength kind = none)
  ∧ (∀ (c : Instr) (kind : Byte) (pl : List Byte), requestFrame c = some (kind, pl) →
    (∀ (k : Byte) (x : List Byte), c ≠ .unknownKind k x) → requestLength kind = some pl.length)
  ∧ (∀ s : State, s.link.ready = true ↔ s.link.rx = .hunting ∧ s.link.lineWait = false
    ∧ s.link.replies.length < 4)
  ∧ ∀ (s : State) (c : Instr) (kind : Byte) (pl : List Byte), requestFrame c = some (kind, pl) → pl.length ≤ 60 →
    s.calm → s.link.ready = true → Place.reserved ∉ s.link.replies →
    exec c s = .next (takeAll s ((frameBytes kind pl).map Instr.linkByteTaken))

/-! ## Radio data lines and unit reports -/

/-- A character on a data line (R21, R22) and what report assembly does with it (R24, R26); a failed
character sets its flags with the notice that they make pending (R22, R172, R174). A receiver that is IDLE or
in a line wait takes none: that a character with a high stop bit then leaves the wait standing, and that its level is
noted, is the model's choice (log entries 26 and 10). -/
def Obligations.DataCharactersAreJudged : Prop :=
  (∀ (data : Byte) (bit : Bool),
    (parityGood .none data bit = true)
    ∧ (parityGood .even data bit = true ↔ ((List.range 8).countP data.getLsbD + bit.toNat) % 2 = 0)
    ∧ (parityGood .odd data bit = true ↔ ((List.range 8).countP data.getLsbD + bit.toNat) % 2 = 1))
  ∧ ∀ (s v : State) (p : PortId) (data : Byte) (bit stop : Bool), s.calm →
    v = { s with dataLines := v.dataLines } →
    (∀ r : PortId, v.dataLines.getLsbD r = if r = p then stop else s.dataLines.getLsbD r) →
    let good : Prop := stop = true ∧ parityGood (s.port p).setup.dataParity data bit = true
    let becomes (r : Receiver) : State := { v with ports := v.ports.set p { s.port p with receiver := r } }
    ((s.port p).receiver = .idle ∨ (s.port p).lineWait = true →
      exec (.dataCharacter p data bit stop) s = .next v)
    ∧ ((s.port p).lineWait = false →
      ((s.port p).receiver = .hunting → good → data ≠ 0x7E →
        exec (.dataCharacter p data bit stop) s = .next v)
      ∧ ((s.port p).receiver ≠ .idle → good → data = 0x7E →
        exec (.dataCharacter p data bit stop) s = .next (becomes (.assembling [] 0)))
      ∧ (∀ (held : List Byte) (age : Nat), (s.port p).receiver = .assembling held age → good → data ≠ 0x7E →
        (held.length < 3 →
          exec (.dataCharacter p data bit stop) s = .next (becomes (.assembling (held ++ [data]) age)))
        ∧ ∀ kind hi lo : Byte, held = [kind, hi, lo] →
          (kind + hi + lo + data ≠ 0 ∨ kind = 0 ∨ 3 < kind.toNat ∨ (hi ++ lo : Half) = 0
              ∨ (hi ++ lo : Half) = 0xFFFF →
            exec (.dataCharacter p data bit stop) s
              = .next (State.raise (srcPort p) flagReportCheck (becomes .hunting)))
          ∧ ∃ t : State, exec (.dataCharacter p data bit stop) s = .next t
            ∧ (t.port p).receiver = .hunting ∧ t.dataLines = v.dataLines)
      ∧ ((s.port p).receiver ≠ .idle → ¬ good → ∃ u : State,
        exec (.dataCharacter p data bit stop) s = .next u
        ∧ u.ports = s.ports.set p { s.port p with receiver := .hunting, lineWait := !stop }
        ∧ u = { v with ports := u.ports, notices := u.notices }
        ∧ s.flagsReported u
        ∧ (∀ (src : Source) (i : Nat), u.notices.flags[src].getLsbD i = (s.notices.flags[src].getLsbD i
          || decide (src = srcPort p ∧ i = flagDataFraming ∧ stop = false)
          || decide (src = srcPort p ∧ i = flagDataParity
            ∧ parityGood (s.port p).setup.dataParity data bit = false)))))

/-- The five bytes of a unit report (R24) and the parity bit sent with each (R21); a report command is well formed where
its unit is valid and no byte after the first is 0x7E (R24); a port receives whose receiver is not IDLE and in no line
wait (R22, R23). The five characters of a unit report that a data line can carry, each with a good parity bit and a high stop bit, do
what the report's command does (R24, R26; log entry 4). -/
def Obligations.ReportCharactersActAsTheirReport : Prop :=
  (∀ (kind : Byte) (u : UnitId), ∃ hi lo check : Byte, reportBytes kind u = [0x7E, kind, hi, lo, check]
    ∧ hi ++ lo = u ∧ kind + hi + lo + check = 0)
  ∧ (∀ (p : PortId) (u : UnitId) (c : Instr) (kind : Byte),
    (c = .ident p u ∧ kind = 1 ∨ c = .emerg p u ∧ kind = 2 ∨ c = .emergClear p u ∧ kind = 3) →
    (WellFormed c = true ↔ u ≠ 0 ∧ u ≠ 0xFFFF ∧ (0x7E : Byte) ∉ (reportBytes kind u).tail))
  ∧ (∀ (parity : Parity) (data : Byte), parityGood parity data (sentParity parity data) = true)
  ∧ (∀ q : Port, q.receiving = true ↔ q.receiver ≠ .idle ∧ q.lineWait = false)
  ∧ ∀ (s : State) (p : PortId) (u : UnitId) (c : Instr) (kind : Byte), s.calm → (s.port p).receiving = true →
    WellFormed c = true → (c = .ident p u ∧ kind = 1 ∨ c = .emerg p u ∧ kind = 2 ∨ c = .emergClear p u ∧ kind = 3) →
    exec c s = .next (takeAll s ((reportBytes kind u).map fun b =>
      .dataCharacter p b (sentParity (s.port p).setup.dataParity b) true))

/-- The ends of a report under assembly (R25), of a pending identity (R30) and of a data line wait (R22). That the end
of the wait is also noted as a high level of the pin is the model's choice (log entry 10). -/
def Obligations.ReportTimeoutsAndLineWaitEnd : Prop :=
  ∀ (s : State) (p : PortId),
    (∀ (held : List Byte) (age : Nat), s.inReset = false → Due.age p ∈ s.due →
      (s.port p).receiver = .assembling held age → 25 ≤ age → ∃ u : State,
      u = { s with
        due := s.due.erase (.age p), ports := s.ports.set p { s.port p with receiver := .hunting } }
      ∧ exec (.assemblyAgeExpiry p) s = .next (u.raise (srcPort p) flagReportCheck))
    ∧ (∀ i : PendingIdentity, s.inReset = false → Due.window p ∈ s.due → (s.port p).pendingId = some i →
      i.window = 0 → exec (.pendingIdentityExpiry p) s = .next { s with
        due := s.due.erase (.window p), ports := s.ports.set p { s.port p with pendingId := none } })
    ∧ (s.calm → ∃ u : State, exec (.dataLineWaitEnd p) s = .next u
      ∧ u = { s with
        dataLines := u.dataLines, ports := s.ports.set p { s.port p with lineWait := false } }
      ∧ ∀ r : PortId, u.dataLines.getLsbD r = (decide (r = p) || s.dataLines.getLsbD r))

/-- The directory's part of an accepted report of U on P (R27, R37, R39, R41): U's entry is refreshed, or U is learned
with P's home attributes where its set has room, or DIRECTORY_FULL is set and nothing is learned. That a LEARNED entry
with a clear flag always makes room is the model's reading against the fourth row of R48's table (log entry 36). -/
def Obligations.ReportsReachTheDirectoryFirst : Prop :=
  ∀ (s t : State) (p : PortId) (u : UnitId), t = s.dirReport p u →
    (∀ (w : Fin 4) (e : Entry), s.dir.find u = some w → s.dir.at (hashSet u) w = some e →
      ∃ d : Directory, t = { s with dir := d }
        ∧ d = s.dir.put (hashSet u) w (some { e with lastPort := some p, stamp := s.dir.count }))
    ∧ (∀ w : Fin 4, s.dir.find u = none → s.dir.room (hashSet u) = some w →
      ∃ (d : Directory) (e : Entry), t = { s with dir := d } ∧ d = s.dir.put (hashSet u) w (some e)
        ∧ e = { unit := u, kind := .learned, agency := (s.port p).setup.homeAgency
                role := (s.port p).setup.homeRole, override := none
                emergency := decide (∃ r : PortId, (s.port r).emergency = .active (some u))
                lastPort := some p, stamp := s.dir.count })
    ∧ (s.dir.find u = none → s.dir.room (hashSet u) = none → t = s.raise srcDevice flagDirectoryFull)

/-- IDENT, EMERG and EMERG_CLEAR (R27 to R31, R42, R158 to R164), in order. Of `v`, in which the directory has taken the
report (ReportsReachTheDirectoryFirst): the identity by P's engagement; the emergency with its notice, and on entry with
the mixer RUN a burst in each alerted bridge, P's own or a matching rule's, by the attributes of U's entry; then P's
priority, once. EMERG starts its bursts before U is taken as the talker, an IDENT after. An EMERG_CLEAR takes every port
of source U to NONE, in port order (R169; EmergencyClearReachesItsSource says how each leaves). That a report is taken
as one command, at a receiver that then hunts, and that its last stop bit is noted as a high level of the pin, is the
model's choice (log entries 4 and 10). -/
def Obligations.ReportsActOnIdentityAndEmergency : Prop :=
  (∀ (v : State) (u : UnitId), v.unitFlagged u = true ↔ ∃ e : Entry, v.dir.entry u = some e ∧ e.emergency = true)
  ∧ ∀ (s : State) (p : PortId) (u : UnitId), s.calm → (s.port p).receiving = true →
    let w : State := { s with
      dataLines := s.dataLines ||| (1#12 <<< p.val), ports := s.ports.set p { s.port p with receiver := .hunting } }
    let v : State := w.dirReport p u
    let marked (on : Bool) : State := { v with dir := v.dir.modify u fun e => { e with emergency := on } }
    let identify (z : State) : State := z.portReported p (if (z.port p).engaged then { z.port p with unit := some u }
      else { z.port p with pendingId := some ⟨u, 250⟩ })
    let call (z : State) : State := { z with
      ports := z.ports.set p { z.port p with emergency := .active (some u) }
      notices := { z.notices with
        marks := if (s.port p).emergency = .active (some u) then z.notices.marks
          else z.notices.marks.set (srcPort p) true } }
    let caller : BitVec 4 × BitVec 3 := ((v.dir.entry u).map fun e => (e.agency, e.role)).getD
      ((s.port p).setup.homeAgency, (s.port p).setup.homeRole)
    let alerted (b : BridgeId) : Prop := (s.port p).emergency = .none ∧ s.mixer.mode = .run
      ∧ (s.record b).alertLength ≠ 0
      ∧ (s.memberOf p = some b ∨ ∃ n : Fin 8, s.watch[n].enabled = true ∧ s.watch[n].bridges.getLsbD b = true
        ∧ caller.1 &&& s.watch[n].agencyCare = s.watch[n].agencyCompare &&& s.watch[n].agencyCare
        ∧ caller.2 &&& s.watch[n].roleCare = s.watch[n].roleCompare &&& s.watch[n].roleCare)
    let frames (b : BridgeId) : Nat := (s.record b).alertLength * 250
    let alert (z : State) (b : BridgeId) : State := State.handOn (if (z.bridge b).burst = 0
      then z.bridgeReported true b { z.bridge b with burst := frames b, phase := ⟨.first, 0, true, 0⟩ }
      else { z with bridges := z.bridges.set b { z.bridge b with burst := frames b } })
    let entered (z t : State) (bs : List BridgeId) : Prop := t.backdrop = ({ z with
        ports := z.ports.set p { z.port p with emergency := .active (some u) }
        bridges := Vector.ofFn fun b : BridgeId => if b ∈ bs then { s.bridge b with
            burst := frames b
            phase := if (s.bridge b).burst = 0 then ⟨.first, 0, true, 0⟩ else (s.bridge b).phase }
          else s.bridge b } : State).backdrop
      ∧ (t.port p).emergency = .active (some u) ∧ t.effPriority p = 4
      ∧ ((s.port p).emergency ≠ .active (some u) → t.notices.marks[srcPort p] = true)
      ∧ ((s.port p).emergency ≠ .none → (t.port p).engaged = (s.port p).engaged
        ∧ ((s.port p).engaged = true → (t.port p).unit = some u)
        ∧ ((s.port p).engaged = false → (t.port p).pendingId = some ⟨u, 250⟩ ∧ (t.port p).unit = (s.port p).unit))
    (∀ z : State, (z.effPriority p = s.effPriority p ∨ (z.port p).engaged = false ∨ z.memberOf p = none →
        z.handPriority p (s.effPriority p) = z)
      ∧ ∀ b : BridgeId, z.effPriority p ≠ s.effPriority p → (z.port p).engaged = true → z.memberOf p = some b →
        z.handPriority p (s.effPriority p) = (z.takePriority b p).handOn)
    ∧ (WellFormed (.ident p u) = true → ∃ (t : State) (bs : List BridgeId), exec (.ident p u) s = .next t
      ∧ (∀ b : BridgeId, b ∈ bs ↔ alerted b) ∧ bs.Pairwise (· < ·) ∧ t.dir = v.dir
      ∧ (v.unitFlagged u = false → t = (identify v).handPriority p (s.effPriority p) ∧ t.backdrop = v.backdrop)
      ∧ (v.unitFlagged u = true → entered v t bs
        ∧ t = (bs.foldl alert (call (identify v))).handPriority p (s.effPriority p)))
    ∧ (WellFormed (.emerg p u) = true → ∃ (t : State) (bs : List BridgeId), exec (.emerg p u) s = .next t
      ∧ (∀ b : BridgeId, b ∈ bs ↔ alerted b) ∧ bs.Pairwise (· < ·) ∧ t.dir = (marked true).dir
      ∧ entered (marked true) t bs
      ∧ t = (identify (bs.foldl alert (call (marked true)))).handPriority p (s.effPriority p))
    ∧ (WellFormed (.emergClear p u) = true → ∃ (t x : State), exec (.emergClear p u) s = .next t
      ∧ x = { (marked false) with
        ports := Vector.ofFn fun r : PortId => if (s.port r).emergency = .active (some u)
          then { v.port r with emergency := .none } else v.port r }
      ∧ t.backdrop = x.backdrop
      ∧ (∀ r : PortId, (s.port r).emergency = .active (some u) →
        (t.port r).emergency = .none ∧ t.notices.marks[srcPort r] = true)
      ∧ ((∀ r : PortId, (s.port r).emergency ≠ .active (some u)) → t = x)
      ∧ t = (allPorts.filter fun r => (s.port r).emergency == .active (some u)).foldl State.leaveEmergency
        (marked false))

/-! ## Invariants that every step keeps

Each holds of `s` as a premise, whatever command stands in front of the queue. That they hold at reset is
ResetMeetsTheInvariants. -/

/-- The delay rings keep their form and their samples the sample range, and the write positions stay equal (R133,
R136). -/
def Obligations.EveryStepKeepsTheDelayRings : Prop :=
  ∀ s t : State, step s = .next t →
    (s.ringsSound → t.ringsSound) ∧ (s.positionsEqual → t.positionsEqual)

/-- Membership rule (R51): in each plan every radio port is a member of at most one bridge, and destinations and
alert-only ports are subsets of the members. -/
def Obligations.EveryStepKeepsTheMembershipRule : Prop :=
  State.reset.planRule ∧ ∀ s t : State, s.planRule → step s = .next t → t.planRule

/-- The directory: an entry stands in the set of its unit, no unit has two, and no LEARNED entry has an override (R33,
R34, R39, R43). -/
def Obligations.EveryStepKeepsTheDirectory : Prop :=
  ∀ s t : State, s.directoryRule → step s = .next t → t.directoryRule

/-- The ports: engaged exactly while the three conditions of R16 hold, so never keyed over a receive (R98); held at rest
while OFF or LOST (R5, R7, R23, R96); the key-up count below the key limit (R118); counts at 0 where they
do not count. -/
def Obligations.EveryStepKeepsThePorts : Prop :=
  ∀ s t : State, step s = .next t →
    (s.engagementRule → t.engagementRule ∧ t.neverKeyedOver)
    ∧ (s.inactiveHeld → t.inactiveHeld)
    ∧ (s.inactiveHeld → s.keyLimitRule → t.keyLimitRule)
    ∧ (s.countsAtRest → t.countsAtRest)

/-- Places (R71): a port has its place in a bridge as its holder, in a VALID stack entry or in its queue. A bridge names no port twice, a port with a place in a bridge is engaged, unbarred and its member, and
one that is engaged, unbarred and a member has its place or its bid on its way. Between commands no bid is on its way,
so it has its place. -/
def Obligations.EveryStepKeepsThePlaces : Prop :=
  (∀ (r : Bridge) (p : PortId), r.hasPlace p = true ↔ (∃ h : Holder, r.holder = some h ∧ h.who = .port p)
    ∨ (∃ e ∈ r.stack, e.port = p ∧ e.tag = .valid) ∨ ∃ e ∈ r.queue, e.port = p)
  ∧ ∀ s t : State, step s = .next t →
    (s.namedOnce → t.namedOnce)
    ∧ (s.bids = [] → t.bids = [])
    ∧ (s.namedOnce → s.placesHeld → s.planRule → s.engagementRule →
      t.placesHeld ∧ (s.placesTaken → t.placesTaken))

/-- The bridges: at most 4 stack entries (R73), nothing waits at a free path (R72), the holder record carries its
holder's effective priority as it now stands (R72, R76) and the queue stands in falling order of it (R74). For the
order, settings lie in their ranges (EveryStepKeepsSettingsAndConsole), no bid is on its way (EveryStepKeepsThePlaces),
and a request or a link byte, which may change the override priority of a unit (R47), comes at rest, and the whole frame
of a request at a HUNTING receiver. -/
def Obligations.EveryStepKeepsTheBridges : Prop :=
  ∀ s t : State, step s = .next t →
    (s.stacksBounded → t.stacksBounded) ∧ (s.freeBridgesEmpty → t.freeBridgesEmpty)
    ∧ (s.namedOnce → s.placesHeld → s.planRule → s.engagementRule → s.directoryRule → s.holderPriorities →
      t.holderPriorities
      ∧ (s.freeBridgesEmpty → s.settingsInRange → s.bids = [] → s.queuesOrdered →
        (∀ (c : Instr) (rest : List Instr), s.pending = c :: rest →
          (requestFrame c = none ∧ ∀ x : Byte, c ≠ .linkByteTaken x)
          ∨ s.quiet ∧ s.due = [] ∧ ((∃ x : Byte, c = .linkByteTaken x)
            ∨ s.link.rx = .hunting ∧ WellFormed c = true)) →
        t.queuesOrdered))

/-- Settings stay in their ranges (R1, R34, R49, R128, R146), and the console holds exactly the bridges of its talk set,
at 5 and without a talk timer (R72, R79, R83). -/
def Obligations.EveryStepKeepsSettingsAndConsole : Prop :=
  ∀ s t : State, step s = .next t → s.settingsInRange →
    t.settingsInRange ∧ (s.consoleRule → t.consoleRule)

/-- Alert phases and bursts (R141, R143, R161), flags and mask bits (R171, R173), reply places (R182, R185, R187) and
the halted mixer (R125, R128). -/
def Obligations.EveryStepKeepsNoticesLinkAndMixer : Prop :=
  ∀ s t : State, step s = .next t →
    (s.burstRule → t.burstRule) ∧ (s.flagsExist → t.flagsExist) ∧ (s.replyRule → t.replyRule)
    ∧ (s.mixerRule → t.mixerRule)
end

