-- ==== Sys2Proof/Laws/State.lean ====
section
/-! SUPPORT. The small lemmas of the state's updates: what each field is after each of them. -/

namespace Sys2Proof.Machine

/-! ## Reading a port or a bridge after a write -/

@[simp] theorem State.port_setPort_same (s : State) (p : PortId) (q : Port) :
    (s.setPort p q).port p = q := by simp [State.port, State.setPort]

theorem State.port_setPort_ne (s : State) {p r : PortId} (q : Port) (h : p ≠ r) :
    (s.setPort p q).port r = s.port r := by
  have h' : (p : Nat) ≠ r := fun e => h (Fin.ext e)
  simp [State.port, State.setPort, h']

@[simp] theorem State.bridge_setBridge_same (s : State) (b : BridgeId) (r : Bridge) :
    (s.setBridge b r).bridge b = r := by simp [State.bridge, State.setBridge]

theorem State.bridge_setBridge_ne (s : State) {b c : BridgeId} (r : Bridge) (h : b ≠ c) :
    (s.setBridge b r).bridge c = s.bridge c := by
  have h' : (b : Nat) ≠ c := fun e => h (Fin.ext e)
  simp [State.bridge, State.setBridge, h']

/-! ## One lemma per field per update -/
@[simp] theorem State.setPort_inReset (s : State) (p : PortId) (q : Port) : (s.setPort p q).inReset = s.inReset := rfl
@[simp] theorem State.setPort_dataLines (s : State) (p : PortId) (q : Port) : (s.setPort p q).dataLines = s.dataLines := rfl
@[simp] theorem State.setPort_bridges (s : State) (p : PortId) (q : Port) : (s.setPort p q).bridges = s.bridges := rfl
@[simp] theorem State.setPort_bidCounter (s : State) (p : PortId) (q : Port) : (s.setPort p q).bidCounter = s.bidCounter := rfl
@[simp] theorem State.setPort_plans (s : State) (p : PortId) (q : Port) : (s.setPort p q).plans = s.plans := rfl
@[simp] theorem State.setPort_dir (s : State) (p : PortId) (q : Port) : (s.setPort p q).dir = s.dir := rfl
@[simp] theorem State.setPort_mixer (s : State) (p : PortId) (q : Port) : (s.setPort p q).mixer = s.mixer := rfl
@[simp] theorem State.setPort_console (s : State) (p : PortId) (q : Port) : (s.setPort p q).console = s.console := rfl
@[simp] theorem State.setPort_watch (s : State) (p : PortId) (q : Port) : (s.setPort p q).watch = s.watch := rfl
@[simp] theorem State.setPort_notices (s : State) (p : PortId) (q : Port) : (s.setPort p q).notices = s.notices := rfl
@[simp] theorem State.setPort_link (s : State) (p : PortId) (q : Port) : (s.setPort p q).link = s.link := rfl
@[simp] theorem State.setPort_due (s : State) (p : PortId) (q : Port) : (s.setPort p q).due = s.due := rfl
@[simp] theorem State.setPort_bids (s : State) (p : PortId) (q : Port) : (s.setPort p q).bids = s.bids := rfl
@[simp] theorem State.setPort_pending (s : State) (p : PortId) (q : Port) : (s.setPort p q).pending = s.pending := rfl

@[simp] theorem State.setBridge_inReset (s : State) (b : BridgeId) (r : Bridge) : (s.setBridge b r).inReset = s.inReset := rfl
@[simp] theorem State.setBridge_dataLines (s : State) (b : BridgeId) (r : Bridge) : (s.setBridge b r).dataLines = s.dataLines := rfl
@[simp] theorem State.setBridge_ports (s : State) (b : BridgeId) (r : Bridge) : (s.setBridge b r).ports = s.ports := rfl
@[simp] theorem State.setBridge_bidCounter (s : State) (b : BridgeId) (r : Bridge) : (s.setBridge b r).bidCounter = s.bidCounter := rfl
@[simp] theorem State.setBridge_plans (s : State) (b : BridgeId) (r : Bridge) : (s.setBridge b r).plans = s.plans := rfl
@[simp] theorem State.setBridge_dir (s : State) (b : BridgeId) (r : Bridge) : (s.setBridge b r).dir = s.dir := rfl
@[simp] theorem State.setBridge_mixer (s : State) (b : BridgeId) (r : Bridge) : (s.setBridge b r).mixer = s.mixer := rfl
@[simp] theorem State.setBridge_console (s : State) (b : BridgeId) (r : Bridge) : (s.setBridge b r).console = s.console := rfl
@[simp] theorem State.setBridge_watch (s : State) (b : BridgeId) (r : Bridge) : (s.setBridge b r).watch = s.watch := rfl
@[simp] theorem State.setBridge_notices (s : State) (b : BridgeId) (r : Bridge) : (s.setBridge b r).notices = s.notices := rfl
@[simp] theorem State.setBridge_link (s : State) (b : BridgeId) (r : Bridge) : (s.setBridge b r).link = s.link := rfl
@[simp] theorem State.setBridge_due (s : State) (b : BridgeId) (r : Bridge) : (s.setBridge b r).due = s.due := rfl
@[simp] theorem State.setBridge_bids (s : State) (b : BridgeId) (r : Bridge) : (s.setBridge b r).bids = s.bids := rfl
@[simp] theorem State.setBridge_pending (s : State) (b : BridgeId) (r : Bridge) : (s.setBridge b r).pending = s.pending := rfl

@[simp] theorem State.setPending_inReset (s : State) (src : Source) : (s.setPending src).inReset = s.inReset := rfl
@[simp] theorem State.setPending_dataLines (s : State) (src : Source) : (s.setPending src).dataLines = s.dataLines := rfl
@[simp] theorem State.setPending_ports (s : State) (src : Source) : (s.setPending src).ports = s.ports := rfl
@[simp] theorem State.setPending_bridges (s : State) (src : Source) : (s.setPending src).bridges = s.bridges := rfl
@[simp] theorem State.setPending_bidCounter (s : State) (src : Source) : (s.setPending src).bidCounter = s.bidCounter := rfl
@[simp] theorem State.setPending_plans (s : State) (src : Source) : (s.setPending src).plans = s.plans := rfl
@[simp] theorem State.setPending_dir (s : State) (src : Source) : (s.setPending src).dir = s.dir := rfl
@[simp] theorem State.setPending_mixer (s : State) (src : Source) : (s.setPending src).mixer = s.mixer := rfl
@[simp] theorem State.setPending_console (s : State) (src : Source) : (s.setPending src).console = s.console := rfl
@[simp] theorem State.setPending_watch (s : State) (src : Source) : (s.setPending src).watch = s.watch := rfl
@[simp] theorem State.setPending_link (s : State) (src : Source) : (s.setPending src).link = s.link := rfl
@[simp] theorem State.setPending_due (s : State) (src : Source) : (s.setPending src).due = s.due := rfl
@[simp] theorem State.setPending_bids (s : State) (src : Source) : (s.setPending src).bids = s.bids := rfl
@[simp] theorem State.setPending_pending (s : State) (src : Source) : (s.setPending src).pending = s.pending := rfl

@[simp] theorem State.clearFlags_inReset (s : State) (src : Source) (flags : FlagSet) : (s.clearFlags src flags).inReset = s.inReset := rfl
@[simp] theorem State.clearFlags_dataLines (s : State) (src : Source) (flags : FlagSet) : (s.clearFlags src flags).dataLines = s.dataLines := rfl
@[simp] theorem State.clearFlags_ports (s : State) (src : Source) (flags : FlagSet) : (s.clearFlags src flags).ports = s.ports := rfl
@[simp] theorem State.clearFlags_bridges (s : State) (src : Source) (flags : FlagSet) : (s.clearFlags src flags).bridges = s.bridges := rfl
@[simp] theorem State.clearFlags_bidCounter (s : State) (src : Source) (flags : FlagSet) : (s.clearFlags src flags).bidCounter = s.bidCounter := rfl
@[simp] theorem State.clearFlags_plans (s : State) (src : Source) (flags : FlagSet) : (s.clearFlags src flags).plans = s.plans := rfl
@[simp] theorem State.clearFlags_dir (s : State) (src : Source) (flags : FlagSet) : (s.clearFlags src flags).dir = s.dir := rfl
@[simp] theorem State.clearFlags_mixer (s : State) (src : Source) (flags : FlagSet) : (s.clearFlags src flags).mixer = s.mixer := rfl
@[simp] theorem State.clearFlags_console (s : State) (src : Source) (flags : FlagSet) : (s.clearFlags src flags).console = s.console := rfl
@[simp] theorem State.clearFlags_watch (s : State) (src : Source) (flags : FlagSet) : (s.clearFlags src flags).watch = s.watch := rfl
@[simp] theorem State.clearFlags_link (s : State) (src : Source) (flags : FlagSet) : (s.clearFlags src flags).link = s.link := rfl
@[simp] theorem State.clearFlags_due (s : State) (src : Source) (flags : FlagSet) : (s.clearFlags src flags).due = s.due := rfl
@[simp] theorem State.clearFlags_bids (s : State) (src : Source) (flags : FlagSet) : (s.clearFlags src flags).bids = s.bids := rfl
@[simp] theorem State.clearFlags_pending (s : State) (src : Source) (flags : FlagSet) : (s.clearFlags src flags).pending = s.pending := rfl

@[simp] theorem State.reportChange_inReset (s : State) (src : Source) : (s.reportChange src).inReset = s.inReset := by
  unfold State.reportChange; split <;> rfl
@[simp] theorem State.reportChange_dataLines (s : State) (src : Source) : (s.reportChange src).dataLines = s.dataLines := by
  unfold State.reportChange; split <;> rfl
@[simp] theorem State.reportChange_ports (s : State) (src : Source) : (s.reportChange src).ports = s.ports := by
  unfold State.reportChange; split <;> rfl
@[simp] theorem State.reportChange_bridges (s : State) (src : Source) : (s.reportChange src).bridges = s.bridges := by
  unfold State.reportChange; split <;> rfl
@[simp] theorem State.reportChange_bidCounter (s : State) (src : Source) : (s.reportChange src).bidCounter = s.bidCounter := by
  unfold State.reportChange; split <;> rfl
@[simp] theorem State.reportChange_plans (s : State) (src : Source) : (s.reportChange src).plans = s.plans := by
  unfold State.reportChange; split <;> rfl
@[simp] theorem State.reportChange_dir (s : State) (src : Source) : (s.reportChange src).dir = s.dir := by
  unfold State.reportChange; split <;> rfl
@[simp] theorem State.reportChange_mixer (s : State) (src : Source) : (s.reportChange src).mixer = s.mixer := by
  unfold State.reportChange; split <;> rfl
@[simp] theorem State.reportChange_console (s : State) (src : Source) : (s.reportChange src).console = s.console := by
  unfold State.reportChange; split <;> rfl
@[simp] theorem State.reportChange_watch (s : State) (src : Source) : (s.reportChange src).watch = s.watch := by
  unfold State.reportChange; split <;> rfl
@[simp] theorem State.reportChange_link (s : State) (src : Source) : (s.reportChange src).link = s.link := by
  unfold State.reportChange; split <;> rfl
@[simp] theorem State.reportChange_due (s : State) (src : Source) : (s.reportChange src).due = s.due := by
  unfold State.reportChange; split <;> rfl
@[simp] theorem State.reportChange_bids (s : State) (src : Source) : (s.reportChange src).bids = s.bids := by
  unfold State.reportChange; split <;> rfl
@[simp] theorem State.reportChange_pending (s : State) (src : Source) : (s.reportChange src).pending = s.pending := by
  unfold State.reportChange; split <;> rfl

@[simp] theorem State.reportIf_inReset (s : State) (changed : Bool) (src : Source) : (s.reportIf changed src).inReset = s.inReset := by
  unfold State.reportIf; split <;> simp
@[simp] theorem State.reportIf_dataLines (s : State) (changed : Bool) (src : Source) : (s.reportIf changed src).dataLines = s.dataLines := by
  unfold State.reportIf; split <;> simp
@[simp] theorem State.reportIf_ports (s : State) (changed : Bool) (src : Source) : (s.reportIf changed src).ports = s.ports := by
  unfold State.reportIf; split <;> simp
@[simp] theorem State.reportIf_bridges (s : State) (changed : Bool) (src : Source) : (s.reportIf changed src).bridges = s.bridges := by
  unfold State.reportIf; split <;> simp
@[simp] theorem State.reportIf_bidCounter (s : State) (changed : Bool) (src : Source) : (s.reportIf changed src).bidCounter = s.bidCounter := by
  unfold State.reportIf; split <;> simp
@[simp] theorem State.reportIf_plans (s : State) (changed : Bool) (src : Source) : (s.reportIf changed src).plans = s.plans := by
  unfold State.reportIf; split <;> simp
@[simp] theorem State.reportIf_dir (s : State) (changed : Bool) (src : Source) : (s.reportIf changed src).dir = s.dir := by
  unfold State.reportIf; split <;> simp
@[simp] theorem State.reportIf_mixer (s : State) (changed : Bool) (src : Source) : (s.reportIf changed src).mixer = s.mixer := by
  unfold State.reportIf; split <;> simp
@[simp] theorem State.reportIf_console (s : State) (changed : Bool) (src : Source) : (s.reportIf changed src).console = s.console := by
  unfold State.reportIf; split <;> simp
@[simp] theorem State.reportIf_watch (s : State) (changed : Bool) (src : Source) : (s.reportIf changed src).watch = s.watch := by
  unfold State.reportIf; split <;> simp
@[simp] theorem State.reportIf_link (s : State) (changed : Bool) (src : Source) : (s.reportIf changed src).link = s.link := by
  unfold State.reportIf; split <;> simp
@[simp] theorem State.reportIf_due (s : State) (changed : Bool) (src : Source) : (s.reportIf changed src).due = s.due := by
  unfold State.reportIf; split <;> simp
@[simp] theorem State.reportIf_bids (s : State) (changed : Bool) (src : Source) : (s.reportIf changed src).bids = s.bids := by
  unfold State.reportIf; split <;> simp
@[simp] theorem State.reportIf_pending (s : State) (changed : Bool) (src : Source) : (s.reportIf changed src).pending = s.pending := by
  unfold State.reportIf; split <;> simp

@[simp] theorem State.raise_inReset (s : State) (src : Source) (n : Nat) : (s.raise src n).inReset = s.inReset := by
  unfold State.raise; split
  · rfl
  · dsimp only; split <;> rfl
@[simp] theorem State.raise_dataLines (s : State) (src : Source) (n : Nat) : (s.raise src n).dataLines = s.dataLines := by
  unfold State.raise; split
  · rfl
  · dsimp only; split <;> rfl
@[simp] theorem State.raise_ports (s : State) (src : Source) (n : Nat) : (s.raise src n).ports = s.ports := by
  unfold State.raise; split
  · rfl
  · dsimp only; split <;> rfl
@[simp] theorem State.raise_bridges (s : State) (src : Source) (n : Nat) : (s.raise src n).bridges = s.bridges := by
  unfold State.raise; split
  · rfl
  · dsimp only; split <;> rfl
@[simp] theorem State.raise_bidCounter (s : State) (src : Source) (n : Nat) : (s.raise src n).bidCounter = s.bidCounter := by
  unfold State.raise; split
  · rfl
  · dsimp only; split <;> rfl
@[simp] theorem State.raise_plans (s : State) (src : Source) (n : Nat) : (s.raise src n).plans = s.plans := by
  unfold State.raise; split
  · rfl
  · dsimp only; split <;> rfl
@[simp] theorem State.raise_dir (s : State) (src : Source) (n : Nat) : (s.raise src n).dir = s.dir := by
  unfold State.raise; split
  · rfl
  · dsimp only; split <;> rfl
@[simp] theorem State.raise_mixer (s : State) (src : Source) (n : Nat) : (s.raise src n).mixer = s.mixer := by
  unfold State.raise; split
  · rfl
  · dsimp only; split <;> rfl
@[simp] theorem State.raise_console (s : State) (src : Source) (n : Nat) : (s.raise src n).console = s.console := by
  unfold State.raise; split
  · rfl
  · dsimp only; split <;> rfl
@[simp] theorem State.raise_watch (s : State) (src : Source) (n : Nat) : (s.raise src n).watch = s.watch := by
  unfold State.raise; split
  · rfl
  · dsimp only; split <;> rfl
@[simp] theorem State.raise_link (s : State) (src : Source) (n : Nat) : (s.raise src n).link = s.link := by
  unfold State.raise; split
  · rfl
  · dsimp only; split <;> rfl
@[simp] theorem State.raise_due (s : State) (src : Source) (n : Nat) : (s.raise src n).due = s.due := by
  unfold State.raise; split
  · rfl
  · dsimp only; split <;> rfl
@[simp] theorem State.raise_bids (s : State) (src : Source) (n : Nat) : (s.raise src n).bids = s.bids := by
  unfold State.raise; split
  · rfl
  · dsimp only; split <;> rfl
@[simp] theorem State.raise_pending (s : State) (src : Source) (n : Nat) : (s.raise src n).pending = s.pending := by
  unfold State.raise; split
  · rfl
  · dsimp only; split <;> rfl

@[simp] theorem State.raiseIf_inReset (s : State) (cond : Bool) (src : Source) (n : Nat) : (s.raiseIf cond src n).inReset = s.inReset := by
  unfold State.raiseIf; split <;> simp
@[simp] theorem State.raiseIf_dataLines (s : State) (cond : Bool) (src : Source) (n : Nat) : (s.raiseIf cond src n).dataLines = s.dataLines := by
  unfold State.raiseIf; split <;> simp
@[simp] theorem State.raiseIf_ports (s : State) (cond : Bool) (src : Source) (n : Nat) : (s.raiseIf cond src n).ports = s.ports := by
  unfold State.raiseIf; split <;> simp
@[simp] theorem State.raiseIf_bridges (s : State) (cond : Bool) (src : Source) (n : Nat) : (s.raiseIf cond src n).bridges = s.bridges := by
  unfold State.raiseIf; split <;> simp
@[simp] theorem State.raiseIf_bidCounter (s : State) (cond : Bool) (src : Source) (n : Nat) : (s.raiseIf cond src n).bidCounter = s.bidCounter := by
  unfold State.raiseIf; split <;> simp
@[simp] theorem State.raiseIf_plans (s : State) (cond : Bool) (src : Source) (n : Nat) : (s.raiseIf cond src n).plans = s.plans := by
  unfold State.raiseIf; split <;> simp
@[simp] theorem State.raiseIf_dir (s : State) (cond : Bool) (src : Source) (n : Nat) : (s.raiseIf cond src n).dir = s.dir := by
  unfold State.raiseIf; split <;> simp
@[simp] theorem State.raiseIf_mixer (s : State) (cond : Bool) (src : Source) (n : Nat) : (s.raiseIf cond src n).mixer = s.mixer := by
  unfold State.raiseIf; split <;> simp
@[simp] theorem State.raiseIf_console (s : State) (cond : Bool) (src : Source) (n : Nat) : (s.raiseIf cond src n).console = s.console := by
  unfold State.raiseIf; split <;> simp
@[simp] theorem State.raiseIf_watch (s : State) (cond : Bool) (src : Source) (n : Nat) : (s.raiseIf cond src n).watch = s.watch := by
  unfold State.raiseIf; split <;> simp
@[simp] theorem State.raiseIf_link (s : State) (cond : Bool) (src : Source) (n : Nat) : (s.raiseIf cond src n).link = s.link := by
  unfold State.raiseIf; split <;> simp
@[simp] theorem State.raiseIf_due (s : State) (cond : Bool) (src : Source) (n : Nat) : (s.raiseIf cond src n).due = s.due := by
  unfold State.raiseIf; split <;> simp
@[simp] theorem State.raiseIf_bids (s : State) (cond : Bool) (src : Source) (n : Nat) : (s.raiseIf cond src n).bids = s.bids := by
  unfold State.raiseIf; split <;> simp
@[simp] theorem State.raiseIf_pending (s : State) (cond : Bool) (src : Source) (n : Nat) : (s.raiseIf cond src n).pending = s.pending := by
  unfold State.raiseIf; split <;> simp

@[simp] theorem State.updatePort_inReset (s : State) (p : PortId) (f : Port → Port) : (s.updatePort p f).inReset = s.inReset := by
  unfold State.updatePort; dsimp only; split <;> simp
@[simp] theorem State.updatePort_dataLines (s : State) (p : PortId) (f : Port → Port) : (s.updatePort p f).dataLines = s.dataLines := by
  unfold State.updatePort; dsimp only; split <;> simp
@[simp] theorem State.updatePort_bridges (s : State) (p : PortId) (f : Port → Port) : (s.updatePort p f).bridges = s.bridges := by
  unfold State.updatePort; dsimp only; split <;> simp
@[simp] theorem State.updatePort_bidCounter (s : State) (p : PortId) (f : Port → Port) : (s.updatePort p f).bidCounter = s.bidCounter := by
  unfold State.updatePort; dsimp only; split <;> simp
@[simp] theorem State.updatePort_plans (s : State) (p : PortId) (f : Port → Port) : (s.updatePort p f).plans = s.plans := by
  unfold State.updatePort; dsimp only; split <;> simp
@[simp] theorem State.updatePort_dir (s : State) (p : PortId) (f : Port → Port) : (s.updatePort p f).dir = s.dir := by
  unfold State.updatePort; dsimp only; split <;> simp
@[simp] theorem State.updatePort_mixer (s : State) (p : PortId) (f : Port → Port) : (s.updatePort p f).mixer = s.mixer := by
  unfold State.updatePort; dsimp only; split <;> simp
@[simp] theorem State.updatePort_console (s : State) (p : PortId) (f : Port → Port) : (s.updatePort p f).console = s.console := by
  unfold State.updatePort; dsimp only; split <;> simp
@[simp] theorem State.updatePort_watch (s : State) (p : PortId) (f : Port → Port) : (s.updatePort p f).watch = s.watch := by
  unfold State.updatePort; dsimp only; split <;> simp
@[simp] theorem State.updatePort_link (s : State) (p : PortId) (f : Port → Port) : (s.updatePort p f).link = s.link := by
  unfold State.updatePort; dsimp only; split <;> simp
@[simp] theorem State.updatePort_due (s : State) (p : PortId) (f : Port → Port) : (s.updatePort p f).due = s.due := by
  unfold State.updatePort; dsimp only; split <;> simp
@[simp] theorem State.updatePort_bids (s : State) (p : PortId) (f : Port → Port) : (s.updatePort p f).bids = s.bids := by
  unfold State.updatePort; dsimp only; split <;> simp
@[simp] theorem State.updatePort_pending (s : State) (p : PortId) (f : Port → Port) : (s.updatePort p f).pending = s.pending := by
  unfold State.updatePort; dsimp only; split <;> simp

@[simp] theorem State.updateBridge_inReset (s : State) (b : BridgeId) (f : Bridge → Bridge) : (s.updateBridge b f).inReset = s.inReset := by
  unfold State.updateBridge; simp
@[simp] theorem State.updateBridge_dataLines (s : State) (b : BridgeId) (f : Bridge → Bridge) : (s.updateBridge b f).dataLines = s.dataLines := by
  unfold State.updateBridge; simp
@[simp] theorem State.updateBridge_ports (s : State) (b : BridgeId) (f : Bridge → Bridge) : (s.updateBridge b f).ports = s.ports := by
  unfold State.updateBridge; simp
@[simp] theorem State.updateBridge_bidCounter (s : State) (b : BridgeId) (f : Bridge → Bridge) : (s.updateBridge b f).bidCounter = s.bidCounter := by
  unfold State.updateBridge; simp
@[simp] theorem State.updateBridge_plans (s : State) (b : BridgeId) (f : Bridge → Bridge) : (s.updateBridge b f).plans = s.plans := by
  unfold State.updateBridge; simp
@[simp] theorem State.updateBridge_dir (s : State) (b : BridgeId) (f : Bridge → Bridge) : (s.updateBridge b f).dir = s.dir := by
  unfold State.updateBridge; simp
@[simp] theorem State.updateBridge_mixer (s : State) (b : BridgeId) (f : Bridge → Bridge) : (s.updateBridge b f).mixer = s.mixer := by
  unfold State.updateBridge; simp
@[simp] theorem State.updateBridge_console (s : State) (b : BridgeId) (f : Bridge → Bridge) : (s.updateBridge b f).console = s.console := by
  unfold State.updateBridge; simp
@[simp] theorem State.updateBridge_watch (s : State) (b : BridgeId) (f : Bridge → Bridge) : (s.updateBridge b f).watch = s.watch := by
  unfold State.updateBridge; simp
@[simp] theorem State.updateBridge_link (s : State) (b : BridgeId) (f : Bridge → Bridge) : (s.updateBridge b f).link = s.link := by
  unfold State.updateBridge; simp
@[simp] theorem State.updateBridge_due (s : State) (b : BridgeId) (f : Bridge → Bridge) : (s.updateBridge b f).due = s.due := by
  unfold State.updateBridge; simp
@[simp] theorem State.updateBridge_bids (s : State) (b : BridgeId) (f : Bridge → Bridge) : (s.updateBridge b f).bids = s.bids := by
  unfold State.updateBridge; simp
@[simp] theorem State.updateBridge_pending (s : State) (b : BridgeId) (f : Bridge → Bridge) : (s.updateBridge b f).pending = s.pending := by
  unfold State.updateBridge; simp

/-! ## The port or bridge that an update changes -/

@[simp] theorem State.updatePort_ports (s : State) (p : PortId) (f : Port → Port) :
    (s.updatePort p f).ports = s.ports.set p (f (s.port p)) := by
  unfold State.updatePort; dsimp only; split <;> simp [State.setPort]

@[simp] theorem State.updateBridge_bridges (s : State) (b : BridgeId) (f : Bridge → Bridge) :
    (s.updateBridge b f).bridges = s.bridges.set b (f (s.bridge b)) := by
  unfold State.updateBridge; simp [State.setBridge]

@[simp] theorem State.port_updatePort_same (s : State) (p : PortId) (f : Port → Port) :
    (s.updatePort p f).port p = f (s.port p) := by simp [State.port]

theorem State.port_updatePort_ne (s : State) {p r : PortId} (f : Port → Port) (h : p ≠ r) :
    (s.updatePort p f).port r = s.port r := by
  have h' : (p : Nat) ≠ r := fun e => h (Fin.ext e)
  simp [State.port, h']

@[simp] theorem State.bridge_updateBridge_same (s : State) (b : BridgeId) (f : Bridge → Bridge) :
    (s.updateBridge b f).bridge b = f (s.bridge b) := by simp [State.bridge]

theorem State.bridge_updateBridge_ne (s : State) {b c : BridgeId} (f : Bridge → Bridge) (h : b ≠ c) :
    (s.updateBridge b f).bridge c = s.bridge c := by
  have h' : (b : Nat) ≠ c := fun e => h (Fin.ext e)
  simp [State.bridge, h']

/-! ## What the notice unit does to its own fields -/

@[simp] theorem State.setPending_flags (s : State) (src : Source) :
    (s.setPending src).notices.flags = s.notices.flags := rfl

@[simp] theorem State.setPending_masks (s : State) (src : Source) :
    (s.setPending src).notices.masks = s.notices.masks := rfl

@[simp] theorem State.setPending_switches (s : State) (src : Source) :
    (s.setPending src).notices.switches = s.notices.switches := rfl

@[simp] theorem State.setPending_started (s : State) (src : Source) :
    (s.setPending src).notices.started = s.notices.started := rfl

@[simp] theorem State.reportChange_flags (s : State) (src : Source) :
    (s.reportChange src).notices.flags = s.notices.flags := by
  unfold State.reportChange; split <;> rfl

@[simp] theorem State.reportIf_flags (s : State) (changed : Bool) (src : Source) :
    (s.reportIf changed src).notices.flags = s.notices.flags := by
  unfold State.reportIf; split <;> simp

@[simp] theorem State.updatePort_flags (s : State) (p : PortId) (f : Port → Port) :
    (s.updatePort p f).notices.flags = s.notices.flags := by
  unfold State.updatePort; dsimp only; split <;> simp

@[simp] theorem State.updateBridge_flags (s : State) (b : BridgeId) (f : Bridge → Bridge) :
    (s.updateBridge b f).notices.flags = s.notices.flags := by
  unfold State.updateBridge; simp

@[simp] theorem State.reportChange_masks (s : State) (src : Source) :
    (s.reportChange src).notices.masks = s.notices.masks := by
  unfold State.reportChange; split <;> rfl

@[simp] theorem State.reportIf_masks (s : State) (changed : Bool) (src : Source) :
    (s.reportIf changed src).notices.masks = s.notices.masks := by
  unfold State.reportIf; split <;> simp

@[simp] theorem State.updatePort_masks (s : State) (p : PortId) (f : Port → Port) :
    (s.updatePort p f).notices.masks = s.notices.masks := by
  unfold State.updatePort; dsimp only; split <;> simp

@[simp] theorem State.updateBridge_masks (s : State) (b : BridgeId) (f : Bridge → Bridge) :
    (s.updateBridge b f).notices.masks = s.notices.masks := by
  unfold State.updateBridge; simp

@[simp] theorem State.reportChange_switches (s : State) (src : Source) :
    (s.reportChange src).notices.switches = s.notices.switches := by
  unfold State.reportChange; split <;> rfl

@[simp] theorem State.reportIf_switches (s : State) (changed : Bool) (src : Source) :
    (s.reportIf changed src).notices.switches = s.notices.switches := by
  unfold State.reportIf; split <;> simp

@[simp] theorem State.updatePort_switches (s : State) (p : PortId) (f : Port → Port) :
    (s.updatePort p f).notices.switches = s.notices.switches := by
  unfold State.updatePort; dsimp only; split <;> simp

@[simp] theorem State.updateBridge_switches (s : State) (b : BridgeId) (f : Bridge → Bridge) :
    (s.updateBridge b f).notices.switches = s.notices.switches := by
  unfold State.updateBridge; simp

@[simp] theorem State.reportChange_started (s : State) (src : Source) :
    (s.reportChange src).notices.started = s.notices.started := by
  unfold State.reportChange; split <;> rfl

@[simp] theorem State.reportIf_started (s : State) (changed : Bool) (src : Source) :
    (s.reportIf changed src).notices.started = s.notices.started := by
  unfold State.reportIf; split <;> simp

@[simp] theorem State.updatePort_started (s : State) (p : PortId) (f : Port → Port) :
    (s.updatePort p f).notices.started = s.notices.started := by
  unfold State.updatePort; dsimp only; split <;> simp

@[simp] theorem State.updateBridge_started (s : State) (b : BridgeId) (f : Bridge → Bridge) :
    (s.updateBridge b f).notices.started = s.notices.started := by
  unfold State.updateBridge; simp

@[simp] theorem State.raise_masks (s : State) (src : Source) (n : Nat) :
    (s.raise src n).notices.masks = s.notices.masks := by
  unfold State.raise; split
  · rfl
  · dsimp only; split <;> rfl

@[simp] theorem State.raise_switches (s : State) (src : Source) (n : Nat) :
    (s.raise src n).notices.switches = s.notices.switches := by
  unfold State.raise; split
  · rfl
  · dsimp only; split <;> rfl

@[simp] theorem State.raise_started (s : State) (src : Source) (n : Nat) :
    (s.raise src n).notices.started = s.notices.started := by
  unfold State.raise; split
  · rfl
  · dsimp only; split <;> rfl

end Sys2Proof.Machine
end

