-- ==== Sys2Proof/Laws/Backdrop.lean ====
section
/-! SUPPORT. Arbitration and keying leave the backdrop alone: one lemma for each of their operations, which says once what
it cannot change. -/

namespace Sys2Proof.Machine

/-! ## Updates of one port or bridge -/

/-- A list of places mapped by a projection does not notice a write that the projection does not see. -/
theorem map_set_eq {α β : Type} {n : Nat} (v : Vector α n) (f : α → β) (i : Nat) (h : i < n) (x : α)
    (hx : f x = f v[i]) : (v.set i x).map f = v.map f := by
  ext j hj
  simp only [Vector.getElem_map, Vector.getElem_set]
  split
  · subst_vars; exact hx
  · rfl

theorem setPort_backdrop (s : State) (p : PortId) (q : Port)
    (h : q.backdrop = (s.port p).backdrop) : (s.setPort p q).backdrop = s.backdrop := by
  simp only [State.backdrop, State.setPort]
  rw [map_set_eq _ _ _ _ _ h]

theorem setBridge_backdrop (s : State) (b : BridgeId) (r : Bridge)
    (h : r.backdrop = (s.bridge b).backdrop) : (s.setBridge b r).backdrop = s.backdrop := by
  simp only [State.backdrop, State.setBridge]
  rw [map_set_eq _ _ _ _ _ h]

@[simp] theorem setPending_backdrop (s : State) (src : Source) :
    (s.setPending src).backdrop = s.backdrop := rfl

@[simp] theorem reportChange_backdrop (s : State) (src : Source) :
    (s.reportChange src).backdrop = s.backdrop := by
  unfold State.reportChange; split <;> rfl

@[simp] theorem reportIf_backdrop (s : State) (changed : Bool) (src : Source) :
    (s.reportIf changed src).backdrop = s.backdrop := by
  unfold State.reportIf; split <;> simp

@[simp] theorem raise_backdrop (s : State) (src : Source) (n : Nat) :
    (s.raise src n).backdrop = s.backdrop := by
  unfold State.raise; split
  · rfl
  · dsimp only; split <;> rfl

@[simp] theorem raiseIf_backdrop (s : State) (cond : Bool) (src : Source) (n : Nat) :
    (s.raiseIf cond src n).backdrop = s.backdrop := by
  unfold State.raiseIf; split <;> simp

theorem updatePort_backdrop (s : State) (p : PortId) (f : Port → Port)
    (h : (f (s.port p)).backdrop = (s.port p).backdrop) : (s.updatePort p f).backdrop = s.backdrop := by
  unfold State.updatePort; dsimp only; split <;> simp [setPort_backdrop _ _ _ h]

theorem updateBridge_backdrop (s : State) (b : BridgeId) (f : Bridge → Bridge)
    (h : (f (s.bridge b)).backdrop = (s.bridge b).backdrop) :
    (s.updateBridge b f).backdrop = s.backdrop := by
  unfold State.updateBridge; simp [setBridge_backdrop _ _ _ h]

/-! ## The arbiter -/

@[simp] theorem preempt_backdrop (s : State) (b : BridgeId) (who : Talker) (stamp : Stamp) :
    (s.preempt b who stamp).backdrop = s.backdrop := by
  unfold State.preempt; simp only [raiseIf_backdrop]
  exact updateBridge_backdrop _ _ _ rfl

@[simp] theorem bidCounter_backdrop (s : State) (n : Stamp) :
    ({ s with bidCounter := n } : State).backdrop = s.backdrop := rfl

@[simp] theorem bid_backdrop (s : State) (b : BridgeId) (who : Talker) :
    (s.bid b who).backdrop = s.backdrop := by
  unfold State.bid
  have filtered (t : State) (p : PortId) : (t.updateBridge b fun r =>
      { r with stack := r.stack.filter fun e => !(e.port == p && e.tag == Tag.empty) }).backdrop
        = t.backdrop := updateBridge_backdrop _ _ _ rfl
  cases who with
  | con =>
    dsimp only; split
    · exact updateBridge_backdrop _ _ _ rfl
    · simp
  | port p =>
    dsimp only; split
    · rw [updateBridge_backdrop _ _ _ rfl, filtered]; rfl
    · split
      · rw [preempt_backdrop, filtered]; rfl
      · rw [updateBridge_backdrop _ _ _ rfl, filtered]; rfl

@[simp] theorem release_backdrop (s : State) (b : BridgeId) : (s.release b).backdrop = s.backdrop := by
  unfold State.release
  refine updateBridge_backdrop _ _ _ ?_
  dsimp only; split <;> try rfl
  split <;> rfl

@[simp] theorem leavePlace_backdrop (s : State) (b : BridgeId) (p : PortId) :
    (s.leavePlace b p).backdrop = s.backdrop := by
  unfold State.leavePlace; split
  · simp
  · exact updateBridge_backdrop _ _ _ rfl

@[simp] theorem takePriority_backdrop (s : State) (b : BridgeId) (p : PortId) :
    (s.takePriority b p).backdrop = s.backdrop := by
  unfold State.takePriority
  split
  · rfl
  · split
    · exact updateBridge_backdrop _ _ _ rfl
    · split
      · rfl
      · dsimp only; split
        · rw [preempt_backdrop, updateBridge_backdrop _ _ _ rfl, updateBridge_backdrop _ _ _ rfl]
        · exact updateBridge_backdrop _ _ _ rfl

@[simp] theorem consoleLeave_backdrop (s : State) (b : BridgeId) :
    (s.consoleLeave b).backdrop = s.backdrop := by
  unfold State.consoleLeave; split <;> simp

/-! ## Engagement and the key machines -/

@[simp] theorem bids_backdrop (s : State) (ps : List PortId) :
    ({ s with bids := ps } : State).backdrop = s.backdrop := rfl

@[simp] theorem beginEngagement_backdrop (s : State) (barred : Bool) (p : PortId) :
    (s.beginEngagement barred p).backdrop = s.backdrop := by
  unfold State.beginEngagement; dsimp only
  split
  · rw [bids_backdrop]; exact updatePort_backdrop _ _ _ rfl
  · exact updatePort_backdrop _ _ _ rfl

@[simp] theorem endEngagement_backdrop (s : State) (p : PortId) :
    (s.endEngagement p).backdrop = s.backdrop := by
  unfold State.endEngagement; dsimp only
  rw [updatePort_backdrop _ _ _ rfl]
  split
  · rw [leavePlace_backdrop]; exact updatePort_backdrop _ _ _ rfl
  · exact updatePort_backdrop _ _ _ rfl

@[simp] theorem judgeEngagement_backdrop (s : State) (barred : Bool) (p : PortId) :
    (s.judgeEngagement barred p).backdrop = s.backdrop := by
  unfold State.judgeEngagement; dsimp only; split
  · simp
  · split <;> simp

@[simp] theorem takeBid_backdrop (s : State) (p : PortId) : (s.takeBid p).backdrop = s.backdrop := by
  unfold State.takeBid; dsimp only; split
  · split <;> simp
  · rfl

@[simp] theorem setKey_backdrop (s : State) (p : PortId) (k : KeyState) (timing keyUp : Nat) :
    (s.setKey p k timing keyUp).backdrop = s.backdrop := updatePort_backdrop _ _ _ rfl

@[simp] theorem enterKeyed_backdrop (s : State) (p : PortId) :
    (s.enterKeyed p).backdrop = s.backdrop := by simp [State.enterKeyed]

@[simp] theorem enterIdle_backdrop (s : State) (barred : Bool) (p : PortId) :
    (s.enterIdle barred p).backdrop = s.backdrop := by simp [State.enterIdle]

@[simp] theorem enterBlank_backdrop (s : State) (barred : Bool) (p : PortId) :
    (s.enterBlank barred p).backdrop = s.backdrop := by
  unfold State.enterBlank; dsimp only; split <;> simp

@[simp] theorem enterHang_backdrop (s : State) (p : PortId) :
    (s.enterHang p).backdrop = s.backdrop := by
  unfold State.enterHang; dsimp only; split <;> simp

@[simp] theorem enterDrain_backdrop (s : State) (p : PortId) :
    (s.enterDrain p).backdrop = s.backdrop := by
  unfold State.enterDrain; dsimp only; split <;> simp

@[simp] theorem enterCool_backdrop (s : State) (p : PortId) :
    (s.enterCool p).backdrop = s.backdrop := by simp [State.enterCool]

@[simp] theorem judgeKey_backdrop (s : State) (p : PortId) : (s.judgeKey p).backdrop = s.backdrop := by
  unfold State.judgeKey
  dsimp only
  split <;> try rfl
  split <;> repeat' (first | rfl | split | simp only [setKey_backdrop, enterKeyed_backdrop,
    enterDrain_backdrop])

/-- An operation over one port, taken for every port of a list, keeps what it keeps for one. -/
theorem foldl_backdrop {α : Type} (f : State → α → State)
    (h : ∀ s a, (f s a).backdrop = s.backdrop) (l : List α) (s : State) :
    (l.foldl f s).backdrop = s.backdrop := by
  induction l generalizing s with
  | nil => rfl
  | cons a l ih => rw [List.foldl_cons, ih, h]

@[simp] theorem takeHandedBids_backdrop (s : State) : s.takeHandedBids.backdrop = s.backdrop := by
  unfold State.takeHandedBids; rw [foldl_backdrop _ takeBid_backdrop, bids_backdrop]

@[simp] theorem actKey_backdrop (s : State) (p : PortId) : (s.actKey p).backdrop = s.backdrop := by
  simp [State.actKey]

@[simp] theorem actAll_backdrop (s : State) : s.actAll.backdrop = s.backdrop :=
  foldl_backdrop _ actKey_backdrop _ _

@[simp] theorem resolve_backdrop (n : Nat) (s : State) : (State.resolve n s).backdrop = s.backdrop := by
  induction n generalizing s with
  | zero => rfl
  | succ n ih =>
    unfold State.resolve; split
    · rfl
    · rw [ih, actAll_backdrop]

/-- Whatever an event hands on, the backdrop stands. -/
@[simp] theorem handOn_backdrop (s : State) : s.handOn.backdrop = s.backdrop := by
  rw [State.handOn, resolve_backdrop, takeHandedBids_backdrop]

@[simp] theorem handPriority_backdrop (s : State) (p : PortId) (old : Nat) :
    (s.handPriority p old).backdrop = s.backdrop := by
  unfold State.handPriority; split
  · rfl
  · split <;> simp

@[simp] theorem clearKey_backdrop (s : State) (p : PortId) : (s.clearKey p).backdrop = s.backdrop := by
  unfold State.clearKey; dsimp only
  split <;> repeat' (first | rfl | split | simp only [setKey_backdrop, enterBlank_backdrop,
    enterIdle_backdrop])

@[simp] theorem cut_backdrop (s : State) (b : BridgeId) (who : Talker) :
    (s.cut b who).backdrop = s.backdrop := by
  unfold State.cut
  simp only [handOn_backdrop, raise_backdrop, release_backdrop]
  split
  · split
    · exact updatePort_backdrop _ _ _ rfl
    · rfl
  · rfl

@[simp] theorem keyTick_backdrop (s : State) (p : PortId) : (s.keyTick p).backdrop = s.backdrop := by
  unfold State.keyTick
  have counted : (s.setPort p (s.port p).keyCounted).backdrop = s.backdrop := by
    apply setPort_backdrop
    unfold Port.keyCounted; dsimp only; split <;> rfl
  dsimp only
  rw [handOn_backdrop]
  repeat' (first | exact counted | split | simp only [enterCool_backdrop, enterHang_backdrop,
    enterBlank_backdrop, enterIdle_backdrop, judgeEngagement_backdrop])

end Sys2Proof.Machine
end

