-- ==== Sys2Proof/Laws/Commands.lean ====
section
/-! SUPPORT. How a command is taken, said once: at rest, in reset, as a request that the link is ready for; and an event
that hands nothing on. -/

namespace Sys2Proof.Machine

/-- With nothing due, nothing is settled. -/
theorem settle_of_due_nil {s : State} (h : s.due = []) : s.settle = s := by
  unfold State.settle; rw [h, List.foldl_nil, ← h]

/-- A command that is no event acts on the state as it stands, where nothing is due. -/
theorem operate_of_calm {s : State} (h : s.calm) (f : State → State) : operate f s = .next (f s) := by
  simp [operate, h.1, settle_of_due_nil h.2]

/-- While RESET is asserted a command does nothing. -/
theorem operate_of_inReset {s : State} (h : s.inReset = true) (f : State → State) : operate f s = .next s := by
  simp [operate, h]

/-- While RESET is asserted an event does nothing. -/
theorem event_of_inReset {s : State} (h : s.inReset = true) (d : Due) (c : State → Bool) :
    event d c s = .next s := by simp [event, h]

/-- An event that is due and comes about is taken, and no other. -/
theorem event_of_due {s : State} {d : Due} {c : State → Bool} (hr : s.inReset = false) (hd : d ∈ s.due)
    (hc : c s = true) : event d c s = .next (State.takeDue { s with due := s.due.erase d } d) := by
  simp [event, State.takeNamed, hr, hd, hc]

/-- An event that is not due, or does not come about, changes nothing. -/
theorem event_of_not {s : State} {d : Due} {c : State → Bool} (h : d ∉ s.due ∨ c s = false) :
    event d c s = .next s := by
  rcases h with h | h <;> simp [event, State.takeNamed, h]

/-- What stands for the reply takes the reserved place, which is the last. -/
theorem fillPlace_reserved {replies : List Place} (h : Place.reserved ∉ replies) (place : Place) :
    fillPlace place (replies ++ [.reserved]) = replies ++ [place] := by
  have : ∀ x ∈ replies, (if x = Place.reserved then place else x) = x := by
    intro x hx; split
    · subst_vars; exact absurd hx h
    · rfl
  simp [fillPlace, List.map_congr_left this]

/-- The state in which an accepted request acts: its place reserved, its frame complete. -/
def State.accepting (s : State) : State := s.reserve.endReception

@[simp] theorem accepting_ports (s : State) : s.accepting.ports = s.ports := rfl
@[simp] theorem accepting_bridges (s : State) : s.accepting.bridges = s.bridges := rfl
@[simp] theorem accepting_plans (s : State) : s.accepting.plans = s.plans := rfl
@[simp] theorem accepting_dir (s : State) : s.accepting.dir = s.dir := rfl
@[simp] theorem accepting_mixer (s : State) : s.accepting.mixer = s.mixer := rfl
@[simp] theorem accepting_console (s : State) : s.accepting.console = s.console := rfl
@[simp] theorem accepting_watch (s : State) : s.accepting.watch = s.watch := rfl
@[simp] theorem accepting_notices (s : State) : s.accepting.notices = s.notices := rfl
@[simp] theorem accepting_bids (s : State) : s.accepting.bids = s.bids := rfl

/-- A request that the link is ready for acts whole in the accepting state, and its reply is formed. -/
theorem request_of_ready {s : State} (h : s.linkReady) (kind : Byte) {pl : List Byte}
    (hl : pl.length ≤ Config.maxPayload) (act : Action) :
    request kind pl act s = .next ((act s.accepting).1.formReply kind (act s.accepting).2) := by
  obtain ⟨hc, hr, -, hp⟩ := h
  have hp' : s.reserve.endReception.plans.switchPending = false := hp
  simp [request, operate_of_calm hc, State.takeFrame, hr, hl, State.answerFrame, hp', State.accepting]

/-- A reply formed over a state that the request has left at the accepting link. -/
theorem formReply_of_link {s t : State} (h : s.linkReady) (ht : t.link = s.accepting.link) (kind : Byte)
    (a : Answer) : t.formReply kind (some a) = ({ t with link := s.link } : State).answered kind a.payload := by
  obtain ⟨-, -, hn, -⟩ := h
  simp only [State.formReply, State.answered, ht, State.accepting, State.endReception, State.reserve,
    fillPlace_reserved hn]

/-- A request that changes nothing is only answered. -/
theorem request_unchanged {s : State} (h : s.linkReady) (kind : Byte) {pl : List Byte}
    (hl : pl.length ≤ Config.maxPayload) {act : Action} {a : Answer}
    (hact : act s.accepting = (s.accepting, some a)) :
    request kind pl act s = .next (s.answered kind a.payload) := by
  rw [request_of_ready h kind hl, hact, formReply_of_link h rfl]; rfl

/-- A key machine at rest judges to the state it is in. -/
theorem judgeKey_of_atRest {s : State} {p : PortId} (h : s.keyAtRest p) : s.judgeKey p = s := by
  unfold State.judgeKey State.keyAtRest at *
  dsimp only
  split
  · rename_i ha
    have h := h ha
    split <;> simp_all
  · rfl

/-- The test of the model and the condition of the statements agree. -/
theorem keyResting_iff (s : State) (p : PortId) : s.keyResting p = true ↔ s.keyAtRest p := by
  simp only [State.keyResting, State.keyAtRest, Bool.or_eq_true, bne_iff_ne, ne_eq, Decidable.imp_iff_not_or]
  generalize (s.port p).key = k
  cases k <;> simp [and_assoc]

theorem takeHandedBids_of_nil {s : State} (h : s.bids = []) : s.takeHandedBids = s := by
  cases s; simp_all [State.takeHandedBids]

/-- A single bid on its way reaches its arbiter, and none is left over. -/
theorem takeHandedBids_of_one {s : State} {p : PortId} (h : s.bids = [p]) :
    s.takeHandedBids = ({ s with bids := [] } : State).takeBid p := by
  simp [State.takeHandedBids, h]

theorem allResting_of_quiet {s : State} (h : s.quiet) : allPorts.all s.keyResting = true :=
  List.all_eq_true.mpr fun p _ => (keyResting_iff s p).mpr (h.2 p)

theorem resolve_of_quiet {s : State} (h : s.quiet) (n : Nat) : State.resolve n s = s := by
  cases n <;> simp [State.resolve, allResting_of_quiet h]

/-- Where no key machine has anything to act on and no bid is on its way, nothing is handed on. -/
theorem handOn_of_quiet {s : State} (h : s.quiet) : s.handOn = s := by
  rw [State.handOn, takeHandedBids_of_nil h.1, resolve_of_quiet h]

end Sys2Proof.Machine
end

