-- ==== Sys2Proof/Laws/Link.lean ====
section
/-! SUPPORT. Arbitration and keying neither read nor write the supervisory link: each of their operations does on a state
with another link what it does on the state, with that link kept. A request acts with its place reserved, so these lemmas
carry what it does over to the state before. -/

namespace Sys2Proof.Machine

/-! ## What is read -/

@[simp] theorem port_withLink (s : State) (l : Link) (p : PortId) : (s.withLink l).port p = s.port p := rfl

@[simp] theorem bridge_withLink (s : State) (l : Link) (b : BridgeId) : (s.withLink l).bridge b = s.bridge b := rfl

@[simp] theorem record_withLink (s : State) (l : Link) (b : BridgeId) : (s.withLink l).record b = s.record b := rfl

@[simp] theorem bids_withLink (s : State) (l : Link) : (s.withLink l).bids = s.bids := rfl

@[simp] theorem bidCounter_withLink (s : State) (l : Link) : (s.withLink l).bidCounter = s.bidCounter := rfl

@[simp] theorem notices_withLink (s : State) (l : Link) : (s.withLink l).notices = s.notices := rfl

@[simp] theorem plans_withLink (s : State) (l : Link) : (s.withLink l).plans = s.plans := rfl

@[simp] theorem activeRecords_withLink (s : State) (l : Link) : (s.withLink l).activeRecords = s.activeRecords := rfl

@[simp] theorem memberOf_withLink (s : State) (l : Link) (p : PortId) : (s.withLink l).memberOf p = s.memberOf p := rfl

@[simp] theorem effPriority_withLink (s : State) (l : Link) (p : PortId) :
    (s.withLink l).effPriority p = s.effPriority p := rfl

@[simp] theorem talkerPriority_withLink (s : State) (l : Link) (w : Talker) :
    (s.withLink l).talkerPriority w = s.talkerPriority w := by cases w <;> rfl

@[simp] theorem demand_withLink (s : State) (l : Link) (p : PortId) : (s.withLink l).demand p = s.demand p := rfl

@[simp] theorem overrideKey_withLink (s : State) (l : Link) (p : PortId) :
    (s.withLink l).overrideKey p = s.overrideKey p := rfl

@[simp] theorem keyResting_withLink (s : State) (l : Link) : (s.withLink l).keyResting = s.keyResting := rfl

@[simp] theorem freshTimer_withLink (s : State) (l : Link) (b : BridgeId) :
    (s.withLink l).freshTimer b = s.freshTimer b := rfl

@[simp] theorem grantTimer_withLink (s : State) (l : Link) (b : BridgeId) (w : Talker) :
    (s.withLink l).grantTimer b w = s.grantTimer b w := by cases w <;> rfl

@[simp] theorem insertEntry_withLink (s : State) (l : Link) (e : QueueEntry) (q : List QueueEntry) :
    (s.withLink l).insertEntry e q = s.insertEntry e q := by
  induction q with
  | nil => rfl
  | cons x xs ih => unfold State.insertEntry; rw [ih]; rfl

@[simp] theorem sortQueue_withLink (s : State) (l : Link) (q : List QueueEntry) :
    (s.withLink l).sortQueue q = s.sortQueue q := by
  unfold State.sortQueue; congr 1; funext e q; simp

@[simp] theorem spill_withLink (s : State) (l : Link) (st : List StackEntry) (q : List QueueEntry) :
    (s.withLink l).spill st q = s.spill st q := by unfold State.spill; simp

/-! ## Updates of one port, bridge or source -/

@[simp] theorem setPort_withLink (s : State) (l : Link) (p : PortId) (q : Port) :
    (s.withLink l).setPort p q = (s.setPort p q).withLink l := rfl

@[simp] theorem setBridge_withLink (s : State) (l : Link) (b : BridgeId) (r : Bridge) :
    (s.withLink l).setBridge b r = (s.setBridge b r).withLink l := rfl

@[simp] theorem setPending_withLink (s : State) (l : Link) (src : Source) :
    (s.withLink l).setPending src = (s.setPending src).withLink l := rfl

@[simp] theorem reportChange_withLink (s : State) (l : Link) (src : Source) :
    (s.withLink l).reportChange src = (s.reportChange src).withLink l := by
  simp only [State.reportChange, notices_withLink, setPending_withLink, apply_ite (State.withLink l)]; rfl

@[simp] theorem reportIf_withLink (s : State) (l : Link) (changed : Bool) (src : Source) :
    (s.withLink l).reportIf changed src = (s.reportIf changed src).withLink l := by
  unfold State.reportIf; split <;> simp

@[simp] theorem raise_withLink (s : State) (l : Link) (src : Source) (n : Nat) :
    (s.withLink l).raise src n = (s.raise src n).withLink l := by
  simp only [State.raise, apply_ite (State.withLink l)]; rfl

@[simp] theorem raiseIf_withLink (s : State) (l : Link) (cond : Bool) (src : Source) (n : Nat) :
    (s.withLink l).raiseIf cond src n = (s.raiseIf cond src n).withLink l := by
  unfold State.raiseIf; split <;> simp

@[simp] theorem updatePort_withLink (s : State) (l : Link) (p : PortId) (f : Port → Port) :
    (s.withLink l).updatePort p f = (s.updatePort p f).withLink l := by
  simp only [State.updatePort, port_withLink, setPort_withLink, reportIf_withLink, setPending_withLink,
    apply_ite (State.withLink l)]

@[simp] theorem updateBridge_withLink (s : State) (l : Link) (b : BridgeId) (f : Bridge → Bridge) :
    (s.withLink l).updateBridge b f = (s.updateBridge b f).withLink l := by
  unfold State.updateBridge; simp

@[simp] theorem setBids_withLink (s : State) (l : Link) (ps : List PortId) :
    ({ s.withLink l with bids := ps } : State) = ({ s with bids := ps } : State).withLink l := rfl

@[simp] theorem setBidCounter_withLink (s : State) (l : Link) (n : Stamp) :
    ({ s.withLink l with bidCounter := n } : State) = ({ s with bidCounter := n } : State).withLink l := rfl

/-- An operation over one place, taken for every place of a list, reads no link if it reads none for one. -/
theorem foldl_withLink {α : Type} (f : State → α → State)
    (h : ∀ s l a, f (s.withLink l) a = (f s a).withLink l) (xs : List α) (s : State) (l : Link) :
    xs.foldl f (s.withLink l) = (xs.foldl f s).withLink l := by
  induction xs generalizing s with
  | nil => rfl
  | cons a xs ih => rw [List.foldl_cons, List.foldl_cons, h, ih]

/-! ## The arbiter -/

@[simp] theorem preempt_withLink (s : State) (l : Link) (b : BridgeId) (who : Talker) (stamp : Stamp) :
    (s.withLink l).preempt b who stamp = (s.preempt b who stamp).withLink l := by
  simp only [State.preempt, bridge_withLink, spill_withLink, talkerPriority_withLink, grantTimer_withLink,
    updateBridge_withLink, raiseIf_withLink]; rfl

@[simp] theorem bid_withLink (s : State) (l : Link) (b : BridgeId) (who : Talker) :
    (s.withLink l).bid b who = (s.bid b who).withLink l := by
  cases who with
  | con =>
    simp only [State.bid, bidCounter_withLink, setBidCounter_withLink, bridge_withLink, updateBridge_withLink,
      preempt_withLink, talkerPriority_withLink, grantTimer_withLink]
    split <;> rfl
  | port p =>
    simp only [State.bid, bidCounter_withLink, setBidCounter_withLink, updateBridge_withLink, bridge_withLink,
      preempt_withLink, talkerPriority_withLink, grantTimer_withLink, record_withLink, effPriority_withLink,
      insertEntry_withLink]
    split
    · rfl
    · rw [apply_ite (State.withLink l)]

@[simp] theorem release_withLink (s : State) (l : Link) (b : BridgeId) :
    (s.withLink l).release b = (s.release b).withLink l := by
  simp only [State.release, effPriority_withLink, freshTimer_withLink, updateBridge_withLink]; rfl

@[simp] theorem leavePlace_withLink (s : State) (l : Link) (b : BridgeId) (p : PortId) :
    (s.withLink l).leavePlace b p = (s.leavePlace b p).withLink l := by
  simp only [State.leavePlace, bridge_withLink, release_withLink, updateBridge_withLink,
    apply_ite (State.withLink l)]

@[simp] theorem takePriority_withLink (s : State) (l : Link) (b : BridgeId) (p : PortId) :
    (s.withLink l).takePriority b p = (s.takePriority b p).withLink l := by
  simp only [State.takePriority, bridge_withLink, updateBridge_withLink, record_withLink, effPriority_withLink,
    sortQueue_withLink, preempt_withLink]
  cases (s.bridge b).holder with
  | none => rfl
  | some h =>
    rw [apply_ite (State.withLink l)]
    cases (s.bridge b).queue.find? (·.port == p) with
    | none => rfl
    | some e => rw [apply_ite (State.withLink l)]

@[simp] theorem consoleLeave_withLink (s : State) (l : Link) (b : BridgeId) :
    (s.withLink l).consoleLeave b = (s.consoleLeave b).withLink l := by
  simp only [State.consoleLeave, bridge_withLink, release_withLink, apply_ite (State.withLink l)]

/-! ## Engagement and the key machines -/

@[simp] theorem beginEngagement_withLink (s : State) (l : Link) (barred : Bool) (p : PortId) :
    (s.withLink l).beginEngagement barred p = (s.beginEngagement barred p).withLink l := by
  simp only [State.beginEngagement, port_withLink, updatePort_withLink, bids_withLink, setBids_withLink,
    apply_ite (State.withLink l)]

@[simp] theorem endEngagement_withLink (s : State) (l : Link) (p : PortId) :
    (s.withLink l).endEngagement p = (s.endEngagement p).withLink l := by
  simp only [State.endEngagement, updatePort_withLink, memberOf_withLink, leavePlace_withLink]
  cases State.memberOf _ p <;> simp only [updatePort_withLink]

@[simp] theorem judgeEngagement_withLink (s : State) (l : Link) (barred : Bool) (p : PortId) :
    (s.withLink l).judgeEngagement barred p = (s.judgeEngagement barred p).withLink l := by
  simp only [State.judgeEngagement, port_withLink, beginEngagement_withLink, endEngagement_withLink,
    apply_ite (State.withLink l)]

@[simp] theorem takeBid_withLink (s : State) (l : Link) (p : PortId) :
    (s.withLink l).takeBid p = (s.takeBid p).withLink l := by
  simp only [State.takeBid, memberOf_withLink, port_withLink, bridge_withLink, bid_withLink]
  cases s.memberOf p with
  | none => rfl
  | some b => rw [apply_ite (State.withLink l)]

@[simp] theorem setKey_withLink (s : State) (l : Link) (p : PortId) (k : KeyState) (timing keyUp : Nat) :
    (s.withLink l).setKey p k timing keyUp = (s.setKey p k timing keyUp).withLink l := by simp [State.setKey]

@[simp] theorem enterKeyed_withLink (s : State) (l : Link) (p : PortId) :
    (s.withLink l).enterKeyed p = (s.enterKeyed p).withLink l := by simp [State.enterKeyed]

@[simp] theorem enterIdle_withLink (s : State) (l : Link) (barred : Bool) (p : PortId) :
    (s.withLink l).enterIdle barred p = (s.enterIdle barred p).withLink l := by simp [State.enterIdle]

@[simp] theorem enterBlank_withLink (s : State) (l : Link) (barred : Bool) (p : PortId) :
    (s.withLink l).enterBlank barred p = (s.enterBlank barred p).withLink l := by
  simp only [State.enterBlank, port_withLink, setKey_withLink, enterIdle_withLink, apply_ite (State.withLink l)]

@[simp] theorem enterHang_withLink (s : State) (l : Link) (p : PortId) :
    (s.withLink l).enterHang p = (s.enterHang p).withLink l := by
  simp only [State.enterHang, port_withLink, setKey_withLink, enterBlank_withLink, apply_ite (State.withLink l)]

@[simp] theorem enterDrain_withLink (s : State) (l : Link) (p : PortId) :
    (s.withLink l).enterDrain p = (s.enterDrain p).withLink l := by
  simp only [State.enterDrain, port_withLink, setKey_withLink, enterHang_withLink, apply_ite (State.withLink l)]

@[simp] theorem judgeKey_withLink (s : State) (l : Link) (p : PortId) :
    (s.withLink l).judgeKey p = (s.judgeKey p).withLink l := by
  simp only [State.judgeKey, port_withLink, demand_withLink, overrideKey_withLink, setKey_withLink,
    enterKeyed_withLink, enterDrain_withLink]
  generalize (s.port p).key = k
  cases k <;> simp only [apply_ite (State.withLink l)]

@[simp] theorem takeHandedBids_withLink (s : State) (l : Link) :
    (s.withLink l).takeHandedBids = s.takeHandedBids.withLink l := by
  unfold State.takeHandedBids
  rw [bids_withLink, setBids_withLink, foldl_withLink _ takeBid_withLink]

@[simp] theorem actKey_withLink (s : State) (l : Link) (p : PortId) :
    (s.withLink l).actKey p = (s.actKey p).withLink l := by simp [State.actKey]

@[simp] theorem actAll_withLink (s : State) (l : Link) : (s.withLink l).actAll = s.actAll.withLink l :=
  foldl_withLink _ actKey_withLink _ _ _

@[simp] theorem resolve_withLink (n : Nat) (s : State) (l : Link) :
    State.resolve n (s.withLink l) = (State.resolve n s).withLink l := by
  induction n generalizing s with
  | zero => rfl
  | succ n ih => unfold State.resolve; rw [keyResting_withLink, actAll_withLink, ih, apply_ite (State.withLink l)]

/-- What an event hands on is handed on alike over every link. -/
@[simp] theorem handOn_withLink (s : State) (l : Link) : (s.withLink l).handOn = s.handOn.withLink l := by
  simp [State.handOn]

@[simp] theorem handPriority_withLink (s : State) (l : Link) (p : PortId) (old : Nat) :
    (s.withLink l).handPriority p old = (s.handPriority p old).withLink l := by
  simp only [State.handPriority, effPriority_withLink, port_withLink, memberOf_withLink, takePriority_withLink,
    handOn_withLink]
  rw [apply_ite (State.withLink l)]; congr 1
  cases s.memberOf p <;> rfl

/-! ## The switch, the console and emergencies -/

@[simp] theorem removeNonMembers_withLink (s : State) (l : Link) (b : BridgeId) :
    (s.withLink l).removeNonMembers b = (s.removeNonMembers b).withLink l := by
  have leaving (x : State) : (match (x.bridge b).holder with
      | some h => match h.who with
        | .port p => if (s.record b).members.getLsbD p then x.withLink l else (x.release b).withLink l
        | .con => x.withLink l
      | none => x.withLink l)
      = State.withLink l (match (x.bridge b).holder with
        | some h => match h.who with
          | .port p => if (s.record b).members.getLsbD p then x else x.release b
          | .con => x
        | none => x) := by
    cases (x.bridge b).holder with
    | none => rfl
    | some h =>
      obtain ⟨who, _, _, _⟩ := h
      cases who with
      | port p => dsimp only; rw [apply_ite (State.withLink l)]
      | con => rfl
  simp only [State.removeNonMembers, record_withLink, updateBridge_withLink, bridge_withLink, release_withLink]
  exact leaving _

@[simp] theorem adjustBurst_withLink (s : State) (l : Link) (b : BridgeId) :
    (s.withLink l).adjustBurst b = (s.adjustBurst b).withLink l := by
  simp only [State.adjustBurst, bridge_withLink, record_withLink, setBridge_withLink, reportChange_withLink,
    apply_ite (State.withLink l)]; rfl

@[simp] theorem removeDestination_withLink (s : State) (l : Link) (old : Vector Record 8) (p : PortId) :
    (s.withLink l).removeDestination old p = (s.removeDestination old p).withLink l := by
  simp only [State.removeDestination, activeRecords_withLink, port_withLink, enterBlank_withLink, setKey_withLink]
  rw [apply_ite (State.withLink l)]
  generalize (s.port p).key = k
  cases k <;> rfl

@[simp] theorem setPlans_withLink (s : State) (l : Link) (plans : Plans) :
    ({ s.withLink l with plans := plans } : State) = ({ s with plans := plans } : State).withLink l := rfl

/-- The whole switch reads and writes no link: its reply is formed after it (R59). -/
@[simp] theorem switchPlans_withLink (s : State) (l : Link) :
    (s.withLink l).switchPlans = s.switchPlans.withLink l := by
  unfold State.switchPlans
  simp only [activeRecords_withLink, plans_withLink, setPlans_withLink, foldl_withLink _ removeNonMembers_withLink,
    foldl_withLink _ adjustBurst_withLink]
  rw [foldl_withLink _ fun s l p => by simp only [removeDestination_withLink, takeHandedBids_withLink],
    foldl_withLink _ fun s l p => by
      rw [activeRecords_withLink, takeBid_withLink]; exact (apply_ite (State.withLink l) _ _ _).symm,
    handOn_withLink]; rfl

@[simp] theorem startBurst_withLink (s : State) (l : Link) (b : BridgeId) :
    (s.withLink l).startBurst b = (s.startBurst b).withLink l := by
  simp only [State.startBurst, bridge_withLink, record_withLink, setBridge_withLink, reportChange_withLink,
    handOn_withLink, apply_ite (State.withLink l)]

@[simp] theorem leaveEmergency_withLink (s : State) (l : Link) (p : PortId) :
    (s.withLink l).leaveEmergency p = (s.leaveEmergency p).withLink l := by
  simp only [State.leaveEmergency, effPriority_withLink, updatePort_withLink, handPriority_withLink]

/-! ## A request over its own link -/

/-- A request that reads no link does what it does on the state before, and is answered. -/
theorem request_of_withLink {s t : State} (h : s.linkReady) (kind : Byte) {pl : List Byte}
    (hl : pl.length ≤ Config.maxPayload) {act : Action} {a : Answer}
    (hact : ∀ l : Link, act (s.withLink l) = (t.withLink l, some a)) (ht : t.link = s.link) :
    request kind pl act s = .next (t.answered kind a.payload) := by
  have ha : act s.accepting = (t.withLink s.accepting.link, some a) := hact s.accepting.link
  rw [request_of_ready h kind hl, ha]
  dsimp only
  rw [formReply_of_link (t := t.withLink s.accepting.link) h rfl]
  have : ({ t.withLink s.accepting.link with link := s.link } : State) = t := by rw [← ht]; rfl
  rw [this]

end Sys2Proof.Machine
end

