-- ==== Sys2Proof/Laws/Ring.lean ====
section
/-! SUPPORT. The delay ring: a write keeps the canonical form, gives what was written, and leaves every other place
alone. -/

namespace Sys2Proof.Machine

/-- A ring that lists addresses from a later bound lists them from an earlier one. -/
theorem DelayRing.wfFrom_mono {low high : Nat} (h : low ≤ high) :
    ∀ {r : DelayRing}, DelayRing.wfFrom high r = true → DelayRing.wfFrom low r = true
  | [], _ => rfl
  | (k, v) :: rest, hw => by
    simp only [DelayRing.wfFrom, Bool.and_eq_true, decide_eq_true_eq] at hw ⊢
    exact ⟨⟨⟨⟨by omega, hw.1.1.1.2⟩, hw.1.1.2⟩, hw.1.2⟩, hw.2⟩

/-- A write within the ring, of a sample in range, keeps the canonical form. -/
theorem DelayRing.wfFrom_write {low a : Nat} {v : Sample} (hl : low ≤ a) (ha : a < ringSize)
    (hv : inSampleRange v = true) :
    ∀ {r : DelayRing}, DelayRing.wfFrom low r = true → DelayRing.wfFrom low (DelayRing.write r a v) = true := by
  intro r
  induction r generalizing low with
  | nil =>
    intro _
    simp only [DelayRing.write]
    split
    · rfl
    · simp_all [DelayRing.wfFrom]
  | cons x rest ih =>
    obtain ⟨k, w⟩ := x
    intro hw
    simp only [DelayRing.wfFrom, Bool.and_eq_true, decide_eq_true_eq, bne_iff_ne, ne_eq] at hw
    obtain ⟨⟨⟨⟨h1, h2⟩, h3⟩, h4⟩, h5⟩ := hw
    simp only [DelayRing.write]
    split
    · split
      · simp_all [DelayRing.wfFrom]
      · simp_all [DelayRing.wfFrom]
    · split
      · subst_vars
        split
        · exact DelayRing.wfFrom_mono (by omega) h5
        · simp_all [DelayRing.wfFrom]
      · have := ih (low := k + 1) (by omega) h5
        simp_all [DelayRing.wfFrom]

/-- Every write of the mixer keeps the canonical form of a ring. -/
theorem DelayRing.wf_write {r : DelayRing} {a : Nat} {v : Sample} (hr : r.wf = true) (ha : a < ringSize)
    (hv : inSampleRange v = true) : (DelayRing.write r a v).wf = true :=
  DelayRing.wfFrom_write (Nat.zero_le _) ha hv hr

/-- Below its first listed address a ring reads 0. -/
theorem DelayRing.read_below {low a : Nat} (ha : a < low) :
    ∀ {r : DelayRing}, DelayRing.wfFrom low r = true → DelayRing.read r a = 0
  | [], _ => rfl
  | (k, v) :: rest, hw => by
    simp only [DelayRing.wfFrom, Bool.and_eq_true, decide_eq_true_eq] at hw
    rw [DelayRing.read, if_neg (by omega)]
    exact DelayRing.read_below (low := k + 1) (by omega) hw.2

/-- A place reads what was written there, and every other place what it read before. -/
theorem DelayRing.read_write {low a : Nat} {v : Sample} (b : Nat) :
    ∀ {r : DelayRing}, DelayRing.wfFrom low r = true →
      DelayRing.read (DelayRing.write r a v) b = if b = a then v else DelayRing.read r b := by
  intro r
  induction r generalizing low with
  | nil =>
    intro _
    by_cases hv : v = 0 <;> by_cases hb : b = a
    · simp [DelayRing.write, DelayRing.read, hv]
    · simp [DelayRing.write, DelayRing.read, hv]
    · simp [DelayRing.write, DelayRing.read, hv, hb]
    · simp [DelayRing.write, DelayRing.read, hv, hb, Ne.symm hb]
  | cons x rest ih =>
    obtain ⟨k, w⟩ := x
    intro hw
    simp only [DelayRing.wfFrom, Bool.and_eq_true, decide_eq_true_eq] at hw
    obtain ⟨_, h5⟩ := hw
    have below (c : Nat) (hc : c ≤ k) : DelayRing.read rest c = 0 :=
      DelayRing.read_below (low := k + 1) (by omega) h5
    rcases Nat.lt_trichotomy a k with hlt | heq | hgt
    · have hka : k ≠ a := by omega
      by_cases hv : v = 0 <;> by_cases hb : b = a
      · simp [DelayRing.write, DelayRing.read, hlt, hv, hb, hka, below a (by omega)]
      · simp [DelayRing.write, hlt, hv, hb]
      · simp [DelayRing.write, DelayRing.read, hlt, hv, hb]
      · simp [DelayRing.write, DelayRing.read, hlt, hv, hb, Ne.symm hb]
    · subst heq
      by_cases hv : v = 0 <;> by_cases hb : b = a
      · simp [DelayRing.write, hv, hb, below a (by omega)]
      · simp [DelayRing.write, DelayRing.read, hv, hb, Ne.symm hb]
      · simp [DelayRing.write, DelayRing.read, hv, hb]
      · simp [DelayRing.write, DelayRing.read, hv, hb, Ne.symm hb]
    · have h := ih (low := k + 1) h5
      have h1 : ¬a < k := by omega
      have h2 : ¬a = k := by omega
      simp only [DelayRing.write, if_neg h1, if_neg h2, DelayRing.read, h]
      by_cases hk : k = b
      · have : ¬b = a := by omega
        simp [hk, this]
      · simp [hk]

/-- Two rings in canonical form that read alike everywhere are equal, so that equal rings are equal data. -/
theorem DelayRing.ext_of_read {low : Nat} : ∀ {r q : DelayRing}, DelayRing.wfFrom low r = true →
    DelayRing.wfFrom low q = true → (∀ a, DelayRing.read r a = DelayRing.read q a) → r = q := by
  intro r
  induction r generalizing low with
  | nil =>
    intro q _ hq h
    cases q with
    | nil => rfl
    | cons y rest =>
      obtain ⟨k, w⟩ := y
      have := h k
      simp_all [DelayRing.read, DelayRing.wfFrom]
  | cons x rest ih =>
    obtain ⟨k, v⟩ := x
    intro q hr hq h
    cases q with
    | nil =>
      have := h k
      simp_all [DelayRing.read, DelayRing.wfFrom]
    | cons y qs =>
      obtain ⟨j, w⟩ := y
      simp only [DelayRing.wfFrom, Bool.and_eq_true, decide_eq_true_eq, bne_iff_ne, ne_eq] at hr hq
      have hkj : k = j := by
        rcases Nat.lt_trichotomy k j with hlt | heq | hgt
        · have h1 := h k
          rw [DelayRing.read, if_pos rfl, DelayRing.read, if_neg (by omega),
            DelayRing.read_below (low := j + 1) (by omega) hq.2] at h1
          exact absurd h1 hr.1.1.2
        · exact heq
        · have h1 := h j
          rw [DelayRing.read, if_neg (by omega), DelayRing.read_below (low := k + 1) (by omega) hr.2,
            DelayRing.read, if_pos rfl] at h1
          exact absurd h1.symm hq.1.1.2
      subst hkj
      have hv : v = w := by have := h k; simpa [DelayRing.read] using this
      subst hv
      congr 1
      refine ih hr.2 hq.2 fun a => ?_
      by_cases ha : a = k
      · subst ha
        rw [DelayRing.read_below (low := a + 1) (by omega) hr.2,
          DelayRing.read_below (low := a + 1) (by omega) hq.2]
      · have := h a
        simpa [DelayRing.read, Ne.symm ha] using this

/-- The ring address of a sample place lies within the ring. -/
theorem ringAddress_lt (pos : Fin 128) {place : Nat} (h : place < 64) : ringAddress pos.val place < ringSize := by
  have := pos.isLt
  simp only [ringAddress, ringSize, Config.ringPlaces, Config.ringFrames]; omega

end Sys2Proof.Machine
end

