-- ==== Sys2Proof/Tests/Slice0.lean ====
section
/-! SUPPORT. Tests: the ill-formed terms that WellFormed refuses, worked examples of spec/ step by step, and for every
statement with hypotheses a state and operands that meet them. Expected results are the spec's. -/

namespace Sys2Proof.Machine.Tests

-- One theorem at a time: each waiting kernel evaluation would hold a thread and its stack.
set_option Elab.async false

/-! ## Small states -/

def onPort (p : PortId) (f : Port → Port) (s : State) : State := s.setPort p (f (s.port p))

def onBridge (b : BridgeId) (f : Bridge → Bridge) (s : State) : State := s.setBridge b (f (s.bridge b))

/-- A record of both plans. -/
def onRecord (b : BridgeId) (f : Record → Record) (s : State) : State :=
  { s with plans := { s.plans with records := s.plans.records.map fun rs => rs.set b (f rs[b]) } }

/-- The plan that is not active has only default records. -/
def otherPlanBlank (s : State) : State :=
  { s with plans := { s.plans with
      records := s.plans.records.set s.editPlan (Vector.replicate 8 Record.default) } }

/-- A frame is in progress and has reached this sample place. -/
def inFrame (place : Nat) (s : State) : State :=
  { s with mixer := { s.mixer with frame := some ⟨place, s.latch⟩ } }

/-- The state after one command. -/
def after (c : Instr) (s : State) : State := nextOr s (exec c s)

/-- An ACTIVE port with its radio present. -/
def up (q : Port) : Port := { q with lifecycle := .active, present := true }

/-- An ACTIVE port that is engaged. -/
def talking (q : Port) : Port := { up q with carrier := true, engaged := true }

def holding (who : Talker) (priority : Nat) (stamp : Stamp) (timer : Option Nat) (r : Bridge) : Bridge :=
  { r with holder := some ⟨who, priority, stamp, timer⟩ }

def halted (s : State) : State := { s with mixer := { s.mixer with mode := .halted } }

/-- What the transmitter sends. -/
def sent (s : State) : List Byte := s.link.tx.getD []

/-! ## WellFormed refuses (R24, R26, R181, R190) -/

theorem test_wf_ident_unit_zero : WellFormed (.ident 0 0) = false := by decide
theorem test_wf_emerg_unit_reserved : WellFormed (.emerg 0 0xFFFF) = false := by decide
/-- Its low ID byte is the sync byte. -/
theorem test_wf_clear_uncarriable : WellFormed (.emergClear 3 0x017E) = false := by decide
/-- 0x01 + 0x01 + 0x80 + 0x7E = 0x100: its check is the sync byte. -/
theorem test_wf_ident_check_uncarriable : WellFormed (.ident 3 0x0180) = false := by decide
theorem test_wf_kind_of_a_request : WellFormed (.unknownKind 0x0C []) = false := by decide
theorem test_wf_kind_too_long : WellFormed (.unknownKind 0x20 (List.replicate 61 0)) = false := by decide
theorem test_wf_accepts : WellFormed (.ident 3 0x1234) = true
    ∧ WellFormed (.unknownKind 0x1D (List.replicate 60 0)) = true := by decide

/-! ## Worked examples -/

/-- spec/01 1.1: the default fields with receive gain 5000 and VOX threshold 800. -/
def carried (lead : Byte) (rxGain : Half) (cooldown : Byte) : SetupFields :=
  { setupFieldsOf (0 :: setupBytes Setup.default) with
    voxThreshold := 800, rxGain := rxGain, lead := lead, cooldown := cooldown }

def rp7 : State := onPort 7 up State.reset

/-- spec/01 1.1, request 1: REFUSED_STATE, RP7 unchanged. -/
theorem test_port_setup_refused : after (.portSetup 7 (carried 30 5000 5)) rp7 = rp7.answered 0x02 [0x02] := by
  decide +kernel

/-- spec/01 1.1, request 2: CLAMPED, receive gain 4095, VOX threshold 800. -/
theorem test_port_setup_clamped :
    let t := after (.portSetup 7 (carried 25 5000 5)) rp7
    (t.port 7).setup.rxGain = 4095 ∧ (t.port 7).setup.voxThreshold = 800
    ∧ t.link.replies = [.formed (replyFrame 0x02 [0x01])] := by decide +kernel

/-- spec/01 1.2, completion 103: the loss of RP5, which holds B2, is taken. -/
def rp5 : State := onRecord 2 (fun r => { r with members := 0x020 })
  (onBridge 2 (holding (.port 5) 1 1 none) (onPort 5 (fun q => { talking q with presenceCount := 1 }) State.reset))

/-- Completion 101 of the table: the blip is not taken. Completion 103: the loss comes due. -/
theorem test_presence_sampled :
    ((after (.frameCompletion 0xFDF 0xFDF ⟨0, 0, 0⟩) (inFrame 32 rp5)).port 5).presenceCount = 0
    ∧ Due.presence 5 ∈ (after (.frameCompletion 0xFDF 0xFFF ⟨0, 0, 0⟩) (inFrame 32 rp5)).due := by
  decide +kernel

theorem test_presence_lost :
    let t := after (.presenceTaken 5) { rp5 with due := [.presence 5] }
    (t.port 5).lifecycle = .lost ∧ (t.port 5).presenceCount = 0 ∧ (t.port 5).engaged = false
    ∧ (t.port 5).key = .idle ∧ (t.bridge 2).holder = none := by decide +kernel

/-- spec/01 1.3, RP3 of B1 with a CS debounce of 2, before completion 12. -/
def rp3 : State := onRecord 1 (fun r => { r with members := 0x008 })
  (onPort 3 (fun q => { up q with carrierCount := 2 }) State.reset)

theorem test_carrier_counted :
    ((after (.frameCompletion 0xFF7 0 ⟨0, 0, 0⟩) (inFrame 32 rp3)).port 3).carrierCount = 3
    ∧ Due.qualify 3 ∈ (after (.frameCompletion 0xFF7 0 ⟨0, 0, 0⟩) (inFrame 32 rp3)).due := by decide +kernel

/-- Completion 12: carrier, count 0, engaged; RP3 bids into B1. -/
theorem test_carrier_taken :
    let t := after (.carrierTaken 3) { onPort 3 (fun q => { q with carrierCount := 3 }) rp3 with
      due := [.qualify 3] }
    (t.port 3).carrier = true ∧ (t.port 3).carrierCount = 0 ∧ (t.port 3).engaged = true
    ∧ (t.bridge 1).holder.map (·.who) = some (.port 3) ∧ t.bidCounter = 1 := by decide +kernel

/-- spec/01 1.3, VOX hold 3: the fourth quiet completion turns the detector off. -/
theorem test_vox_hold :
    let s := onPort 3 (fun q => { up q with
      setup := { q.setup with qualify := .vox, voxHold := 3 }, vox := true, quietCount := 4 }) State.reset
    ((after (.voxHoldExpiry 3) { s with due := [.qualify 3] }).port 3).vox = false := by decide +kernel

/-- spec/02 2.1: RP4 with even parity, `held` under assembly. -/
def rp4 (held : List Byte) : State := onPort 4 (fun q => { up q with
  setup := { q.setup with dataLine := true, dataParity := .even }, receiver := .assembling held 0 }) State.reset

/-- 0x34 with a wrong parity bit (three data bits are set): HUNTING, DATA_PARITY. -/
theorem test_data_parity :
    let t := after (.dataCharacter 4 0x34 false true) (rp4 [0x01, 0x12])
    (t.port 4).receiver = .hunting ∧ t.notices.flags[srcPort 4] = flagBit flagDataParity := by decide +kernel

/-- 0x7E discards the partial report without a flag. -/
theorem test_data_sync :
    let t := after (.dataCharacter 4 0x7E false true) (rp4 [0x01])
    (t.port 4).receiver = .assembling [] 0 ∧ t.notices = State.reset.notices := by decide +kernel

/-- R24: the bytes of an IDENT of unit 0x1234. -/
theorem test_report_bytes : reportBytes 1 0x1234 = [0x7E, 0x01, 0x12, 0x34, 0xB9] := by decide

/-- spec/02 2.2: 301 identifies before RP6 is engaged, and is learned. -/
theorem test_ident_pending :
    let t := after (.ident 6 301) (onPort 6 (fun q => { up q with receiver := .hunting }) State.reset)
    (t.port 6).pendingId = some ⟨301, 250⟩ ∧ (t.port 6).unit = none ∧ (t.dir.entry 301).isSome = true := by
  decide +kernel

/-- spec/02 2.2, completion 960: the window of 303 is over and it is dropped. -/
theorem test_identity_expires :
    ((after (.pendingIdentityExpiry 6) { onPort 6 (fun q => { q with pendingId := some ⟨303, 0⟩ }) State.reset with
      due := [.window 6] }).port 6).pendingId = none := by decide +kernel

/-- spec/03 3.4: six units of set 6. -/
theorem test_hash : [0x1234, 0x1224, 0x1305, 0x1107, 0x1016, 0x1600].map hashSet = [6, 6, 6, 6, 6, 6] := by
  decide

/-- spec/03 3.4, event 1: OK, set 6, way 0. -/
theorem test_unit_enter :
    let t := after (.unitEnter 0x1234 3 4 3) State.reset
    t.link.replies = [.formed (replyFrame 0x0D [0x00, 6, 0])]
    ∧ t.dir.at 6 0 = some ⟨0x1234, .registered, 3, 4, some 3, false, none, 0⟩ := by decide +kernel

/-- spec/03 3.4, event 4: EMERG of 4359 on RP9 learns it with RP9's home attributes, flagged. -/
theorem test_emerg_learns :
    let s := onPort 9 (fun q => { up q with
      setup := { q.setup with homeAgency := 5, homeRole := 2 }, receiver := .hunting }) State.reset
    let t := after (.emerg 9 4359) s
    t.dir.at 6 0 = some ⟨4359, .learned, 5, 2, none, true, some 9, 0⟩
    ∧ (t.port 9).emergency = .active (some 4359) := by decide +kernel

/-- spec/05 5.9, the last row: the console's bid spills RP7 into the queue ahead of RP5. -/
def fullStack : State := { onBridge 2 (fun r => { r with
      holder := some ⟨.port 11, 4, 206, none⟩
      stack := [⟨10, .valid, none, 205⟩, ⟨9, .valid, none, 204⟩, ⟨8, .valid, none, 203⟩, ⟨7, .valid, none, 201⟩]
      queue := [⟨5, 202⟩] })
    (onPort 5 (fun q => { q with setup := { q.setup with priority := 0 } })
      (onPort 7 (fun q => { q with setup := { q.setup with priority := 0 } }) State.reset)) with
  bidCounter := 206 }

theorem test_full_stack :
    let t := fullStack.bid 2 .con
    (t.bridge 2).holder = some ⟨.con, 5, 207, none⟩
    ∧ (t.bridge 2).stack = [⟨11, .valid, none, 206⟩, ⟨10, .valid, none, 205⟩, ⟨9, .valid, none, 204⟩,
      ⟨8, .valid, none, 203⟩]
    ∧ (t.bridge 2).queue = [⟨7, 201⟩, ⟨5, 202⟩]
    ∧ t.notices.flags[srcBridge 2] = flagBit flagStackOverflow := by decide +kernel

/-- spec/06 6.9: RP6 in B0 with hang 50, in this key state with these counts. -/
def rp6 (k : KeyState) (timing keyUp : Nat) : State := { onPort 6 (fun q => { up q with
    setup := { q.setup with hang := 50 }, key := k, timing := timing, keyUp := keyUp }) State.reset with
  due := [.key 6] }

/-- Completion 3025: HANG with the key-up count 2025. Completion 3075: BLANK with both counts 0. -/
theorem test_drain_end :
    let q := (after (.drainEnd 6) (rp6 .drain 24 2024)).port 6
    (q.key, q.timing, q.keyUp) = (.hang, 0, 2025) := by decide +kernel

theorem test_hang_end :
    let q := (after (.hangEnd 6) (rp6 .hang 49 2074)).port 6
    (q.key, q.timing, q.keyUp) = (.blank, 0, 0) := by decide +kernel

/-- Completion 3100. -/
theorem test_blank_end : ((after (.blankEnd 6) (rp6 .blank 24 0)).port 6).key = .idle := by decide +kernel

/-- The variant with a key limit of 6 s: the 1500th completion. -/
theorem test_key_limit :
    let t := after (.keyLimit 6) (onPort 6 (fun q => { q with setup := { q.setup with keyLimit := 6 } })
      (rp6 .keyed 0 1499))
    (t.port 6).key = .cool ∧ t.keyLine 6 = true
    ∧ t.notices.flags[srcPort 6] = flagBit flagKeyLimit := by decide +kernel

theorem test_cooldown_end : ((after (.cooldownEnd 6) (rp6 .cool 1249 0)).port 6).key = .idle := by
  decide +kernel

/-- spec/07 7.8: one sample through every stage, at place 10 of the frame written at position 70. -/
def sample : State :=
  let s := onRecord 0 (fun r => { r with
    members := 0x056, destinations := 0x050, duck := true, duckGain := 512, alertGain := 256 }) State.reset
  let s := onPort 1 (fun q => { talking q with setup := { q.setup with rxGain := 1536 } }) s
  let s := onPort 4 (fun q => { up q with key := .keyed }) (onPort 2 talking s)
  let s := onPort 6 (fun q => { up q with setup := { q.setup with txGain := 1434 }, key := .keyed }) s
  let s := onBridge 0 (fun r => { r with
    holder := some ⟨.port 1, 2, 2, none⟩, stack := [⟨2, .valid, none, 1⟩], burst := 100
    phase := ⟨.first, 5, true, 2⟩, writePos := 70, ring := [(45 * 64 + 10, 25500)] }) s
  inFrame 10 { s with
    mixer := { s.mixer with amplitude := 8000 }
    console := { s.console with monitorMask := 0x01, monitorGains := Vector.replicate 8 512 } }

def sampleSlots : Vector Half 13 := #v[0, 20000, -9001, 0, 0, 0, 0, 0, 0, 0, 0, 0, 0]

/-- t = 25500 into the ring; RP4 sends 27500; RP6 clamps at 32767 with its flag. -/
theorem test_mix_sample :
    let t := after (.mixSample sampleSlots) sample
    DelayRing.read (t.bridge 0).ring (70 * 64 + 10) = 25500
    ∧ t.mixer.forming.map (fun v => (v[4], v[6])) = [(27500, 32767)]
    ∧ t.notices.flags[srcPort 6] = flagBit flagOutputClip ∧ t.notices.flags[srcPort 4] = 0 := by decide +kernel

/-- spec/07 7.8, monitor sums: 6909952 and, in FLOOR, 6909440. -/
theorem test_rounding : roundDiv .nearestEven (-4608512) = -4500 ∧ roundDiv .floor (-4608512) = -4501
    ∧ roundDiv .nearestEven 6909440 = 6748 ∧ roundDiv .floor 6909440 = 6747
    ∧ roundDiv .towardZero 6909440 = 6747 := by decide +kernel

/-- spec/07 7.9: B5's burst of 250 frames. -/
def b5 (burst frames : Nat) : State := onBridge 5 (fun r => { r with
  burst := burst, phase := ⟨.first, frames, true, 0⟩ }) (onRecord 5 (fun r => { r with alertLength := 1 }) State.reset)

/-- Completion 6025: 225 frames remain, and SECOND begins. -/
theorem test_segment_change :
    let t := after (.frameCompletion 0 0 ⟨0, 0, 0⟩) (inFrame 32 (b5 226 24))
    (t.bridge 5).burst = 225
    ∧ ((after (.alertSegmentChange 5) t).bridge 5).phase = ⟨.second, 0, true, 0⟩ := by decide +kernel

/-- Completion 6250. -/
theorem test_burst_end :
    let t := after (.burstEnd 5) { b5 1 24 with due := [.burstEnd 5] }
    (t.bridge 5).burst = 0 ∧ (t.bridge 5).phase = .start := by decide +kernel

/-- spec/09 9.6, rules 0, 1, 2 and 4, with agency 3 and role 1: 0 and 4 match. -/
theorem test_watch_match :
    [(⟨true, 0, 0, 0, 0, 4⟩ : Rule), ⟨true, 4, 12, 0, 0, 2⟩, ⟨true, 0, 0, 4, 4, 8⟩, ⟨true, 3, 15, 1, 7, 9⟩].map
      (fun r => r.fits 3 1) = [true, false, false, true] := by decide

/-- spec/09 9.6 B: RP2 of B0 with rule 4 {B0, B3}, B3 without alert: B0 starts with 750 frames; the reply names B0. -/
theorem test_emergency_declare :
    let s := onRecord 3 (fun r => { r with alertLength := 0 }) (onRecord 0 (fun r => { r with members := 4 })
      (onPort 2 (fun q => { up q with setup := { q.setup with homeAgency := 3, homeRole := 1 } }) State.reset))
    let t := after (.emergencyDeclare 2) { s with watch := s.watch.set 4 ⟨true, 3, 15, 1, 7, 9⟩ }
    (t.bridge 0).burst = 750 ∧ (t.bridge 3).burst = 0
    ∧ t.link.replies = [.formed (replyFrame 0x13 [0x00, 0x01])] := by decide +kernel

/-- spec/10 10.6, event 3: the unmasking of a set flag makes RP3 pending and asserts ATTN. -/
theorem test_mask_set :
    let t := after (.maskSet 13 0x39 1) (State.raise (srcPort 3) flagDataParity State.reset)
    t.notices.marks[srcPort 3] = true ∧ t.attn = true ∧ t.notices.switches[srcPort 3] = true := by decide +kernel

/-- Event 7: the flags are cleared, the mark stands, ATTN is released. -/
theorem test_fault_clear :
    let s := after (.maskSet 13 0x39 1) (State.raise (srcPort 3) flagDataParity State.reset)
    let t := after (.faultClear 13 0x06) s
    t.notices.marks[srcPort 3] = true ∧ t.attn = false := by decide +kernel

/-- spec/11 11.8: the bytes of PLAN_SWITCH and BRIDGE_READ B0, of the switch's reply and of BUSY. -/
theorem test_frames : frameBytes 0x0A [] = [0x5A, 0x00, 0x0A, 0xF6]
    ∧ frameBytes 0x0B [0x00] = [0x5A, 0x01, 0x0B, 0x00, 0xF5]
    ∧ replyFrame 0x0A [0x00, 0x01] = [0x5A, 0x02, 0x8A, 0x00, 0x01, 0x75]
    ∧ replyFrame 0x0B [0x04] = [0x5A, 0x01, 0x8B, 0x04, 0x71] := by decide

/-- Events 2 and 4: the switch waits; BRIDGE_READ behind it is BUSY. -/
theorem test_switch_pending :
    let t := after (.bridgeRead 0) (after .planSwitch State.reset)
    t.plans.switchPending = true
    ∧ t.link.replies = [.awaiting, .formed [0x5A, 0x01, 0x8B, 0x04, 0x71]] := by decide +kernel

/-- Event 6: at the frame start the switch is made and its reply formed. -/
theorem test_switch_made :
    let t := after .planSwitchMade (after .planSwitch State.reset)
    t.plans.active = 1 ∧ t.link.replies = [.formed [0x5A, 0x02, 0x8A, 0x00, 0x01, 0x75]] := by decide +kernel

/-- RP2's notice is in transmission; B1 (source 3) and RP4 (source 14) are pending. -/
def linkAt (last : Source) (marked : List Source) (tx : Option (List Byte)) : State :=
  { State.reset with
    notices := { State.reset.notices with
      marks := Vector.ofFn fun src => decide (src ∈ marked), started := false }
    link := { State.reset.link with lastSource := last, tx := tx } }

/-- Event 5: the search starts at 13 and finds RP4, at 14. -/
theorem test_notice_order :
    let t := after .linkTransmissionEnd (linkAt 12 [3, 14] (some []))
    t.link.lastSource = 14 ∧ t.notices.marks[(3 : Source)] = true ∧ (sent t).length = 14 := by decide +kernel

/-- R192: the first notice after reset is the device's, with STARTED. -/
theorem test_device_notice : sent (after .deviceNotice State.reset) = [0x5A, 0x02, 0x40, 0x01, 0x00, 0xBF] := by
  decide +kernel

/-- R183: a frame that stops leaves HUNTING, its place freed, and LINK_FRAME. -/
theorem test_gap_timeout :
    let t := after .linkGapTimeout (after (.linkByteTaken 0x5A) State.reset)
    t.link.rx = .hunting ∧ t.link.replies = [] ∧ t.notices.flags[srcDevice] = flagBit flagLinkFrame := by
  decide +kernel

/-- spec/08 8.3: the console takes B0 and B1 over at 5, and keeps B0 when it narrows. -/
theorem test_console_talk :
    let t := after (.consoleTalk 0x03) State.reset
    (t.bridge 0).holder = some ⟨.con, 5, 1, none⟩ ∧ (t.bridge 1).holder = some ⟨.con, 5, 2, none⟩ := by
  decide +kernel

theorem test_console_release :
    let t := after .consoleRelease (after (.consoleTalk 0x03) State.reset)
    t.console.talk = 0 ∧ (t.bridge 0).holder = none := by decide +kernel

/-- R180: RESET, then its release with RATE1 high. -/
theorem test_reset_release :
    let t := after (.resetRelease true false) (after .reset fullStack)
    t.inReset = false ∧ t.link.rate = .b230400 ∧ (t.bridge 2).holder = none := by decide +kernel

/-! ## A state in service, in which every invariant holds

B0 is held by RP0, with RP1 keyed as its destination, RP2 queued and RP3 held over; B1 sounds a burst on RP4, whose
emergency is ACTIVE; B2 is held by the console; unit 0x0102 of RP0 is entered with override priority 2. -/

def service : State :=
  let s := onRecord 0 (fun r => { r with
    members := 0x00F, destinations := 0x00F, alertOnly := 0x002, duck := true, talkLimit := 1 }) State.reset
  let s := onRecord 1 (fun r => { r with members := 0x010, destinations := 0x010 }) s
  let s := onPort 0 (fun q => { talking q with unit := some 0x0102 }) s
  let s := onPort 1 (fun q => { up q with key := .keyed, keyUp := 7 }) s
  let s := onPort 2 (fun q => { talking q with key := .deferred }) s
  let s := onPort 3 (fun q => { talking q with key := .deferred }) s
  let s := onPort 4 (fun q => { up q with
    key := .keyed, emergency := .active (some 0x0200), receiver := .hunting }) s
  let s := onBridge 0 (fun r => { r with
    holder := some ⟨.port 0, 2, 2, some 250⟩, stack := [⟨3, .valid, some 100, 1⟩], queue := [⟨2, 3⟩] }) s
  let s := onBridge 1 (fun r => { r with burst := 10 }) s
  let s := onBridge 2 (holding .con 5 4 none) s
  { s with
    bidCounter := 4
    dir := s.dir.put 3 0 (some ⟨0x0102, .registered, 1, 2, some 2, false, none, 0⟩)
    console := { s.console with talk := 0x04 } }

theorem service_calm : service.calm := by unfold State.calm; decide +kernel

theorem service_ready : service.linkReady := by unfold State.linkReady State.calm; decide +kernel

theorem reset_ready : State.reset.linkReady := by unfold State.linkReady State.calm; decide +kernel

theorem quiet_of {s : State} (hb : s.bids = []) (h : ∀ p : PortId, s.keyResting p = true) : s.quiet :=
  ⟨hb, fun p => (keyResting_iff s p).mp (h p)⟩

theorem service_quiet : service.quiet := quiet_of rfl (by decide +kernel)

theorem holder_forall {s : State} {f : BridgeId → Holder → Bool}
    (h : ∀ b : BridgeId, (s.bridge b).holder.all (f b) = true) (b : BridgeId) (x : Holder)
    (hx : (s.bridge b).holder = some x) : f b x = true := by
  have := h b
  rwa [hx] at this

/-- The directory holds one entry. -/
theorem service_at (set : Fin 16) (way : Fin 4) : service.dir.at set way =
    if set = 3 ∧ way = 0 then some ⟨0x0102, .registered, 1, 2, some 2, false, none, 0⟩ else none := by
  revert set way; decide +kernel

theorem service_directory : service.directoryRule := by
  intro set way e he
  rw [service_at] at he
  split at he
  · rename_i h
    cases he
    refine ⟨by rw [h.1]; decide, by decide, by decide, fun other e' he' _ => ?_⟩
    rw [service_at] at he'
    split at he'
    · rename_i h'; rw [h'.2, h.2]
    · cases he'
  · cases he

theorem service_rings : service.ringsSound ∧ service.positionsEqual := by
  unfold State.ringsSound State.positionsEqual; decide +kernel

theorem service_ports : service.engagementRule ∧ service.neverKeyedOver ∧ service.inactiveHeld
    ∧ service.keyLimitRule ∧ service.countsAtRest := by
  unfold State.engagementRule State.neverKeyedOver State.inactiveHeld State.keyLimitRule State.countsAtRest
  decide +kernel

theorem service_places : service.namedOnce ∧ service.placesHeld ∧ service.planRule := by
  unfold State.namedOnce State.placesHeld State.planRule; decide +kernel

theorem service_taken : service.placesTaken := by
  have h : ∀ p : PortId, (service.port p).engaged = true → (service.port p).bar = false →
      service.memberOf p = none ∨ ∃ b : BridgeId, service.memberOf p = some b
        ∧ ((service.bridge b).hasPlace p = true ∨ p ∈ service.bids) := by decide +kernel
  intro p b he hb hm
  rcases h p he hb with h | ⟨c, hc, h⟩
  · rw [h] at hm; cases hm
  · rw [hm] at hc; cases hc; exact h

theorem service_bridges : service.stacksBounded ∧ service.freeBridgesEmpty ∧ service.queuesOrdered := by
  unfold State.stacksBounded State.freeBridgesEmpty State.queuesOrdered; decide +kernel

theorem service_priorities : service.holderPriorities :=
  fun b h hh => of_decide_eq_true (holder_forall
    (f := fun _ h => decide (h.priority = service.talkerPriority h.who)) (by decide +kernel) b h hh)

theorem service_console : service.consoleRule := fun b => ⟨by revert b; decide +kernel, fun h hh hc => by
  have := holder_forall (f := fun _ h => decide (h.who = .con → h.priority = 5 ∧ h.timer = none))
    (by decide +kernel) b h hh
  exact of_decide_eq_true this hc⟩

theorem service_range : service.settingsInRange := by
  refine ⟨?_, ?_, ?_, ?_⟩
  · unfold Setup.inRange; decide +kernel
  · unfold Record.inRange; decide +kernel
  · intro set way e he o ho
    rw [service_at] at he
    split at he
    · cases he; cases ho; decide
    · cases he
  · decide +kernel

theorem service_notices : service.burstRule ∧ service.flagsExist := by
  unfold State.burstRule State.flagsExist; decide +kernel

theorem service_link : service.replyRule := by unfold State.replyRule; decide +kernel

theorem service_mixer : service.mixerRule := by
  refine ⟨by decide +kernel, fun f hf => ?_⟩
  cases hf

/-- A step of `service` with a command in front. -/
theorem service_steps : ∃ t : State, step { service with pending := [.portStop 0] } = .next t :=
  ⟨_, rfl⟩

/-! ## States and operands that meet the hypotheses of the statements -/

theorem ready_of {s : State} (h : s.inReset = false ∧ s.due = [] ∧ s.link.ready = true
    ∧ Place.reserved ∉ s.link.replies ∧ s.plans.switchPending = false) : s.linkReady :=
  ⟨⟨h.1, h.2.1⟩, h.2.2.1, h.2.2.2.1, h.2.2.2.2⟩

theorem witness_StepTakesTheFrontCommand :
    ({ service with pending := [.describe] } : State).pending = .describe :: [] ∧ service.pending = [] :=
  ⟨rfl, rfl⟩

theorem witness_ResetItsReleaseAndNothingElse : (after .reset service).inReset = true ∧ service.inReset = false
    ∧ Instr.describe ≠ .reset ∧ ∀ rate1 rate0 : Bool, Instr.describe ≠ .resetRelease rate1 rate0 := by
  decide +kernel

theorem witness_PortBridgeAndPartReads :
    service.linkReady ∧ 11 < (12 : Byte).toNat ∧ 7 < (8 : Byte).toNat := ⟨service_ready, by decide⟩

/-- Section 11.7 by hand for B0: RP0 at 2 with stamp 2 and 250 frames; RP3 VALID with 100 frames; RP2 queued at 1. -/
theorem test_bridge_payload : service.bridgePayload 0 = [0x00, 0x20, 0, 0, 0, 2, 0, 250, 0x11, 0, 0, 0,
    0x83, 0, 100, 0, 1, 0x12, 0, 3] := by decide +kernel

theorem witness_NoticePayloadsFollowTheLayouts : service.stacksBounded ∧ service.namedOnce ∧ service.flagsExist
    ∧ (service.bridge 2).holder = some ⟨.con, 5, 4, none⟩ ∧ (service.bridge 3).holder = none
    ∧ (service.bridge 0).holder = some ⟨.port 0, 2, 2, some 250⟩ ∧ (service.bridge 1).burst = 10
    ∧ (service.bridge 0).stack[0]? = some ⟨3, .valid, some 100, 1⟩ ∧ (service.bridge 0).queue[0]? = some ⟨2, 3⟩
    ∧ service.effPriority 2 = 1 ∧ service.console.monitorGains[(0 : BridgeId)] = 1024 :=
  ⟨service_bridges.1, service_places.1, service_notices.2, by decide +kernel⟩

/-- The settings of test_port_setup_clamped. -/
def clampedSetup : Setup := { Setup.default with voxThreshold := 800, rxGain := 4095 }

theorem witness_PortSetupFirstFailingStepDecides :
    service.linkReady
    ∧ ((onPort 0 (fun q => { q with setup := { q.setup with priority := 3 } }) service).effPriority 0
        ≠ service.effPriority 0 ∧ (service.port 0).engaged = true ∧ service.memberOf 0 = some 0)
    ∧ 11 < (12 : Byte).toNat ∧ ¬ setupListed { carried 25 5000 5 with qualify := 3 } ∧ setupListed (carried 25 5000 5)
    ∧ clampedSetup.carriedBy (carried 25 5000 5) ∧ ¬ clampedSetup.asCarried (carried 25 5000 5)
    ∧ clampedSetup.liveChangeOf (service.port 0).setup ∧ (service.port 0).lifecycle ≠ .off
    ∧ ¬ ({ clampedSetup with cooldown := 1 } : Setup).liveChangeOf (service.port 0).setup
    ∧ ({ clampedSetup with cooldown := 1 } : Setup).carriedBy (carried 25 4095 0)
    ∧ (service.port 5).lifecycle = .off ∧ (service.port 5).engaged = false ∧ service.memberOf 5 = none := by
  refine ⟨service_ready, by decide +kernel, ?_⟩
  unfold setupListed Setup.carriedBy Setup.asCarried Setup.liveChangeOf; decide +kernel

/-- RP1 is OFF with its radio present, and a destination under demand; RP5 is OFF and LOST when started. -/
def stopped : State := onPort 1 (fun q => { q with lifecycle := .off, key := .idle, keyUp := 0 }) service

theorem stopped_quiet : stopped.quiet := quiet_of rfl (by decide +kernel)

theorem witness_PortStartEntersActiveOrLost : stopped.linkReady ∧ stopped.quiet ∧ 11 < (12 : Byte).toNat
    ∧ (stopped.port 0).lifecycle ≠ .off ∧ (stopped.port 5).lifecycle = .off ∧ (stopped.port 5).present = false
    ∧ (stopped.port 1).lifecycle = .off ∧ (stopped.port 1).present = true ∧ stopped.demand 1 = true :=
  ⟨ready_of (by decide +kernel), stopped_quiet, by decide +kernel⟩

theorem witness_PortStopDeparts : service.linkReady ∧ service.namedOnce ∧ service.placesHeld ∧ service.planRule
    ∧ service.quiet ∧ 11 < (12 : Byte).toNat ∧ (service.port 5).lifecycle = .off
    ∧ (service.port 0).lifecycle ≠ .off ∧ (service.port 1).lifecycle ≠ .off ∧ (service.port 1).engaged = false :=
  ⟨service_ready, service_places.1, service_places.2.1, service_places.2.2, service_quiet, by decide +kernel⟩

theorem witness_ManualKeyDrivesAnOffPort : service.linkReady ∧ 11 < (12 : Byte).toNat ∧ 1 < (2 : Byte).toNat
    ∧ (service.port 0).lifecycle ≠ .off ∧ (service.port 5).lifecycle = .off
    ∧ (service.port 5).setup.keyPolarity = .low
    ∧ ((onPort 5 (fun q => { q with setup := { q.setup with keyPolarity := .high } }) service).port 5).setup.keyPolarity
      = .high :=
  ⟨service_ready, by decide +kernel⟩

/-- Presence changes of RP0 (ACTIVE, present) and RP5 (OFF), and the same with RP5 LOST or RP0's radio absent. -/
theorem witness_PresenceTakenMovesTheLifecycle :
    let s : State := { service with due := [.presence 0, .presence 5] }
    s.inReset = false ∧ Due.presence 5 ∈ s.due ∧ (s.port 5).lifecycle = .off
    ∧ Due.presence 0 ∈ s.due ∧ (s.port 0).lifecycle = .active ∧ (s.port 0).present = true
    ∧ ((onPort 0 (fun q => { q with present := false }) s).port 0).present = false
    ∧ ((onPort 5 (fun q => { q with lifecycle := .lost }) s).port 5).lifecycle = .lost
    ∧ ((onPort 5 (fun q => { q with lifecycle := .lost, present := true }) s).port 5).present = true := by
  decide +kernel

/-- A record as PLAN_EDIT carries it, members {RP8}, with an alert length above its range. -/
def recordFields : RecordFields := ⟨0x100, 0x100, 0x100, 1, 0, 1, 4095, 256, 11, 4096⟩

def recordWritten : Record := ⟨0x100, 0x100, 0x100, true, false, true, 4095, 255, 10, 4095⟩

theorem witness_PlanEditReadAndCopy : service.linkReady ∧ 7 < (8 : Byte).toNat ∧ 4096 ≤ (0x1000 : Half).toNat
    ∧ 1 < (2 : Byte).toNat ∧ ¬ ((0x101 : Half) &&& (0x100 : Half) = 0x101)
    ∧ (let f := recordFields; let r := recordWritten
      r.members.zeroExtend 16 = f.members ∧ r.destinations.zeroExtend 16 = f.destinations
      ∧ r.alertOnly.zeroExtend 16 = f.alertOnly ∧ switchByte r.preempt = f.preempt
      ∧ switchByte r.override = f.override ∧ switchByte r.duck = f.duck
      ∧ r.duckGain = min f.duckGain.toNat 4095 ∧ r.talkLimit = min f.talkLimit.toNat 255
      ∧ r.alertLength = min f.alertLength.toNat 10 ∧ r.alertGain = min f.alertGain.toNat 4095
      ∧ r.destinations &&& r.members = r.destinations ∧ r.alertOnly &&& r.destinations = r.alertOnly
      ∧ (∀ c : BridgeId, c ≠ 3 → service.plans.records[service.editPlan][c].members &&& r.members = 0)
      ∧ ∃ c : BridgeId, c ≠ 3
        ∧ (onRecord 1 (fun x => { x with members := 0x100 }) service).plans.records[(1 : Fin 2)][c].members &&& r.members ≠ 0) :=
  ⟨service_ready, by decide +kernel⟩

/-- A switch waits. -/
def switching : State := after .planSwitch service

theorem witness_PlanSwitchWaitsAndIsMade : service.linkReady ∧ (halted service).linkReady ∧ switching.calm
    ∧ service.mixer.mode = .run ∧ (halted service).mixer.mode = .halted
    ∧ switching.mixer.mode = .run ∧ switching.mixer.frame = none ∧ switching.plans.switchPending = true
    ∧ (halted service).bids = [] ∧ switching.bids = [] ∧ service.namedOnce :=
  ⟨service_ready, ready_of (by decide +kernel), by unfold State.calm; decide +kernel, by decide +kernel,
    by decide +kernel, by decide +kernel, by decide +kernel, by decide +kernel, by decide +kernel, by decide +kernel,
    service_places.1⟩

/-- R59, R63: with RP0 and RP2 in B3 of the other plan alone, both leave B0 and then bid into B3, RP0 first. -/
theorem test_switch_steps :
    let s : State := { service with plans := { service.plans with
      records := service.plans.records.set 1 ((Vector.replicate 8 Record.default).set 3
        { Record.default with members := 0x005 }) } }
    let t := after .planSwitchMade (after .planSwitch s)
    (t.bridge 0).holder = none ∧ (t.port 1).key = .blank
    ∧ (t.bridge 3).holder.map (fun h => (h.who, h.stamp)) = some (.port 0, 5)
    ∧ (t.bridge 3).queue = [⟨2, 6⟩] := by decide +kernel

/-- The other plan, blank, becomes active: every port of B0 is a non-member and no destination. RP1 is keyed, RP2
deferred; with B0 in the records RP0 holds as a member with a talk limit of 1 s; the console holds B2. -/
theorem witness_SwitchRemovesMembersAndDestinations :
    let s := otherPlanBlank service
    let t : State := { s with plans := { s.plans with active := 1 } }
    (s.bridge 0).holder = some ⟨.port 0, 2, 2, some 250⟩ ∧ (s.record 0).members.getLsbD (0 : PortId) = true
    ∧ (s.record 0).talkLimit ≠ 0 ∧ (t.record 0).talkLimit = 0 ∧ (t.record 0).members.getLsbD (0 : PortId) = false
    ∧ (s.bridge 2).holder = some ⟨.con, 5, 4, none⟩
    ∧ destinationIn s.activeRecords 1 = some 0 ∧ (t.record 0).destinations.getLsbD (1 : PortId) = false
    ∧ (s.record 0).destinations.getLsbD (1 : PortId) = true
    ∧ (t.port 1).key = .keyed ∧ (t.port 1).setup.blank ≠ 0 ∧ (t.port 2).key = .deferred
    ∧ destinationIn s.activeRecords 0 = some 0 ∧ (t.port 0).key = .idle
    ∧ ((onPort 1 (fun q => { q with setup := { q.setup with blank := 0 } }) t).port 1).setup.blank = 0 := by
  decide +kernel

/-- A directory whose set 6 is full of entries that cannot go. -/
def fullSet : State := { service with dir :=
  [(0, 0x1234), (1, 0x1224), (2, 0x1305), (3, 0x1107)].foldl (fun d (e : Fin 4 × UnitId) =>
    d.put 6 e.1 (some ⟨e.2, .registered, 0, 0, none, e.1 = 3, none, 0⟩)) service.dir }

theorem witness_UnitEntriesAreEnteredAndRemoved : service.linkReady ∧ service.directoryRule
    ∧ fullSet.linkReady
    ∧ 3 < (4 : Byte).toNat ∧ (4 : Byte) ≠ 0x0F
    ∧ overrideByte (some 3) = 3 ∧ overrideByte none = 0x0F
    ∧ (15 : BitVec 4).toNat = min (16 : Byte).toNat 15 ∧ (7 : BitVec 3).toNat = min (8 : Byte).toNat 7
    ∧ fullSet.dir.find 0x1600 = none ∧ fullSet.dir.room (hashSet 0x1600) = none
    ∧ service.dir.find 0x0102 = some 0
    ∧ service.dir.at (hashSet 0x0102) 0 = some ⟨0x0102, .registered, 1, 2, some 2, false, none, 0⟩
    ∧ service.overrideFor (some 0x0102) = some 2
    ∧ service.dir.find 0x1600 = none ∧ service.dir.room (hashSet 0x1600) = some 0
    ∧ service.overrideFor (some 0x1600) = none
    ∧ fullSet.dir.find 0x1107 = some 3
    ∧ fullSet.dir.at (hashSet 0x1107) 3 = some ⟨0x1107, .registered, 0, 0, none, true, none, 0⟩ :=
  ⟨service_ready, service_directory, ready_of (by decide +kernel), by decide +kernel⟩

/-- R47, R80: an override priority of 3 for the talker of RP2 in the queue of B0 takes the path from RP0 at 2. -/
theorem test_override_preempts :
    let t := after (.unitEnter 0x0300 0 0 3) (onPort 2 (fun q => { q with unit := some 0x0300 }) service)
    (t.bridge 0).holder.map (fun h => (h.who, h.priority)) = some (.port 2, 3) ∧ (t.bridge 0).queue = []
    ∧ (t.bridge 0).stack.map (·.port) = [0, 3] := by decide +kernel

theorem witness_UnitReadAnswersOneEntry : service.linkReady
    ∧ (2 : Byte) ≠ 0 ∧ (2 : Byte) ≠ 1
    ∧ ((0xFF : Byte) ++ (0xFF : Byte) : Half) = 0xFFFF ∧ ((1 : Byte) ++ (2 : Byte) : Half) ≠ 0xFFFF
    ∧ service.dir.find ((1 : Byte) ++ (2 : Byte)) = some 0 ∧ service.dir.find ((1 : Byte) ++ (3 : Byte)) = none
    ∧ 15 < (16 : Byte).toNat ∧ 3 < (4 : Byte).toNat :=
  ⟨service_ready, by decide +kernel⟩

/-- A learned entry that a purge takes. -/
theorem witness_PurgeRemovesLearnedEntries : service.linkReady ∧ service.directoryRule
    ∧ ((after (.ident 4 0x1600) service).dir.entry 0x1600).map (·.replaceable) = some true :=
  ⟨service_ready, service_directory, by decide +kernel⟩

theorem witness_DirectoryLooksUpAndMakesRoom : service.directoryRule ∧ service.dir.find 0x1600 = none
    ∧ service.dir.at 3 0 ≠ none ∧ service.dir.room 3 = some 1 ∧ fullSet.dir.room 6 = none
    ∧ (after (.ident 4 0x1600) { fullSet with
        dir := fullSet.dir.put 6 1 (some ⟨0x1224, .learned, 0, 0, none, false, none, 0⟩) }).dir.find 0x1600 = some 1 :=
  ⟨service_directory, by decide +kernel⟩

theorem witness_EffectivePriorityFollowsTheTable : service.settingsInRange
    ∧ (service.port 4).emergency = .active (some 0x0200)
    ∧ (service.port 0).emergency = .none ∧ (service.port 0).unit = some 0x0102
    ∧ service.dir.entry 0x0102 = some ⟨0x0102, .registered, 1, 2, some 2, false, none, 0⟩
    ∧ (service.port 1).unit = none :=
  ⟨service_range, by decide +kernel⟩

/-- The queue [RP2] is in order; RP4, at 4, goes ahead of it. -/
theorem witness_QueueInsertionKeepsTheOrder : (service.bridge 0).queue = [⟨2, 3⟩]
    ∧ service.insertEntry ⟨4, 4⟩ (service.bridge 0).queue = [⟨4, 4⟩, ⟨2, 3⟩] := by decide +kernel

/-- Bids at B3 (free), at B0 (held at 2) by a port at 1 and by one at 4, by the console, and at a full stack whose bottom is
VALID, or EMPTY. -/
theorem witness_BidIsGrantedPreemptsOrQueues :
    (service.bridge 3).holder = none
    ∧ (service.bridge 0).holder = some ⟨.port 0, 2, 2, some 250⟩
    ∧ (service.record 0).preempt = true ∧ service.effPriority 1 ≤ 2 ∧ 2 < service.talkerPriority (.port 4)
    ∧ (service.bridge 2).holder = some ⟨.con, 5, 4, none⟩
    ∧ ((service.bridge 0).stack.filter fun e => !(Talker.con == .port e.port && e.tag == .empty)).length < 4
    ∧ (fullStack.bridge 2).stack = [⟨10, .valid, none, 205⟩, ⟨9, .valid, none, 204⟩, ⟨8, .valid, none, 203⟩]
      ++ [⟨7, .valid, none, 201⟩]
    ∧ ((onBridge 2 (fun r => { r with stack := r.stack.map fun e => { e with tag := .empty } }) fullStack).bridge 2).stack
      = [⟨10, .empty, none, 205⟩, ⟨9, .empty, none, 204⟩, ⟨8, .empty, none, 203⟩] ++ [⟨7, .empty, none, 201⟩] := by
  decide +kernel

/-- B0 with RP3 held over and RP2 queued, both at 1; with RP4 queued instead; and with nobody waiting. -/
theorem witness_ReleaseGivesThePathToTheBestWaiting :
    ((service.bridge 0).stack.dropWhile fun e => decide (e.tag = .empty)) = [⟨3, .valid, some 100, 1⟩]
    ∧ (service.bridge 0).queue.head? = some ⟨2, 3⟩ ∧ service.effPriority 2 ≤ service.effPriority 3
    ∧ ((onBridge 0 (fun r => { r with queue := [⟨4, 3⟩] }) service).bridge 0).queue = ⟨4, 3⟩ :: []
    ∧ service.effPriority 3 < service.effPriority 4
    ∧ (service.bridge 2).stack = [] ∧ (service.bridge 2).queue = [] := by decide +kernel

theorem witness_PriorityChangeActsByPlace :
    (service.bridge 0).holder = some ⟨.port 0, 2, 2, some 250⟩
    ∧ (∀ e ∈ (service.bridge 0).queue, e.port ≠ 3)
    ∧ (service.bridge 0).queue.find? (·.port == 2) = some ⟨2, 3⟩ ∧ service.effPriority 2 ≤ 2
    ∧ (let s := onPort 2 (fun q => { q with emergency := .active none }) service
      (s.record 0).preempt = true ∧ 2 < s.effPriority 2 ∧ (s.bridge 0).stack.length < 4
      ∧ (let full := onBridge 0 (fun r => { r with stack := (fullStack.bridge 2).stack }) s
        4 ≤ (full.bridge 0).stack.length ∧ (full.bridge 0).queue.find? (·.port == 2) = some ⟨2, 3⟩
        ∧ (full.bridge 0).stack.getLast? = some ⟨7, .valid, none, 201⟩)) := by decide +kernel

theorem witness_TalkTimerExpiryCutsTheHolder :
    let s : State := { onBridge 0 (holding (.port 0) 2 2 (some 1)) service with due := [.talk 0] }
    s.inReset = false ∧ Due.talk 0 ∈ s.due ∧ (s.bridge 0).holder = some ⟨.port 0, 2, 2, some 1⟩ ∧ s.namedOnce := by
  unfold State.namedOnce; decide +kernel

/-- RP1 with its three settings 0 and its carrier up, where the demand of B0 has gone. -/
def returning : State := onBridge 0 (fun r => { r with holder := none, stack := [], queue := [] })
  (onPort 1 (fun q => { q with setup := { q.setup with lead := 0, hang := 0, blank := 0 }, carrier := true }) service)

/-- R111: RP1 drains to IDLE at once, engages, and its bid takes the free path before any other machine acts. -/
theorem test_bid_goes_ahead :
    (returning.judgeKey 1).bids = [1]
    ∧ ((returning.actKey 1).bridge 0).holder = some ⟨.port 1, 1, 5, some 250⟩
    ∧ (returning.handOn.port 1).key = .idle ∧ (returning.handOn.port 2).key = .deferred := by decide +kernel

/-- RP3's bid to B0 is on its way. -/
def bidding : State := { onBridge 0 (fun r => { r with stack := [] }) service with bids := [3] }

/-- RP0 as it stands; RP5 started with a carrier; RP0 losing its carrier as a holder, RP2 as a bidder; a bid on its way; a
bid that a key machine hands on; and a state that is quiet after two rounds. -/
theorem witness_EngagementBeginsAndEnds :
    service.quiet ∧ (State.actAll^[2] returning).quiet
    ∧ (({ bidding with bids := [] } : State).bid 0 (.port 3)).quiet
    ∧ (bidding.bids = [3] ∧ (bidding.port 3).engaged = true ∧ (bidding.port 3).bar = false
      ∧ bidding.memberOf 3 = some 0 ∧ (bidding.bridge 0).hasPlace 3 = false)
    ∧ (returning.bids = [] ∧ (returning.judgeKey 1).bids ≠ [] ∧ (returning.judgeKey 1).memberOf 1 = some 0
      ∧ ((returning.judgeKey 1).bridge 0).hasPlace 1 = false)
    ∧ (service.port 0).engaged = (service.port 0).mayEngage
    ∧ (let s := onPort 5 (fun q => { up q with carrier := true }) service
      (s.port 5).engaged = false ∧ (s.port 5).mayEngage = true)
    ∧ (let s := onPort 0 (fun q => { q with carrier := false }) service
      (s.port 0).engaged = true ∧ (s.port 0).mayEngage = false ∧ s.memberOf 0 = some 0
      ∧ (s.bridge 0).holder.any (·.who == .port 0) = true)
    ∧ (let s := onPort 2 (fun q => { q with carrier := false }) service
      (s.port 2).engaged = true ∧ (s.port 2).mayEngage = false ∧ s.memberOf 2 = some 0
      ∧ (s.bridge 0).holder.any (·.who == .port 2) = false) :=
  ⟨service_quiet, quiet_of (by decide +kernel) (by decide +kernel), quiet_of (by decide +kernel) (by decide +kernel),
    by decide +kernel⟩

theorem witness_DemandAndOverrideKey : service.planRule ∧ service.demand 1 = true ∧ service.demand 0 = false
    ∧ (onBridge 0 (holding (.port 0) 4 2 none) service).overrideKey 2 = true :=
  ⟨service_places.2.2, by decide +kernel⟩

/-- RP2 (engaged) and RP1 (not) of B0 under demand, with and without an override key, and with the demand gone. -/
theorem witness_KeyMachineTransitions :
    let none0 := onBridge 0 (fun r => { r with holder := none }) service
    let override0 := onBridge 0 (holding (.port 0) 4 2 none) service
    (service.port 5).lifecycle ≠ .active ∧ (service.port 2).lifecycle = .active
    ∧ (service.port 1).lifecycle = .active
    ∧ service.demand 2 = true ∧ (service.port 2).engaged = true ∧ service.overrideKey 2 = false
    ∧ (service.port 2).key = .deferred ∧ none0.demand 2 = false
    ∧ override0.overrideKey 2 = true ∧ override0.demand 2 = true
    ∧ service.demand 1 = true ∧ (service.port 1).engaged = false
    ∧ none0.demand 1 = false ∧ (none0.port 1).key = .keyed ∧ (none0.port 1).setup.lead ≠ 0
    ∧ (let s := onPort 1 (fun q => { q with setup := { q.setup with lead := 0, blank := 0 } }) none0
      (s.port 1).setup.lead = 0 ∧ (s.port 1).setup.hang = 0 ∧ (s.port 1).setup.blank = 0 ∧ s.demand 1 = false) := by
  decide +kernel

/-- RP6 of spec/06 6.9, and its variant with a key limit, at each count. -/
theorem witness_KeyCountsRunOut :
    let limit (s : State) : State := onPort 6 (fun q => { q with setup := { q.setup with keyLimit := 6 } }) s
    let quick (s : State) : State := onPort 6 (fun q => { q with setup := { q.setup with hang := 0, blank := 0 } }) s
    (rp6 .drain 24 2024).inReset = false ∧ Due.key 6 ∈ (rp6 .drain 24 2024).due
    ∧ ((rp6 .drain 24 2024).port 6).setup.lead ≤ 25 ∧ ((rp6 .drain 24 2024).port 6).setup.hang ≠ 0
    ∧ ¬ (((rp6 .drain 24 2024).port 6).setup.keyLimit * 250 ≤ 2025)
    ∧ ((rp6 .hang 49 2074).port 6).setup.hang ≤ 50 ∧ ((rp6 .hang 49 2074).port 6).setup.blank ≠ 0
    ∧ ((quick (rp6 .drain 24 2024)).port 6).setup.lead ≤ 25 ∧ ((quick (rp6 .drain 24 2024)).port 6).setup.hang = 0
    ∧ ((quick (rp6 .hang 0 2074)).port 6).setup.hang ≤ 1 ∧ ((quick (rp6 .hang 0 2074)).port 6).setup.blank = 0
    ∧ ((after (.drainEnd 6) (quick (rp6 .drain 24 2024))).port 6).key = .idle
    ∧ ((rp6 .blank 24 0).port 6).setup.blank ≤ 25
    ∧ ((limit (rp6 .keyed 0 1499)).port 6).setup.keyLimit * 250 ≤ 1500
    ∧ ((rp6 .cool 24 0).port 6).setup.blank = 25 ∧ 25 < ((rp6 .cool 24 0).port 6).setup.cooldown * 250
    ∧ ((rp6 .cool 1249 0).port 6).setup.cooldown * 250 ≤ 1250 := by decide +kernel

theorem witness_CarrierAndVoxChangesAreTaken :
    let s : State := { onPort 3 (fun q => { up q with
      setup := { q.setup with voxHold := 3 }, carrierCount := 3, vox := true, quietCount := 4 }) State.reset with
      due := [.qualify 3] }
    s.inReset = false ∧ Due.qualify 3 ∈ s.due ∧ (s.port 3).setup.csDebounce + 1 ≤ (s.port 3).carrierCount
    ∧ (s.port 3).setup.voxHold + 1 ≤ (s.port 3).quietCount
    ∧ (s.port 3).voxLevel < (s.port 3).setup.voxThreshold := by decide +kernel

/-- Values at the half and at the ends of the sample range. -/
theorem witness_RoundingAndSaturation : (2 * (1024 * roundDiv .nearestEven 512 - 512)).natAbs = 1024
    ∧ (0 : Int) ≤ 512 ∧ (-512 : Int) ≤ 0 ∧ (-2048 : Int) = 1024 * (-2) ∧ (-32769 : Int) < -32768
    ∧ (32767 : Int) < 32768 ∧ (-32768 : Int) ≤ 32767 := by decide +kernel

theorem witness_FrameStartLatchesTheSettings : service.calm ∧ (halted service).mixer.mode = .halted
    ∧ (inFrame 0 service).mixer.frame ≠ none ∧ service.mixer.mode = .run ∧ service.mixer.frame = none
    ∧ service.plans.switchPending = false :=
  ⟨service_calm, rfl, by decide +kernel, rfl, rfl, rfl⟩

theorem sample_rings : sample.ringsSound := by unfold State.ringsSound; decide +kernel

/-- The frame of spec/07 7.8 in its tenth sample, and at the frame's last place. -/
theorem witness_MixSampleFormsEveryOutput : sample.calm ∧ sample.mixer.mode = .run
    ∧ sample.mixer.frame.map (·.place) = some 10 ∧ 10 < frameLength sample.mixer.rate ∧ sample.ringsSound
    ∧ (inFrame 31 sample).mixer.frame.map (·.place) = some 31 ∧ 31 < frameLength (inFrame 31 sample).mixer.rate :=
  ⟨by unfold State.calm; decide +kernel, rfl, by decide +kernel, by decide +kernel, sample_rings,
    by decide +kernel, by decide +kernel⟩

theorem witness_AlertToneAndBurstEvents :
    let s : State := { b5 1 25 with due := [.half 5, .segment 5, .burstEnd 5] }
    s.inReset = false ∧ Due.half 5 ∈ s.due ∧ Due.segment 5 ∈ s.due ∧ Due.burstEnd 5 ∈ s.due
    ∧ (s.bridge 5).burst ≠ 0 ∧ 25 ≤ (s.bridge 5).phase.frames ∧ (s.bridge 5).burst = 1 := by decide +kernel

theorem witness_FrameCompletionCounts : (inFrame 32 service).calm ∧ (inFrame 32 service).mixer.mode = .run
    ∧ (inFrame 32 service).mixer.frame.map (·.place) = some (frameLength service.mixer.rate)
    ∧ (∀ p : PortId, (service.port p).voxSum / 32 < (service.port p).setup.voxThreshold) :=
  ⟨by unfold State.calm; decide +kernel, rfl, by decide +kernel, by decide +kernel⟩

/-- Counts that `late` has named, in each state of a key machine, none of which runs out; and a loud frame of RP6. -/
theorem test_late_counts :
    let key (k : KeyState) (timing keyUp : Nat) := ((rp6 k timing keyUp).takeDue (.key 6)).port 6
    (key .drain 0 3).timing = 1 ∧ (key .drain 0 3).keyUp = 4 ∧ (key .cool 30 0).timing = 31
    ∧ ((service.takeDue (.talk 0)).bridge 0).holder = some ⟨.port 0, 2, 2, some 249⟩
    ∧ (((onPort 6 (fun q => { q with voxLevel := 512 }) (rp6 .idle 0 0)).takeDue (.qualify 6)).port 6).vox = true := by
  decide +kernel

/-- The completion of the same frame answers a next state, with the talk timer of B0 counted; and what is due is taken by
its command or ahead of another, with counts that do not run out. -/
theorem witness_FrameCompletionBringsItsEvents :
    exec (.frameCompletion 0xFFF 0 ⟨0, 0, 0⟩) (inFrame 32 service)
      = .next (after (.frameCompletion 0xFFF 0 ⟨0, 0, 0⟩) (inFrame 32 service))
    ∧ (let s : State := { service with due := [.key 1, .talk 0] }
      s.inReset = false ∧ eventOf (.keyLimit 1) = some (.key 1) ∧ Due.key 1 ∈ s.due ∧ Due.key 2 ∉ s.due
      ∧ eventOf .describe = none ∧ s.due = .key 1 :: [.talk 0])
    ∧ ((service.bridge 0).holder = some ⟨.port 0, 2, 2, some 250⟩ ∧ 1 < 250
      ∧ (service.bridge 3).holder = none)
    ∧ ((service.port 1).key = .keyed ∧ (service.port 1).keyUp + 1 < (service.port 1).setup.keyLimit * 250
      ∧ 1 < ((rp6 .drain 0 3).port 6).setup.lead ∧ 1 < ((rp6 .hang 0 3).port 6).setup.hang
      ∧ 1 < ((rp6 .blank 0 0).port 6).setup.blank ∧ 31 < ((rp6 .cool 30 0).port 6).setup.cooldown * 250)
    ∧ (service.port 0).carrierCount < (service.port 0).setup.csDebounce + 1
    ∧ (service.port 0).quietCount < (service.port 0).setup.voxHold + 1 := ⟨rfl, by decide +kernel⟩

theorem witness_MixerAndMonitorSettings : service.linkReady ∧ (halted service).linkReady
    ∧ 1 < (2 : Byte).toNat ∧ 2 < (3 : Byte).toNat ∧ rateByte .khz16 = 1 ∧ roundingByte .towardZero = 2
    ∧ service.mixer.mode = .run ∧ .khz16 ≠ service.mixer.rate ∧ .khz8 = service.mixer.rate :=
  ⟨service_ready, ready_of (by decide +kernel), by decide +kernel⟩

/-- R94: a port whose blanking CLEAR_BRIDGES ends engages barred, with its pending identity taken up and no bid made. -/
theorem test_clear_engages_barred :
    let t := after .clearBridges (onPort 5 (fun q => { up q with
      key := .blank, carrier := true, pendingId := some ⟨0x0300, 9⟩ }) service)
    (t.port 5).engaged = true ∧ (t.port 5).bar = true ∧ (t.port 5).unit = some 0x0300 ∧ (t.port 5).pendingId = none
    ∧ t.bids = [] ∧ (t.port 0).unit = some 0x0102 ∧ (t.port 0).bar = true ∧ (t.port 1).bar = false := by
  decide +kernel

theorem witness_ClearBridgesAndMixerHalt : service.linkReady ∧ service.engagementRule ∧ (halted service).linkReady
    ∧ (halted service).engagementRule :=
  ⟨service_ready, service_ports.1, ready_of (by decide +kernel), service_ports.1⟩

/-- A talk set that keeps B2, joins B0 and leaves none; and the empty one. -/
theorem witness_ConsoleHoldsItsTalkSet : service.linkReady ∧ (halted service).linkReady ∧ service.settingsInRange
    ∧ service.consoleRule ∧ (halted service).mixer.mode = .halted ∧ service.mixer.mode = .run
    ∧ (0x05 : BridgeSet).getLsbD (2 : BridgeId) = true ∧ service.console.talk.getLsbD (2 : BridgeId) = true :=
  ⟨service_ready, ready_of (by decide +kernel), service_range, service_console, by decide +kernel⟩

/-- The rule of spec/09 9.6, row 4, as WATCH_SET carries it. -/
theorem witness_WatchRulesAreWrittenAndRead : service.linkReady ∧ 7 < (8 : Byte).toNat ∧ 1 < (2 : Byte).toNat
    ∧ 15 < (16 : Byte).toNat ∧ ruleBytes ⟨true, 3, 15, 1, 7, 9⟩ = ruleFieldBytes ⟨1, 3, 15, 1, 7, 9⟩ :=
  ⟨service_ready, by decide +kernel⟩

theorem witness_EmergencyDeclareAlertsItsBridges : service.linkReady ∧ 11 < (12 : Byte).toNat
    ∧ (service.port 4).emergency = .active (some 0x0200) ∧ (service.port 0).emergency = .none
    ∧ service.mixer.mode = .run ∧ service.memberOf 0 = some 0 ∧ (service.record 0).alertLength ≠ 0
    ∧ service.effPriority 0 ≠ 4 ∧ (service.port 5).emergency = .none ∧ service.memberOf 5 = none
    ∧ ((after (.emergencyDeclare 0) service).port 0).engaged = true :=
  ⟨service_ready, by decide +kernel⟩

theorem witness_EmergencyClearReachesItsSource : service.linkReady ∧ 11 < (12 : Byte).toNat
    ∧ (service.port 0).emergency = .none ∧ (service.port 4).emergency = .active (some 0x0200)
    ∧ (after (.emergencyDeclare 0) service |>.port 0).emergency = .active none
    ∧ (service.port 4).engaged = false
    ∧ (let z := after (.emergencyDeclare 0) service
      (onPort 0 (fun q => { q with emergency := .none }) z).effPriority 0 ≠ z.effPriority 0
        ∧ (z.port 0).engaged = true ∧ z.memberOf 0 = some 0) :=
  ⟨service_ready, by decide +kernel⟩

theorem witness_FaultClearAndMaskSet : service.linkReady ∧ 21 < (22 : Byte).toNat
    ∧ 2 ^ flagCount srcDevice ≤ (4 : Byte).toNat ∧ (3 : Byte).toNat < 2 ^ flagCount srcDevice
    ∧ (0x3F : Byte).toNat < 2 ^ flagCount (srcPort 11) ∧ 2 ^ flagCount (srcPort 11) ≤ (0x40 : Byte).toNat
    ∧ 1 < (2 : Byte).toNat ∧ srcPort 11 ≠ srcDevice :=
  ⟨service_ready, by decide +kernel⟩

theorem witness_FlagsDriveAttnAndNotices : flagDirectoryFull < flagCount srcDevice
    ∧ flagTalkClip < flagCount (srcBridge 7) ∧ flagOutputClip < flagCount (srcPort 11) := by decide

/-- The receiver in each state that spec/11 R182 lists, at the boundary lengths. -/
theorem witness_LinkReceiverActsByState :
    let rx (r : LinkRx) : State := { service with link := { service.link with rx := r } }
    service.calm ∧ service.link.lineWait = false ∧ service.link.rx = .hunting ∧ service.link.replies.length < 4
    ∧ (0x5B : Byte) ≠ 0x5A ∧ 4 ≤ (List.replicate 4 (Place.formed [])).length
    ∧ (rx .length).link.rx = .length ∧ (60 : Byte).toNat ≤ 60 ∧ 60 < (61 : Byte).toNat
    ∧ (rx (.kind 0)).link.rx = .kind 0 ∧ (rx (.kind 1)).link.rx = .kind (0 + 1)
    ∧ (rx (.payload 2 7 [])).link.rx = .payload 2 7 [] ∧ ([] : List Byte).length + 1 < 2
    ∧ (rx (.payload 2 7 [1])).link.rx = .payload 2 7 [1] ∧ 2 ≤ ([1] : List Byte).length + 1
    ∧ (rx (.check 7 [1])).link.rx = .check 7 [1] ∧ (rx .length).link.rx ≠ .hunting
    ∧ (after .linkCharacterDiscarded service).link.lineWait = true :=
  ⟨service_calm, by decide +kernel⟩

theorem witness_FramesAreJudgedInOrder :
    let s : State := { service with link := { service.link with rx := .check 0x0B [0] } }
    service.linkReady ∧ s.calm ∧ switching.calm ∧ s.link.lineWait = false ∧ s.link.rx = .check 0x0B [0]
    ∧ (0x0B : Byte) + byteSum [0] + 0xF4 ≠ 0 ∧ (0x0B : Byte) + byteSum [0] + 0xF5 = 0
    ∧ s.plans.switchPending = false ∧ 0x1C < (0x1D : Byte).toNat ∧ (0x1D : Byte) + byteSum [] + 0xE3 = 0
    ∧ requestLength 0x0B = some 1 ∧ ([] : List Byte).length ≠ 1 ∧ (0x0B : Byte) + byteSum [] + 0xF5 = 0
    ∧ (List.replicate 60 (0 : Byte)).length ≤ 60
    ∧ switching.link.ready = true ∧ Place.reserved ∉ switching.link.replies
    ∧ switching.plans.switchPending = true ∧ requestFrame (.bridgeRead 0) = some (0x0B, [0]) :=
  ⟨service_ready, by unfold State.calm; decide +kernel, by unfold State.calm; decide +kernel, by decide +kernel⟩

/-- The transmitter idle and sending, with a reply at the head, with none, and with nothing to send; of sources 3 and 14
after 12 the next is 14, and after 14 it is 3. -/
theorem witness_TransmitterSendsRepliesThenNotices :
    (linkAt 12 [3, 14] none).calm ∧ (linkAt 12 [3, 14] none).link.tx = none
    ∧ (linkAt 12 [3, 14] none).link.replies.head? = none
    ∧ (let s := linkAt 12 [3, 14] none
      s.notices.marks[srcPort 4] = true ∧ ∀ other : Source, s.notices.marks[other] = true →
        (srcPort 4 - s.link.lastSource - 1).val ≤ (other - s.link.lastSource - 1).val)
    ∧ (let s := linkAt 14 [3, 14] none
      s.notices.marks[srcBridge 1] = true ∧ ∀ other : Source, s.notices.marks[other] = true →
        (srcBridge 1 - s.link.lastSource - 1).val ≤ (other - s.link.lastSource - 1).val)
    ∧ (linkAt 21 [0] none).notices.marks[srcDevice] = true ∧ (linkAt 0 [1] none).notices.marks[srcConsole] = true
    ∧ (linkAt 12 [] (some [])).link.tx ≠ none
    ∧ (∀ src : Source, (linkAt 12 [] (some [])).notices.marks[src] = false)
    ∧ (after .describe service).link.replies = [.formed (replyFrame 0x01 (0x00 :: service.description))] := by
  unfold State.calm; decide +kernel

theorem witness_FrameBytesActAsTheirRequest : requestFrame (.bridgeRead 0) = some (0x0B, [0])
    ∧ service.calm ∧ service.link.ready = true ∧ Place.reserved ∉ service.link.replies :=
  ⟨rfl, service_calm, by decide +kernel, by decide +kernel⟩

/-- RP4 with even parity: the good and the bad report of R26 and the bad characters of spec/02 2.1. -/
theorem witness_DataCharactersAreJudged : (rp4 []).calm ∧ (service.port 0).receiver = .idle
    ∧ (service.port 4).receiver = .hunting ∧ (service.port 4).lineWait = false
    ∧ ((rp4 [1]).port 4).receiver = .assembling [1] 0 ∧ parityGood .even 0x34 true = true
    ∧ parityGood .even 0x34 false = false ∧ ([1] : List Byte).length < 3
    ∧ ((rp4 [1, 0x12, 0x34]).port 4).receiver = .assembling [1, 0x12, 0x34] 0
    ∧ (1 : Byte) + 0x12 + 0x34 + 0xB8 ≠ 0 ∧ 3 < (4 : Byte).toNat ∧ ((0xFF : Byte) ++ (0xFF : Byte) : Half) = 0xFFFF :=
  ⟨by unfold State.calm; decide +kernel, by decide +kernel⟩

theorem witness_ReportCharactersActAsTheirReport : service.calm ∧ (service.port 4).receiving = true
    ∧ WellFormed (.ident 4 0x1234) = true ∧ WellFormed (.emerg 4 0x1234) = true
    ∧ WellFormed (.emergClear 4 0x1234) = true := ⟨service_calm, by decide +kernel⟩

theorem witness_ReportTimeoutsAndLineWaitEnd :
    let s : State := { onPort 4 (fun q => { q with
      receiver := .assembling [1] 25, pendingId := some ⟨303, 0⟩ }) service with due := [.age 4, .window 4] }
    s.inReset = false ∧ Due.age 4 ∈ s.due ∧ (s.port 4).receiver = .assembling [1] 25 ∧ Due.window 4 ∈ s.due
    ∧ (s.port 4).pendingId = some ⟨303, 0⟩ := by decide +kernel

theorem witness_ReportsReachTheDirectoryFirst : service.dir.find 0x0102 = some 0
    ∧ service.dir.at (hashSet 0x0102) 0 = some ⟨0x0102, .registered, 1, 2, some 2, false, none, 0⟩
    ∧ service.dir.find 0x1600 = none ∧ service.dir.room (hashSet 0x1600) = some 0
    ∧ fullSet.dir.find 0x1600 = none ∧ fullSet.dir.room (hashSet 0x1600) = none := by decide +kernel

/-- RP0, engaged and hunting for a report, with a watch rule for agency 1 and role 2 that names B1. -/
def reporting : State := { onPort 0 (fun q => { q with receiver := .hunting }) service with
  watch := service.watch.set 4 ⟨true, 1, 15, 2, 7, 0x02⟩ }

/-- R29, R164: the EMERG of 0x0102 alerts B0 by membership and B1 by its entry's attributes; 0x0102 talks on. -/
theorem test_emerg_alerts :
    let t := after (.emerg 0 0x0102) reporting
    (t.bridge 0).burst = 750 ∧ (t.bridge 1).burst = 750 ∧ (t.bridge 3).burst = 0
    ∧ (t.port 0).unit = some 0x0102 ∧ (t.port 0).emergency = .active (some 0x0102)
    ∧ (t.bridge 0).holder.map (·.priority) = some 4 ∧ (t.dir.entry 0x0102).map (·.emergency) = some true := by
  decide +kernel

/-- RP4, in an emergency whose source is 0x0200, and RP0, in none, each with its receiver hunting; 0x1107 of fullSet is
flagged; RP0's priority changes with its emergency. -/
theorem witness_ReportsActOnIdentityAndEmergency : service.calm ∧ reporting.calm ∧ (service.port 4).receiving = true
    ∧ (reporting.port 0).receiving = true ∧ (reporting.port 0).emergency = .none
    ∧ WellFormed (.ident 4 0x1107) = true ∧ WellFormed (.emergClear 4 0x0200) = true
    ∧ WellFormed (.emerg 0 0x0102) = true
    ∧ fullSet.unitFlagged 0x1107 = true ∧ service.unitFlagged 0x1234 = false
    ∧ (service.port 4).emergency = .active (some 0x0200) ∧ (service.port 4).engaged = false
    ∧ service.memberOf 4 = some 1
    ∧ (let z := onPort 0 (fun q => { q with emergency := .active none }) reporting
      z.effPriority 0 ≠ reporting.effPriority 0 ∧ (z.port 0).engaged = true ∧ z.memberOf 0 = some 0)
    ∧ (∀ r : PortId, (service.port r).emergency ≠ .active (some 0x1234)) :=
  ⟨service_calm, by unfold State.calm; decide +kernel, by decide +kernel⟩

/-- Every premise of the invariants' statements, in one state with a command in front. -/
theorem witness_EveryStepKeeps :
    let s : State := { service with pending := [.portStop 0] }
    (∃ t : State, step s = .next t) ∧ s.ringsSound ∧ s.positionsEqual ∧ s.planRule ∧ s.directoryRule
    ∧ s.engagementRule ∧ s.inactiveHeld ∧ s.keyLimitRule ∧ s.countsAtRest ∧ s.namedOnce ∧ s.placesHeld
    ∧ s.bids = [] ∧ s.placesTaken ∧ s.stacksBounded ∧ s.freeBridgesEmpty ∧ s.holderPriorities ∧ s.queuesOrdered
    ∧ s.settingsInRange ∧ s.consoleRule ∧ s.burstRule ∧ s.flagsExist ∧ s.replyRule ∧ s.mixerRule
    ∧ s.quiet ∧ (s.pending = .portStop 0 :: [] ∧ s.due = [] ∧ s.link.rx = .hunting ∧ WellFormed (.portStop 0) = true
      ∧ requestFrame (.talkTimerExpiry 0) = none) :=
  ⟨service_steps, service_rings.1, service_rings.2, service_places.2.2, service_directory, service_ports.1,
    service_ports.2.2.1, service_ports.2.2.2.1, service_ports.2.2.2.2, service_places.1, service_places.2.1,
    rfl, service_taken, service_bridges.1, service_bridges.2.1, service_priorities, service_bridges.2.2,
    service_range, service_console, service_notices.1, service_notices.2, service_link, service_mixer,
    service_quiet, by decide +kernel⟩

end Sys2Proof.Machine.Tests
end

section
/-! SUPPORT. PORT_SETUP (R2): what its fields spell, the record it carries, and the write of that record. -/

namespace Sys2Proof.Machine

/-! ## Enumerated fields and switches read back what is written, and nothing else (R189) -/

theorem qualifyOf_eq_some_iff {b : Byte} {m : QualifyMode} : qualifyOf b = some m ↔ qualifyByte m = b := by
  constructor
  · unfold qualifyOf; split_ifs <;> rintro ⟨⟩ <;> exact Eq.symm ‹_›
  · rintro rfl; cases m <;> rfl

theorem polarityOf_eq_some_iff {b : Byte} {l : Polarity} : polarityOf b = some l ↔ polarityByte l = b := by
  constructor
  · unfold polarityOf; split_ifs <;> rintro ⟨⟩ <;> exact Eq.symm ‹_›
  · rintro rfl; cases l <;> rfl

theorem switchOf_eq_some_iff {b : Byte} {on : Bool} : switchOf b = some on ↔ switchByte on = b := by
  constructor
  · unfold switchOf; split_ifs <;> rintro ⟨⟩ <;> exact Eq.symm ‹_›
  · rintro rfl; cases on <;> rfl

theorem dataRateOf_eq_some_iff {b : Byte} {r : DataRate} : dataRateOf b = some r ↔ dataRateByte r = b := by
  constructor
  · unfold dataRateOf; split_ifs <;> rintro ⟨⟩ <;> exact Eq.symm ‹_›
  · rintro rfl; cases r <;> rfl

theorem parityOf_eq_some_iff {b : Byte} {y : Parity} : parityOf b = some y ↔ parityByte y = b := by
  constructor
  · unfold parityOf; split_ifs <;> rintro ⟨⟩ <;> exact Eq.symm ‹_›
  · rintro rfl; cases y <;> rfl

theorem qualifyOf_isSome_iff {b : Byte} : (qualifyOf b).isSome ↔ b.toNat ≤ 2 := by
  unfold qualifyOf; split_ifs <;> simp <;> bv_omega

theorem polarityOf_isSome_iff {b : Byte} : (polarityOf b).isSome ↔ b.toNat ≤ 1 := by
  unfold polarityOf; split_ifs <;> simp <;> bv_omega

theorem switchOf_isSome_iff {b : Byte} : (switchOf b).isSome ↔ b.toNat ≤ 1 := by
  unfold switchOf; split_ifs <;> simp <;> bv_omega

theorem dataRateOf_isSome_iff {b : Byte} : (dataRateOf b).isSome ↔ b.toNat ≤ 3 := by
  unfold dataRateOf; split_ifs <;> simp <;> bv_omega

theorem parityOf_isSome_iff {b : Byte} : (parityOf b).isSome ↔ b.toNat ≤ 2 := by
  unfold parityOf; split_ifs <;> simp <;> bv_omega

/-! ## Port numbers, clamping and two-byte fields -/

@[simp] theorem portOf_natByte (p : PortId) : portOf (natByte p.val) = some p := by
  have h : (natByte p.val).toNat = p.val := by simp [natByte]; omega
  simp [portOf, h]

theorem portOf_eq_none {n : Byte} (h : 11 < n.toNat) : portOf n = none := by
  simp [portOf]; omega

theorem clamp_zero (hi n : Nat) : clamp 0 hi n = min n hi := by rw [clamp, Nat.zero_max, Nat.min_comm]

/-- A field cut off at an upper end comes back as it was exactly where it is not above that end. -/
theorem ofNat_min_eq_iff {w : Nat} (b : BitVec w) (hi : Nat) :
    BitVec.ofNat w (min b.toNat hi) = b ↔ b.toNat ≤ hi := by
  have h : min b.toNat hi < 2 ^ w := (Nat.min_le_left ..).trans_lt b.isLt
  rw [← BitVec.toNat_inj, BitVec.toNat_ofNat, Nat.mod_eq_of_lt h, min_eq_left_iff]

theorem natByte_min_eq_iff (b : Byte) (hi : Nat) : natByte (min b.toNat hi) = b ↔ b.toNat ≤ hi :=
  ofNat_min_eq_iff b hi

/-- The cooldown alone has a lower end above 0 (R1). -/
theorem natByte_cooldown_eq_iff (b : Byte) :
    natByte (max 1 (min b.toNat 60)) = b ↔ 1 ≤ b.toNat ∧ b.toNat ≤ 60 := by
  rw [← BitVec.toNat_inj, natByte, BitVec.toNat_ofNat]; omega

theorem halfAt_halfBytes (w : Half) : (w.extractLsb' 8 8 ++ w.extractLsb' 0 8 : Half) = w := by
  rw [BitVec.extractLsb'_append_extractLsb'_eq_extractLsb'] <;> simp

/-! ## The record that a PORT_SETUP carries (R2 steps 2 and 3) -/

/-- A record is read exactly where every enumerated field is inside its list (R2 step 2). -/
theorem readSetup_isSome_iff {f : SetupFields} : (readSetup f).isSome ↔ setupListed f := by
  unfold setupListed readSetup
  rw [← qualifyOf_isSome_iff, ← polarityOf_isSome_iff, ← polarityOf_isSome_iff, ← switchOf_isSome_iff,
    ← dataRateOf_isSome_iff, ← parityOf_isSome_iff, ← polarityOf_isSome_iff]
  split
  · simp [*]
  · next unlisted =>
    simp only [Option.isSome_none, Bool.false_eq_true, false_iff, Option.isSome_iff_exists]
    rintro ⟨⟨_, hm⟩, ⟨_, hc⟩, ⟨_, hk⟩, ⟨_, hl⟩, ⟨_, hr⟩, ⟨_, hy⟩, ⟨_, hv⟩⟩
    exact unlisted _ _ _ _ _ _ _ hm hc hk hl hr hy hv

/-- The record that is read is the one carried, each numeric field clamped, and no other (R2 step 3). -/
theorem readSetup_eq_some_iff {f : SetupFields} {q : Setup} : readSetup f = some q ↔ q.carriedBy f := by
  unfold Setup.carriedBy
  simp only [← qualifyOf_eq_some_iff, ← polarityOf_eq_some_iff, ← switchOf_eq_some_iff, ← dataRateOf_eq_some_iff,
    ← parityOf_eq_some_iff]
  constructor
  · intro h
    unfold readSetup at h
    split at h
    · cases h
      simp [*, clamp, Nat.min_comm]
    · cases h
  · rintro ⟨hm, hc, debounce, threshold, hold, rx, tx, hk, lead, hang, blank, limit, cool, priority, hagency, hrole,
      hl, hr, hy, hv⟩
    have agency : BitVec.ofNat 4 (min f.homeAgency.toNat 15) = q.homeAgency := by rw [← hagency]; simp
    have role : BitVec.ofNat 3 (min f.homeRole.toNat 7) = q.homeRole := by rw [← hrole]; simp
    have cooldown : clamp 1 60 f.cooldown.toNat = q.cooldown := by rw [cool, clamp, Nat.min_comm]
    simp only [readSetup, hm, hc, hk, hl, hr, hy, hv, clamp_zero, agency, role, cooldown, ← debounce, ← threshold,
      ← hold, ← rx, ← tx, ← lead, ← hang, ← blank, ← limit, ← priority]

/-! ## When nothing was clamped -/

/-- The fields of a PORT_SETUP that spell a record. -/
def Setup.fields (q : Setup) : SetupFields where
  qualify := qualifyByte q.qualify
  csPolarity := polarityByte q.csPolarity
  csDebounce := natByte q.csDebounce
  voxThreshold := BitVec.ofNat 16 q.voxThreshold
  voxHold := natByte q.voxHold
  rxGain := BitVec.ofNat 16 q.rxGain
  txGain := BitVec.ofNat 16 q.txGain
  keyPolarity := polarityByte q.keyPolarity
  lead := natByte q.lead
  hang := natByte q.hang
  blank := natByte q.blank
  keyLimit := BitVec.ofNat 16 q.keyLimit
  cooldown := natByte q.cooldown
  priority := natByte q.priority
  homeAgency := natByte q.homeAgency.toNat
  homeRole := natByte q.homeRole.toNat
  dataLine := switchByte q.dataLine
  dataRate := dataRateByte q.dataRate
  dataParity := parityByte q.dataParity
  presencePolarity := polarityByte q.presencePolarity

theorem setupFieldBytes_fields (q : Setup) : setupFieldBytes q.fields = setupBytes q := rfl

@[simp] theorem length_setupFieldBytes (f : SetupFields) : (setupFieldBytes f).length = 24 := rfl

/-- The payload of a PORT_SETUP gives back the fields that it carries (R190). -/
theorem setupFieldsOf_setupFieldBytes (n : Byte) (f : SetupFields) :
    setupFieldsOf (n :: setupFieldBytes f) = f := by
  simp [setupFieldsOf, setupFieldBytes, halfBytes, halfAt, byteAt, halfAt_halfBytes]

theorem asCarried_iff_fields {q : Setup} {f : SetupFields} : q.asCarried f ↔ q.fields = f := by
  constructor
  · intro (h : setupBytes q = setupFieldBytes f)
    rw [← setupFieldsOf_setupFieldBytes 0 q.fields, setupFieldBytes_fields, h, setupFieldsOf_setupFieldBytes]
  · rintro rfl; exact (setupFieldBytes_fields q).symm

/-- No numeric field lies outside its range exactly where the record spells what the request carries (R2 step 3). -/
theorem setupClamped_eq_false_iff {q : Setup} {f : SetupFields} (h : q.carriedBy f) :
    setupClamped f = false ↔ q.asCarried f := by
  unfold Setup.carriedBy at h
  rw [asCarried_iff_fields]
  cases f
  simp only [Setup.fields, SetupFields.mk.injEq, h, natByte_min_eq_iff, ofNat_min_eq_iff, natByte_cooldown_eq_iff]
  simp [setupClamped, and_assoc, Nat.one_le_iff_ne_zero]

/-- The reply of a write: CLAMPED exactly where a field was (R2 step 3, R186). -/
theorem okOr_setupClamped {q : Setup} {f : SetupFields} (h : q.carriedBy f) :
    okOr (setupClamped f) = 0x00 ∧ q.asCarried f ∨ okOr (setupClamped f) = 0x01 ∧ ¬ q.asCarried f := by
  rw [← setupClamped_eq_false_iff h]
  cases setupClamped f
  · exact .inl ⟨rfl, rfl⟩
  · exact .inr ⟨rfl, nofun⟩

/-! ## A new effective priority (R3, R76) -/

theorem handPriority_unchanged {s : State} {p : PortId} {old : Nat}
    (h : s.effPriority p = old ∨ (s.port p).engaged = false ∨ s.memberOf p = none) : s.handPriority p old = s := by
  unfold State.handPriority
  split
  · rfl
  · next changed =>
    simp only [Bool.or_eq_true, decide_eq_true_eq, Bool.not_eq_true', not_or] at changed
    rw [h.resolve_left changed.1 |>.resolve_left changed.2]

theorem handPriority_of_member {s : State} {p : PortId} {old : Nat} {b : BridgeId} (hp : s.effPriority p ≠ old)
    (he : (s.port p).engaged = true) (hb : s.memberOf p = some b) :
    s.handPriority p old = (s.takePriority b p).handOn := by
  simp [State.handPriority, hp, he, hb]

theorem handPriority_link (s : State) (p : PortId) (old : Nat) : (s.handPriority p old).link = s.link := by
  have link := congrArg State.link (handPriority_backdrop s p old)
  exact link

/-! ## The steps of PORT_SETUP (R2) -/

/-- The live-field test of the model and the condition of the statement agree (R2 step 4). -/
theorem sameButLive_iff {old q : Setup} : sameButLive old q = true ↔ q.liveChangeOf old := by
  unfold sameButLive Setup.liveChangeOf
  cases old; cases q
  simp only [decide_eq_true_eq, Setup.mk.injEq]
  constructor <;> intro h <;> simp [h]

@[simp] theorem writeSetup_withLink (s : State) (l : Link) (p : PortId) (q : Setup) :
    (s.withLink l).writeSetup p q = (s.writeSetup p q).withLink l := by
  simp [State.writeSetup]

theorem setupPort_of_noPort {n : Byte} {f : SetupFields} (h : portOf n = none) (s : State) :
    setupPort n f s = (s, some (.bare resRefusedRange)) := by
  simp [setupPort, h, State.refuse]

theorem setupPort_of_unlisted {n : Byte} {f : SetupFields} (h : readSetup f = none) (s : State) :
    setupPort n f s = (s, some (.bare resRefusedRange)) := by
  unfold setupPort; rw [h]; cases portOf n <;> rfl

theorem setupPort_of_notLive {f : SetupFields} {p : PortId} {q : Setup} {s : State} (hq : q.carriedBy f)
    (ho : (s.port p).lifecycle ≠ .off) (hl : ¬ q.liveChangeOf (s.port p).setup) :
    setupPort (natByte p.val) f s = (s, some (.bare resRefusedState)) := by
  rw [← sameButLive_iff, Bool.not_eq_true] at hl
  simp [setupPort, readSetup_eq_some_iff.mpr hq, ho, hl, State.refuse]

theorem setupPort_of_taken {f : SetupFields} {p : PortId} {q : Setup} {s : State} (hq : q.carriedBy f)
    (h : (s.port p).lifecycle = .off ∨ q.liveChangeOf (s.port p).setup) :
    setupPort (natByte p.val) f s = (s.writeSetup p q, some (.bare (okOr (setupClamped f)))) := by
  rw [← sameButLive_iff] at h
  rcases h with h | h <;> simp [setupPort, readSetup_eq_some_iff.mpr hq, h]

theorem exec_portSetup (n : Byte) (f : SetupFields) (s : State) :
    exec (.portSetup n f) s = request 0x02 (n :: setupFieldBytes f) (setupPort n f) s := rfl

/-- A PORT_SETUP that changes nothing is answered with a bare result. -/
theorem exec_portSetup_refused {s : State} {n : Byte} {f : SetupFields} {code : Byte} (h : s.linkReady)
    (hact : setupPort n f s.accepting = (s.accepting, some (.bare code))) :
    exec (.portSetup n f) s = .next (s.answered 0x02 [code]) :=
  request_unchanged (a := .bare code) h 0x02 (by simp [Config.maxPayload]) hact

/-- A PORT_SETUP that is taken writes the record, and its reply says whether a field was clamped (R2 steps 3 and 5). -/
theorem exec_portSetup_taken {s : State} {f : SetupFields} {p : PortId} {q : Setup} (h : s.linkReady)
    (hq : q.carriedBy f) (ht : (s.port p).lifecycle = .off ∨ q.liveChangeOf (s.port p).setup) :
    exec (.portSetup (natByte p.val) f) s
      = .next ((s.writeSetup p q).answered 0x02 [okOr (setupClamped f)]) := by
  rw [exec_portSetup]
  refine request_of_withLink (a := .bare _) h 0x02 (by simp [Config.maxPayload]) (fun l => ?_) (handPriority_link ..)
  rw [setupPort_of_taken (s := s.withLink l) hq ht, writeSetup_withLink]; rfl

/-- Settles O7: each refusal by the step that fails, and a taken write by what its new effective priority hands on. -/
theorem portSetupFirstFailingStepDecides : Obligations.PortSetupFirstFailingStepDecides := by
  intro s f hs
  refine ⟨fun n hn => exec_portSetup_refused hs (setupPort_of_noPort (portOf_eq_none hn) _), fun p => ⟨?_, ?_, ?_⟩⟩
  · intro unlisted
    rw [← readSetup_isSome_iff, Option.not_isSome_iff_eq_none] at unlisted
    exact exec_portSetup_refused hs (setupPort_of_unlisted unlisted _)
  · intro listed
    obtain ⟨q, hq⟩ := Option.isSome_iff_exists.mp (readSetup_isSome_iff.mpr listed)
    exact ⟨q, readSetup_eq_some_iff.mp hq⟩
  · intro q hq
    refine ⟨fun ho hl => exec_portSetup_refused hs (setupPort_of_notLive (s := s.accepting) hq ho hl), fun ht => ?_⟩
    let u := s.setPort p { s.port p with setup := q }
    have engaged : (u.port p).engaged = (s.port p).engaged := by simp [u]
    refine ⟨_, u, _, exec_portSetup_taken hs hq ht, okOr_setupClamped hq, rfl, ?_, ?_, ?_⟩
    · exact congrArg (State.answered _ _) (handPriority_backdrop u p _)
    · intro same
      rw [← engaged] at same
      exact congrArg (State.answered _ _) (handPriority_unchanged same)
    · intro b changed he hb
      exact congrArg (State.answered _ _) (handPriority_of_member changed (engaged.trans he) hb)

end Sys2Proof.Machine
end

section
/-! SUPPORT. Reading and purging the unit directory (R45, R46): what UNIT_READ answers in each of its forms, what a
purge leaves in every place, and what the directory answers for a unit after it. -/

namespace Sys2Proof.Machine

/-! ## What a read answers (R45) -/

theorem validUnit_eq_false_iff {u : UnitId} : validUnit u = false ↔ u = 0 ∨ u = 0xFFFF := by
  simp only [validUnit, Bool.and_eq_false_iff, bne_eq_false_iff_eq]

/-- The answer to a read of one place: its entry, or NOT_FOUND where it is free. -/
def Directory.placeAnswer (d : Directory) (set : Fin 16) (way : Fin 4) : Answer :=
  match d.at set way with
  | some e => .ok (entryBytes set way e)
  | none => .bare resNotFound

theorem readPlace_eq (s : State) (set : Fin 16) (way : Fin 4) :
    s.readPlace set way = (s, some (s.dir.placeAnswer set way)) := by
  unfold State.readPlace Directory.placeAnswer
  cases s.dir.at set way <;> rfl

theorem placeAnswer_of_free {d : Directory} {set : Fin 16} {way : Fin 4} (h : d.at set way = none) :
    (d.placeAnswer set way).payload = [0x09] := by
  simp [Directory.placeAnswer, h, Answer.payload, Answer.bare, resNotFound]

/-- The reply to a read of an entry, byte for byte (R45, R190). -/
theorem placeAnswer_of_entry {d : Directory} {set : Fin 16} {way : Fin 4} {e : Entry} (h : d.at set way = some e) :
    (d.placeAnswer set way).payload = [0x00] ++ halfBytes e.unit ++ [natByte set.val, natByte way.val,
      kindByte e.kind, natByte e.agency.toNat, natByte e.role.toNat, overrideByte e.override,
      switchByte e.emergency, (e.lastPort.map fun p => natByte p.val).getD 0xFF] := by
  simp only [Directory.placeAnswer, h, Answer.payload, Answer.ok, resOk, entryBytes]
  cases e.lastPort <;> rfl

theorem readUnit_of_noForm {form : Byte} (h : 1 < form.toNat) (x y : Byte) (s : State) :
    readUnit form x y s = (s, some (.bare resRefusedRange)) := by
  have byId : form ≠ 0 := by bv_omega
  have byPlace : form ≠ 1 := by bv_omega
  unfold readUnit
  rw [if_neg byId, if_neg byPlace]; rfl

theorem readUnit_byId_of_invalid {x y : Byte} (h : validUnit (x ++ y : Half) = false) (s : State) :
    readUnit 0 x y s = (s, some (.bare resRefusedRange)) := by
  simp [readUnit, h, State.refuse]

theorem readUnit_byId_of_unknown {x y : Byte} {s : State} (h : validUnit (x ++ y : Half) ≠ false)
    (unknown : s.dir.find (x ++ y) = none) : readUnit 0 x y s = (s, some (.bare resNotFound)) := by
  simp [readUnit, h, unknown, State.refuse]

theorem readUnit_byId_of_found {x y : Byte} {s : State} {w : Fin 4} (h : validUnit (x ++ y : Half) ≠ false)
    (found : s.dir.find (x ++ y) = some w) :
    readUnit 0 x y s = (s, some (s.dir.placeAnswer (hashSet (x ++ y)) w)) := by
  simp [readUnit, h, found, readPlace_eq]

theorem readUnit_byPlace_of_noPlace {x y : Byte} (h : 15 < x.toNat ∨ 3 < y.toNat) (s : State) :
    readUnit 1 x y s = (s, some (.bare resRefusedRange)) := by
  have noPlace : ¬ (x.toNat < 16 ∧ y.toNat < 4) := by omega
  simp [readUnit, noPlace, State.refuse]

theorem readUnit_byPlace (set : Fin 16) (way : Fin 4) (s : State) :
    readUnit 1 (natByte set.val) (natByte way.val) s = (s, some (s.dir.placeAnswer set way)) := by
  have hset : (natByte set.val).toNat = set.val := by simp [natByte]; omega
  have hway : (natByte way.val).toNat = way.val := by simp [natByte]; omega
  simp [readUnit, hset, hway, readPlace_eq]

/-- A UNIT_READ changes nothing and is answered with what the read comes to. -/
theorem exec_unitRead {s : State} {form x y : Byte} {a : Answer} (h : s.linkReady)
    (hact : readUnit form x y s.accepting = (s.accepting, some a)) :
    exec (.unitRead form x y) s = .next (s.answered 0x0F a.payload) :=
  request_unchanged h 0x0F (by simp [Config.maxPayload]) hact

/-- Settles O16: each form and each refusal of it by the branch of `readUnit` it takes, and the bytes of what is
found. -/
theorem unitReadAnswersOneEntry : Obligations.UnitReadAnswersOneEntry := by
  intro s hs reply
  have reply_eq (set : Fin 16) (way : Fin 4) : (s.dir.placeAnswer set way).payload = reply set way := by
    unfold reply
    cases place : s.dir.at set way with
    | none => exact placeAnswer_of_free place
    | some e => exact placeAnswer_of_entry place
  refine ⟨?_, ?_, ?_, ?_, ?_⟩
  · intro form x y noForm
    exact exec_unitRead hs (readUnit_of_noForm noForm x y _)
  · intro x y invalid
    exact exec_unitRead hs (readUnit_byId_of_invalid (validUnit_eq_false_iff.mpr invalid) _)
  · intro x y notZero notOnes
    have valid : validUnit (x ++ y : Half) ≠ false := fun h =>
      (validUnit_eq_false_iff.mp h).elim notZero notOnes
    constructor
    · intro unknown
      exact exec_unitRead hs (readUnit_byId_of_unknown (s := s.accepting) valid unknown)
    · intro w found
      rw [← reply_eq]
      exact exec_unitRead hs (readUnit_byId_of_found (s := s.accepting) valid found)
  · intro x y noPlace
    exact exec_unitRead hs (readUnit_byPlace_of_noPlace noPlace _)
  · intro set way
    rw [← reply_eq]
    exact exec_unitRead hs (readUnit_byPlace set way s.accepting)

/-! ## What a purge leaves (R46) -/

/-- Every place loses its entry where that one is replaceable, and keeps it elsewhere. -/
@[simp] theorem Directory.purge_at (d : Directory) (set : Fin 16) (way : Fin 4) :
    d.purge.at set way = (d.at set way).filter fun e => !e.replaceable := by
  simp only [Directory.purge, Directory.at, Fin.getElem_fin, Vector.getElem_map]
  cases d.places[set.val][way.val] with
  | none => rfl
  | some e => cases h : e.replaceable <;> simp [h, Option.filter_some]

/-- A place that a purge empties is one that held a replaceable entry. -/
theorem Directory.purge_empties (d : Directory) (set : Fin 16) (way : Fin 4) :
    ((d.at set way).isSome && (d.purge.at set way).isNone) = (d.at set way).any (·.replaceable) := by
  rw [Directory.purge_at]
  cases d.at set way with
  | none => rfl
  | some e => cases h : e.replaceable <;> simp [h, Option.filter_some]

/-- The count of a purge is the number of the places that it empties. -/
theorem Directory.purgeCount_eq_emptied (d : Directory) :
    d.purgeCount = (allSets.flatMap fun set => allWays.filter fun way =>
      (d.at set way).isSome && (d.purge.at set way).isNone).length := by
  simp only [Directory.purgeCount, Directory.purge_empties, List.length_flatMap]

/-- 16 sets of 4 ways hold no more than 64 entries. -/
theorem Directory.purgeCount_le (d : Directory) : d.purgeCount ≤ 64 := by
  refine List.sum_le_card_nsmul (n := 4) _ fun n hn => ?_
  obtain ⟨set, -, rfl⟩ := List.mem_map.mp hn
  exact List.length_filter_le _ allWays

/-! ## What the directory answers for a unit (R35, R38) -/

theorem mem_allWays : ∀ w : Fin 4, w ∈ allWays := by decide

/-- A unit's way is the one of its set that holds an entry of it, since no unit has two. -/
theorem find_eq_some_iff {s : State} (h : s.directoryRule) {u : UnitId} {w : Fin 4} :
    s.dir.find u = some w ↔ ∃ e, s.dir.at (hashSet u) w = some e ∧ e.unit = u := by
  have holds {v : Fin 4} (found : s.dir.find u = some v) : ∃ e, s.dir.at (hashSet u) v = some e ∧ e.unit = u := by
    unfold Directory.find at found
    simpa [Option.any_eq_true] using List.find?_some found
  constructor
  · exact holds
  · rintro ⟨e, at_w, rfl⟩
    obtain ⟨v, found⟩ : ∃ v, s.dir.find e.unit = some v := by
      rw [← Option.isSome_iff_exists, Directory.find, List.find?_isSome]
      exact ⟨w, mem_allWays w, by simp [at_w]⟩
    obtain ⟨e', at_v, same⟩ := holds found
    obtain ⟨-, -, -, unique⟩ := h _ w e at_w
    rw [found, unique v e' at_v same]

/-- The entry that the directory answers for a unit is the one of that unit in its set. -/
theorem entry_eq_some_iff {s : State} (h : s.directoryRule) {u : UnitId} {e : Entry} :
    s.dir.entry u = some e ↔ ∃ w, s.dir.at (hashSet u) w = some e ∧ e.unit = u := by
  simp only [Directory.entry, Option.bind_eq_some_iff, find_eq_some_iff h]
  constructor
  · rintro ⟨w, ⟨e', at_w, rfl⟩, he⟩
    obtain rfl : e' = e := Option.some.inj (at_w.symm.trans he)
    exact ⟨w, at_w, rfl⟩
  · rintro ⟨w, at_w, unit⟩
    exact ⟨w, ⟨e, at_w, unit⟩, at_w⟩

/-- A purge keeps the directory's rule: what it leaves stood there before. -/
theorem directoryRule_purge {s : State} (h : s.directoryRule) :
    ({ s with dir := s.dir.purge } : State).directoryRule := by
  have stood {set : Fin 16} {way : Fin 4} {e : Entry} (he : s.dir.purge.at set way = some e) :
      s.dir.at set way = some e := by
    rw [Directory.purge_at, Option.filter_eq_some_iff] at he
    exact he.1
  intro set way e he
  obtain ⟨hash, valid, learned, unique⟩ := h set way e (stood he)
  exact ⟨hash, valid, learned, fun other e' he' => unique other e' (stood he')⟩

/-- After a purge a unit has its entry of before where that one is not replaceable, and none elsewhere. -/
theorem purge_entry {s : State} (h : s.directoryRule) (u : UnitId) :
    s.dir.purge.entry u = (s.dir.entry u).filter fun e => !e.replaceable := by
  ext e
  rw [Option.filter_eq_some_iff, entry_eq_some_iff h]
  refine (entry_eq_some_iff (directoryRule_purge h)).trans ?_
  simp only [Directory.purge_at, Option.filter_eq_some_iff]
  constructor
  · rintro ⟨w, ⟨at_w, kept⟩, unit⟩; exact ⟨⟨w, at_w, unit⟩, kept⟩
  · rintro ⟨⟨w, at_w, unit⟩, kept⟩; exact ⟨w, ⟨at_w, kept⟩, unit⟩

theorem replaceable_iff {e : Entry} : e.replaceable = true ↔ e.kind = .learned ∧ e.emergency = false := by
  simp [Entry.replaceable]

/-- A replaceable entry is LEARNED, so it has no override priority (R34, R40). -/
theorem override_of_replaceable {s : State} (h : s.directoryRule) {u : UnitId} {e : Entry}
    (he : s.dir.entry u = some e) (hr : e.replaceable = true) : e.override = none := by
  obtain ⟨w, at_w, -⟩ := (entry_eq_some_iff h).mp he
  obtain ⟨-, -, learned, -⟩ := h _ w e at_w
  exact learned (replaceable_iff.mp hr).1

/-- A purge changes no override priority: the entries that it removes carry none (R46). -/
theorem overrideFor_purge {s : State} (h : s.directoryRule) (u : Option UnitId) :
    ({ s with dir := s.dir.purge } : State).overrideFor u = s.overrideFor u := by
  cases u with
  | none => rfl
  | some u =>
    change (s.dir.purge.entry u).bind (·.override) = (s.dir.entry u).bind (·.override)
    rw [purge_entry h]
    cases he : s.dir.entry u with
    | none => rfl
    | some e =>
      cases hr : e.replaceable with
      | false => simp [hr, Option.filter_some]
      | true => simp [hr, Option.filter_some, override_of_replaceable h he hr]

/-- The effective priority of a port depends on the directory by its unit's override priority alone (R75). -/
theorem effPriority_congr {s t : State} {p : PortId} (ports : t.port p = s.port p)
    (override : t.overrideFor (s.port p).unit = s.overrideFor (s.port p).unit) :
    t.effPriority p = s.effPriority p := by
  simp only [State.effPriority, ports, override]

theorem exec_purgeLearned {s : State} (h : s.linkReady) : exec .purgeLearned s
    = .next (({ s with dir := s.dir.purge } : State).answered 0x10 [0x00, natByte s.dir.purgeCount]) :=
  request_of_withLink (a := .ok [natByte s.dir.purgeCount]) h 0x10 (by simp) (fun _ => rfl) rfl

/-- Settles O17: the purge itself, by what it leaves in each place and what the directory then answers for a unit. -/
theorem purgeRemovesLearnedEntries : Obligations.PurgeRemovesLearnedEntries := by
  intro s hs
  refine ⟨_, s.dir.purge, s.dir.purgeCount, exec_purgeLearned hs, rfl, rfl, s.dir.purge_at,
    s.dir.purgeCount_eq_emptied, s.dir.purgeCount_le, ?_⟩
  intro rule p
  exact effPriority_congr rfl (overrideFor_purge rule _)

end Sys2Proof.Machine
end

section
/-! SUPPORT. What every step keeps, packaged once: a property that each operation keeps which a command can bring is kept
by every step. -/

namespace Sys2Proof.Machine

/-- What an accepted request can do (R190): one case for each request kind, and the bare answer to a frame that is refused
as such (R184). -/
inductive Requested : Action → Prop
  | describe : Requested describe
  | setupPort (n : Byte) (f : SetupFields) : Requested (setupPort n f)
  | readPort (n : Byte) : Requested (readPort n)
  | start (n : Byte) : Requested (start n)
  | stop (n : Byte) : Requested (stop n)
  | manual (n level : Byte) : Requested (manual n level)
  | editPlan (n : Byte) (f : RecordFields) : Requested (editPlan n f)
  | readPlan (m n : Byte) : Requested (readPlan m n)
  | copyPlan : Requested copyPlan
  | switchPlan : Requested switchPlan
  | readBridge (n : Byte) : Requested (readBridge n)
  | clearBridges : Requested clearBridges
  | enter (u : Half) (agency role override : Byte) : Requested (enter u agency role override)
  | remove (u : Half) : Requested (remove u)
  | readUnit (form x y : Byte) : Requested (readUnit form x y)
  | purge : Requested purge
  | setWatch (n : Byte) (f : RuleFields) : Requested (setWatch n f)
  | readWatch (n : Byte) : Requested (readWatch n)
  | declare (n : Byte) : Requested (declare n)
  | clearEmergency (n : Byte) : Requested (clearEmergency n)
  | talk (bridges : BridgeSet) : Requested (talk bridges)
  | releaseConsole : Requested releaseConsole
  | monitor (mask : BridgeSet) (gains : Vector Half 8) : Requested (monitor mask gains)
  | setupMixer (f : MixerFields) : Requested (setupMixer f)
  | halt : Requested halt
  | run : Requested run
  | clearFault (source flags : Byte) : Requested (clearFault source flags)
  | setMask (source mask switch : Byte) : Requested (setMask source mask switch)
  | refuse (code : Byte) : Requested (State.refuse code)

theorem requested_requestAction (kind : Byte) (pl : List Byte) : Requested (requestAction kind pl) := by
  unfold requestAction
  split
  exacts [.describe, .setupPort _ _, .readPort _, .start _, .stop _, .manual _ _, .editPlan _ _, .readPlan _ _, .copyPlan,
    .switchPlan, .readBridge _, .clearBridges, .enter _ _ _ _, .remove _, .readUnit _ _ _, .purge, .setWatch _ _,
    .readWatch _, .declare _, .clearEmergency _, .talk _, .releaseConsole, .monitor _ _, .setupMixer _, .halt, .run,
    .clearFault _ _, .setMask _ _ _, .refuse _]

/-- A frame that is judged does what one of the requests does (R184). -/
theorem judgeFrame_requested (kind : Byte) (pl : List Byte) (s : State) :
    ∃ act, Requested act ∧ judgeFrame kind pl s = act s := by
  unfold judgeFrame
  split
  · exact ⟨_, .refuse _, rfl⟩
  · split
    · exact ⟨_, .refuse _, rfl⟩
    · split
      · exact ⟨_, requested_requestAction kind pl, rfl⟩
      · exact ⟨_, .refuse _, rfl⟩

/-- A command that names an event of a completion or of a sample takes that event, where it comes about. -/
theorem exec_of_eventOf {c : Instr} {d : Due} (h : eventOf c = some d) : ∃ comesAbout, exec c = event d comesAbout := by
  cases c <;> cases h <;> exact ⟨_, rfl⟩

/-- The operations that commands bring keep a property: those on the model's own queues and on the link, every event that
comes due, every request, and the commands that are neither. -/
structure KeptByOperations (P : State → Prop) : Prop where
  pending : ∀ (s : State) (cs : List Instr), P s → P { s with pending := cs }
  due : ∀ (s : State) (ds : List Due), P s → P { s with due := ds }
  link : ∀ (s : State) (l : Link), P s → P (s.withLink l)
  raise : ∀ (s : State) (src : Source) (n : Nat), P s → P (s.raise src n)
  sendNotice : ∀ (s : State) (src : Source), P s → P (s.sendNotice src)
  takeDue : ∀ (s : State) (d : Due), P s → P (s.takeDue d)
  action : ∀ {act : Action}, Requested act → ∀ s : State, P s → P (act s).1
  startFrame : ∀ s : State, P s → P s.startFrame
  switchAtFrame : ∀ s : State, P s → P s.switchAtFrame
  samplePeriod : ∀ (slots : Vector Half 13) (s : State), P s → P (s.samplePeriod slots)
  endFrame : ∀ (cs pres : PortSet) (late : Late) (s : State), P s → P (s.endFrame cs pres late)
  seeDataLine : ∀ (p : PortId) (high : Bool) (s : State), P s → P (s.seeDataLine p high)
  setReceiver : ∀ (p : PortId) (r : Receiver) (s : State), P s → P (s.setReceiver p r)
  takeCharacter : ∀ (p : PortId) (data : Byte) (parity stop : Bool) (s : State), P s →
    P (s.takeCharacter p data parity stop)
  acceptIdent : ∀ (p : PortId) (u : UnitId) (s : State), P s → P (s.acceptIdent p u)
  acceptEmerg : ∀ (p : PortId) (u : UnitId) (s : State), P s → P (s.acceptEmerg p u)
  acceptEmergClear : ∀ (p : PortId) (u : UnitId) (s : State), P s → P (s.acceptEmergClear p u)
  endDataLineWait : ∀ (p : PortId) (s : State), P s → P (s.endDataLineWait p)
  assertReset : ∀ s : State, P s → P s.assertReset
  releaseReset : ∀ (rate1 rate0 : Bool) (s : State), P s → P (s.releaseReset rate1 rate0)

namespace KeptByOperations

/-- An operation over one place, taken for every place of a list, keeps what it keeps for one. -/
theorem foldl {P : State → Prop} {α : Type} {f : State → α → State} (h : ∀ s a, P s → P (f s a)) (l : List α)
    {s : State} (hs : P s) : P (l.foldl f s) :=
  List.foldlRecOn l f hs fun s hs a _ => h s a hs

section
variable {P : State → Prop} (k : KeptByOperations P) {s t : State}
include k

/-! ## Taking what is due, and commands by their kind -/

theorem settle (hs : P s) : P s.settle := foldl k.takeDue s.due (k.due s [] hs)

theorem takeNamed (d : Due) (comesAbout : Bool) (hs : P s) : P (s.takeNamed d comesAbout) := by
  unfold State.takeNamed
  split
  · exact k.takeDue _ d (k.due s _ hs)
  · exact hs

theorem operate {f : State → State} (hf : ∀ s, P s → P (f s)) (h : operate f s = .next t) (hs : P s) : P t := by
  cases h
  split
  · exact hs
  · exact hf _ (k.settle hs)

theorem event {c : Instr} {d : Due} (hd : eventOf c = some d) (h : exec c s = .next t) (hs : P s) : P t := by
  obtain ⟨comesAbout, taken⟩ := exec_of_eventOf hd
  rw [taken] at h
  cases h
  split
  · exact hs
  · exact k.takeNamed d _ hs

/-! ## The link -/

theorem judgeFrame (kind : Byte) (pl : List Byte) (hs : P s) : P (judgeFrame kind pl s).1 := by
  obtain ⟨act, requested, judged⟩ := judgeFrame_requested kind pl s
  rw [judged]
  exact k.action requested s hs

theorem answerFrame (kind : Byte) {act : Action} (hact : ∀ s, P s → P (act s).1) (hs : P s) :
    P (s.answerFrame kind act) := k.link _ _ (hact s hs)

theorem abandonFrame (hs : P s) : P s.abandonFrame := k.raise _ _ _ (k.link s _ hs)

theorem completeReception (kind : Byte) (pl : List Byte) (check : Byte) (hs : P s) :
    P (s.completeReception kind pl check) := by
  have ended : P s.endReception := k.link s _ hs
  unfold State.completeReception
  dsimp only
  split
  · exact k.answerFrame kind (fun s => k.judgeFrame kind pl) ended
  · exact k.link _ _ (k.raise _ _ _ ended)

/-- Each branch of the receiver writes the link alone, abandons the frame, or completes it. -/
theorem takeLinkByte (b : Byte) (hs : P s) : P (s.takeLinkByte b) := by
  have received (rx : LinkRx) : P (s.receive rx) := k.link s _ hs
  have begun : P (s.reserve.receive .length) := k.link s _ hs
  unfold State.takeLinkByte
  split
  · exact hs
  · split
    · split <;> assumption
    · split
      · exact received _
      · exact k.abandonFrame hs
    · exact received _
    · exact received _
    · exact k.completeReception _ _ _ hs

theorem expireGap (hs : P s) : P s.expireGap := by
  unfold State.expireGap
  split
  · exact hs
  all_goals exact k.abandonFrame hs

theorem takeFrame (kind : Byte) (pl : List Byte) {act : Action} (hact : ∀ s, P s → P (act s).1) (hs : P s) :
    P (s.takeFrame kind pl act) := by
  unfold State.takeFrame
  split
  · refine k.answerFrame kind (fun s hs => ?_) (k.link s _ hs)
    split
    · exact hs
    · exact hact s hs
  · exact foldl (fun s b => k.takeLinkByte b) _ hs

theorem request {kind : Byte} {pl : List Byte} {act : Action} (hact : ∀ s, P s → P (act s).1)
    (h : request kind pl act s = .next t) (hs : P s) : P t :=
  k.operate (fun _ => k.takeFrame kind pl hact) h hs

theorem requested {kind : Byte} {pl : List Byte} {act : Action} (hact : Requested act)
    (h : Machine.request kind pl act s = .next t) (hs : P s) : P t := k.request (k.action hact) h hs

theorem startReply (hs : P s) : P s.startReply := by
  unfold State.startReply
  split
  · exact k.link s _ hs
  · exact hs

theorem startNotice (src : Source) (hs : P s) : P (s.startNotice src) := by
  unfold State.startNotice
  split
  · exact k.sendNotice s src hs
  · exact hs

theorem endTransmission (hs : P s) : P s.endTransmission := by
  have idle : P { s with link := { s.link with tx := none } } := k.link s _ hs
  unfold State.endTransmission State.chooseNext
  split
  · split
    · exact k.link _ _ idle
    · split
      · exact k.sendNotice _ _ idle
      · exact idle
  · exact hs

/-! ## Reports -/

theorem takeReport {p : PortId} (kind : Byte) (u : UnitId) {accept : State → State}
    (haccept : ∀ s, P s → P (accept s)) (hs : P s) : P (s.takeReport p kind u accept) := by
  unfold State.takeReport
  split
  · exact haccept _ (k.setReceiver _ _ _ (k.seeDataLine _ _ s hs))
  · exact foldl (fun s b => k.takeCharacter p b _ _ s) _ hs

/-! ## Commands and steps -/

theorem exec (c : Instr) (h : exec c s = .next t) (hs : P s) : P t := by
  cases c with
  | describe => exact k.requested .describe h hs
  | portSetup n f => exact k.requested (.setupPort n f) h hs
  | portRead n => exact k.requested (.readPort n) h hs
  | portStart n => exact k.requested (.start n) h hs
  | portStop n => exact k.requested (.stop n) h hs
  | manualKey n level => exact k.requested (.manual n level) h hs
  | planEdit n f => exact k.requested (.editPlan n f) h hs
  | planRead m n => exact k.requested (.readPlan m n) h hs
  | planCopy => exact k.requested .copyPlan h hs
  | planSwitch => exact k.requested .switchPlan h hs
  | bridgeRead n => exact k.requested (.readBridge n) h hs
  | clearBridges => exact k.requested .clearBridges h hs
  | unitEnter u agency role override => exact k.requested (.enter u agency role override) h hs
  | unitRemove u => exact k.requested (.remove u) h hs
  | unitRead form x y => exact k.requested (.readUnit form x y) h hs
  | purgeLearned => exact k.requested .purge h hs
  | watchSet n f => exact k.requested (.setWatch n f) h hs
  | watchRead n => exact k.requested (.readWatch n) h hs
  | emergencyDeclare n => exact k.requested (.declare n) h hs
  | emergencyClear n => exact k.requested (.clearEmergency n) h hs
  | consoleTalk bridges => exact k.requested (.talk bridges) h hs
  | consoleRelease => exact k.requested .releaseConsole h hs
  | consoleMonitor mask gains => exact k.requested (.monitor mask gains) h hs
  | mixerSetup f => exact k.requested (.setupMixer f) h hs
  | mixerHalt => exact k.requested .halt h hs
  | mixerRun => exact k.requested .run h hs
  | faultClear source flags => exact k.requested (.clearFault source flags) h hs
  | maskSet source mask switch => exact k.requested (.setMask source mask switch) h hs
  | unknownKind kind pl => exact k.request (fun _ => k.judgeFrame kind pl) h hs
  | planSwitchMade => exact k.operate k.switchAtFrame h hs
  | linkByteTaken b => exact k.operate (fun _ => k.takeLinkByte b) h hs
  | linkGapTimeout => exact k.operate (fun _ => k.expireGap) h hs
  | replyTransmit => exact k.operate (fun _ => k.startReply) h hs
  | deviceNotice => exact k.operate (fun _ => k.startNotice _) h hs
  | consoleNotice => exact k.operate (fun _ => k.startNotice _) h hs
  | bridgeNotice b => exact k.operate (fun _ => k.startNotice _) h hs
  | portNotice p => exact k.operate (fun _ => k.startNotice _) h hs
  | linkTransmissionEnd => exact k.operate (fun _ => k.endTransmission) h hs
  | linkCharacterDiscarded => exact k.operate (fun s => k.link s _) h hs
  | linkLineWaitEnd => exact k.operate (fun s => k.link s _) h hs
  | reset => cases h; exact k.assertReset s hs
  | resetRelease rate1 rate0 => cases h; exact k.releaseReset rate1 rate0 s hs
  | frameStart => exact k.operate k.startFrame h hs
  | mixSample slots => exact k.operate (k.samplePeriod slots) h hs
  | frameCompletion cs pres late => exact k.operate (k.endFrame cs pres late) h hs
  | alertHalfPeriod b => exact k.event rfl h hs
  | alertSegmentChange b => exact k.event rfl h hs
  | burstEnd b => exact k.event rfl h hs
  | presenceTaken p => exact k.event rfl h hs
  | carrierTaken p => exact k.event rfl h hs
  | voxHoldExpiry p => exact k.event rfl h hs
  | assemblyAgeExpiry p => exact k.event rfl h hs
  | pendingIdentityExpiry p => exact k.event rfl h hs
  | talkTimerExpiry b => exact k.event rfl h hs
  | drainEnd p => exact k.event rfl h hs
  | hangEnd p => exact k.event rfl h hs
  | blankEnd p => exact k.event rfl h hs
  | keyLimit p => exact k.event rfl h hs
  | coolBlankEnd p => exact k.event rfl h hs
  | cooldownEnd p => exact k.event rfl h hs
  | dataCharacter p data parity stop => exact k.operate (k.takeCharacter p data parity stop) h hs
  | ident p u => exact k.operate (fun _ => k.takeReport 1 u (k.acceptIdent p u)) h hs
  | emerg p u => exact k.operate (fun _ => k.takeReport 2 u (k.acceptEmerg p u)) h hs
  | emergClear p u => exact k.operate (fun _ => k.takeReport 3 u (k.acceptEmergClear p u)) h hs
  | dataLineWaitEnd p => exact k.operate (k.endDataLineWait p) h hs

/-- What the operations keep, every step keeps: the command at the front acts over the rest of the queue. -/
theorem step (h : step s = .next t) (hs : P s) : P t := by
  unfold Machine.step at h
  split at h
  · cases h; exact hs
  · exact k.exec _ h (k.pending s _ hs)

end

end KeptByOperations

end Sys2Proof.Machine
end

section
/-! SUPPORT. The plan store (R52): PLAN_EDIT, PLAN_COPY and a reset alone write its records, a pending or made switch its
other fields, and nothing else touches it; so the membership rule (R51) is kept by every step. -/

namespace Sys2Proof.Machine

/-! ## What arbitration and keying leave of the plan store -/

/-- The plan store is part of the backdrop. -/
theorem plans_of_backdrop {s t : State} (h : t.backdrop = s.backdrop) : t.plans = s.plans := by
  have plans := congrArg State.plans h
  exact plans

@[simp] theorem bid_plans (s : State) (b : BridgeId) (who : Talker) : (s.bid b who).plans = s.plans :=
  plans_of_backdrop (bid_backdrop s b who)

@[simp] theorem release_plans (s : State) (b : BridgeId) : (s.release b).plans = s.plans :=
  plans_of_backdrop (release_backdrop s b)

@[simp] theorem consoleLeave_plans (s : State) (b : BridgeId) : (s.consoleLeave b).plans = s.plans :=
  plans_of_backdrop (consoleLeave_backdrop s b)

@[simp] theorem endEngagement_plans (s : State) (p : PortId) : (s.endEngagement p).plans = s.plans :=
  plans_of_backdrop (endEngagement_backdrop s p)

@[simp] theorem judgeEngagement_plans (s : State) (barred : Bool) (p : PortId) :
    (s.judgeEngagement barred p).plans = s.plans := plans_of_backdrop (judgeEngagement_backdrop s barred p)

@[simp] theorem takeBid_plans (s : State) (p : PortId) : (s.takeBid p).plans = s.plans :=
  plans_of_backdrop (takeBid_backdrop s p)

@[simp] theorem setKey_plans (s : State) (p : PortId) (k : KeyState) (timing keyUp : Nat) :
    (s.setKey p k timing keyUp).plans = s.plans := plans_of_backdrop (setKey_backdrop s p k timing keyUp)

@[simp] theorem enterBlank_plans (s : State) (barred : Bool) (p : PortId) :
    (s.enterBlank barred p).plans = s.plans := plans_of_backdrop (enterBlank_backdrop s barred p)

@[simp] theorem takeHandedBids_plans (s : State) : s.takeHandedBids.plans = s.plans :=
  plans_of_backdrop (takeHandedBids_backdrop s)

@[simp] theorem handOn_plans (s : State) : s.handOn.plans = s.plans := plans_of_backdrop (handOn_backdrop s)

@[simp] theorem handPriority_plans (s : State) (p : PortId) (old : Nat) : (s.handPriority p old).plans = s.plans :=
  plans_of_backdrop (handPriority_backdrop s p old)

@[simp] theorem clearKey_plans (s : State) (p : PortId) : (s.clearKey p).plans = s.plans :=
  plans_of_backdrop (clearKey_backdrop s p)

@[simp] theorem cut_plans (s : State) (b : BridgeId) (who : Talker) : (s.cut b who).plans = s.plans :=
  plans_of_backdrop (cut_backdrop s b who)

@[simp] theorem keyTick_plans (s : State) (p : PortId) : (s.keyTick p).plans = s.plans :=
  plans_of_backdrop (keyTick_backdrop s p)

/-- An operation over one place, taken for every place of a list, leaves the plan store where it leaves it for one. -/
theorem foldl_plans {α : Type} {f : State → α → State} (h : ∀ s a, (f s a).plans = s.plans) (l : List α) (s : State) :
    (l.foldl f s).plans = s.plans :=
  KeptByOperations.foldl (P := fun t => t.plans = s.plans) (fun t a ht => (h t a).trans ht) l rfl

/-! ## Lifecycle, emergencies and reports -/

@[simp] theorem activate_plans (s : State) (p : PortId) : (s.activate p).plans = s.plans := by
  simp [State.activate]

@[simp] theorem depart_plans (s : State) (p : PortId) (life : Lifecycle) : (s.depart p life).plans = s.plans := by
  unfold State.depart; dsimp only; split <;> simp

@[simp] theorem startBurst_plans (s : State) (b : BridgeId) : (s.startBurst b).plans = s.plans := by
  unfold State.startBurst; dsimp only; split <;> simp

@[simp] theorem enterEmergency_plans (s : State) (p : PortId) (source : Option UnitId) :
    (s.enterEmergency p source).plans = s.plans := by
  unfold State.enterEmergency; dsimp only; split <;> simp [foldl_plans startBurst_plans]

@[simp] theorem takeEmergency_plans (s : State) (p : PortId) (u : UnitId) : (s.takeEmergency p u).plans = s.plans := by
  unfold State.takeEmergency; split <;> simp

@[simp] theorem leaveEmergency_plans (s : State) (p : PortId) : (s.leaveEmergency p).plans = s.plans := by
  simp [State.leaveEmergency]

@[simp] theorem leaveAllSourced_plans (s : State) (u : UnitId) : (s.leaveAllSourced u).plans = s.plans :=
  foldl_plans (fun s p => by split <;> simp) _ _

@[simp] theorem dirReport_plans (s : State) (p : PortId) (u : UnitId) : (s.dirReport p u).plans = s.plans := by
  unfold State.dirReport; split
  · rfl
  · split <;> simp

@[simp] theorem flagUnit_plans (s : State) (u : UnitId) (on : Bool) : (s.flagUnit u on).plans = s.plans := rfl

@[simp] theorem takeIdentity_plans (s : State) (p : PortId) (u : UnitId) : (s.takeIdentity p u).plans = s.plans := by
  simp [State.takeIdentity]

@[simp] theorem acceptIdent_plans (s : State) (p : PortId) (u : UnitId) : (s.acceptIdent p u).plans = s.plans := by
  unfold State.acceptIdent; dsimp only; split <;> simp

@[simp] theorem acceptEmerg_plans (s : State) (p : PortId) (u : UnitId) : (s.acceptEmerg p u).plans = s.plans := by
  simp [State.acceptEmerg]

@[simp] theorem acceptEmergClear_plans (s : State) (p : PortId) (u : UnitId) :
    (s.acceptEmergClear p u).plans = s.plans := by simp [State.acceptEmergClear]

@[simp] theorem judgeReport_plans (s : State) (p : PortId) (kind hi lo check : Byte) :
    (s.judgeReport p kind hi lo check).plans = s.plans := by
  unfold State.judgeReport; dsimp only; split_ifs <;> simp

@[simp] theorem setReceiver_plans (s : State) (p : PortId) (r : Receiver) : (s.setReceiver p r).plans = s.plans := rfl

@[simp] theorem takeDataByte_plans (s : State) (p : PortId) (b : Byte) : (s.takeDataByte p b).plans = s.plans := by
  unfold State.takeDataByte; split
  · rfl
  · split <;> simp
  · split
    · simp
    · split <;> simp

@[simp] theorem seeDataLine_plans (s : State) (p : PortId) (high : Bool) : (s.seeDataLine p high).plans = s.plans := rfl

@[simp] theorem takeCharacter_plans (s : State) (p : PortId) (data : Byte) (parity stop : Bool) :
    (s.takeCharacter p data parity stop).plans = s.plans := by
  unfold State.takeCharacter; dsimp only; split_ifs <;> simp

@[simp] theorem endDataLineWait_plans (s : State) (p : PortId) : (s.endDataLineWait p).plans = s.plans := rfl

/-! ## Samples, completions and what they bring -/

@[simp] theorem turnLevel_plans (s : State) (b : BridgeId) : (s.turnLevel b).plans = s.plans := by
  unfold State.turnLevel; dsimp only; split <;> simp

@[simp] theorem changeSegment_plans (s : State) (b : BridgeId) : (s.changeSegment b).plans = s.plans := by
  unfold State.changeSegment; dsimp only; split <;> simp

@[simp] theorem endBurst_plans (s : State) (b : BridgeId) : (s.endBurst b).plans = s.plans := by
  unfold State.endBurst; dsimp only; split <;> simp

@[simp] theorem expireIdentity_plans (s : State) (p : PortId) : (s.expireIdentity p).plans = s.plans := by
  unfold State.expireIdentity; split <;> simp

@[simp] theorem expireAssembly_plans (s : State) (p : PortId) : (s.expireAssembly p).plans = s.plans := by
  unfold State.expireAssembly; split <;> simp

@[simp] theorem talkTick_plans (s : State) (b : BridgeId) : (s.talkTick b).plans = s.plans := by
  unfold State.talkTick; split
  · rfl
  · split <;> simp

@[simp] theorem takePresence_plans (s : State) (p : PortId) : (s.takePresence p).plans = s.plans := by
  unfold State.takePresence; dsimp only; split <;> simp

@[simp] theorem requalify_plans (s : State) (p : PortId) : (s.requalify p).plans = s.plans := by
  simp [State.requalify]

@[simp] theorem takeDue_plans (s : State) (d : Due) : (s.takeDue d).plans = s.plans := by
  cases d <;> simp [State.takeDue]

@[simp] theorem completeFrame_plans (s : State) (cs pres : PortSet) (late : Late) :
    (s.completeFrame cs pres late).plans = s.plans := foldl_plans requalify_plans _ _

@[simp] theorem endFrame_plans (s : State) (cs pres : PortSet) (late : Late) :
    (s.endFrame cs pres late).plans = s.plans := by
  unfold State.endFrame; split
  · split <;> simp
  all_goals rfl

@[simp] theorem raiseClips_plans (s : State) (ports : Vector Int 12) (con : Int) (talk : Vector Int 8)
    (out : Vector Int 12) (monitor : Int) : (s.raiseClips ports con talk out monitor).plans = s.plans := by
  simp [State.raiseClips, foldl_plans]

@[simp] theorem formSample_plans (s : State) (f : Frame) (slots : Vector Half 13) :
    (s.formSample f slots).plans = s.plans := raiseClips_plans _ _ _ _ _ _

@[simp] theorem samplePeriod_plans (s : State) (slots : Vector Half 13) : (s.samplePeriod slots).plans = s.plans := by
  unfold State.samplePeriod; split
  · split <;> simp
  all_goals rfl

/-! ## Requests that are none of the plan store -/

theorem clearAllBridges_plans (s : State) : s.clearAllBridges.plans = s.plans := by
  have emptied (s : State) (b : BridgeId) : (s.emptyBridge b).plans = s.plans := by simp [State.emptyBridge]
  have barred (s : State) (p : PortId) : (s.barEngaged p).plans = s.plans := by
    unfold State.barEngaged; split <;> simp
  simp [State.clearAllBridges, foldl_plans emptied, foldl_plans barred, foldl_plans clearKey_plans]

theorem moveConsole_plans (s : State) (carried : BridgeSet) : (s.moveConsole carried).plans = s.plans := by
  have left (s : State) (leaving : BridgeSet) : (s.leaveBridges leaving).plans = s.plans :=
    foldl_plans (fun s b => by split <;> simp) _ _
  have joined (s : State) (joining : BridgeSet) : (s.joinBridges joining).plans = s.plans :=
    foldl_plans (fun s b => by split <;> simp) _ _
  simp [State.moveConsole, State.writeTalk, left, joined]

theorem writeMask_plans (s : State) (src : Source) (mask : FlagSet) (switch : Bool) :
    (s.writeMask src mask switch).plans = s.plans := by
  unfold State.writeMask; dsimp only; split <;> simp

theorem startPort_plans (s : State) (p : PortId) : (s.startPort p).plans = s.plans := by
  unfold State.startPort; dsimp only; split <;> simp

theorem handOverride_plans (before : State) (u : UnitId) (s : State) : (before.handOverride u s).plans = s.plans := by
  unfold State.handOverride; split
  · rfl
  · exact foldl_plans (fun s p => by split <;> simp) _ _

/-! ## The switch exchanges the plans and writes no record (R53) -/

theorem removeNonMembers_plans (s : State) (b : BridgeId) : (s.removeNonMembers b).plans = s.plans := by
  unfold State.removeNonMembers; dsimp only; split
  · split
    · split <;> simp
    · simp
  · simp

theorem adjustBurst_plans (s : State) (b : BridgeId) : (s.adjustBurst b).plans = s.plans := by
  unfold State.adjustBurst; dsimp only; split <;> simp

theorem removeDestination_plans (s : State) (old : Vector Record 8) (p : PortId) :
    (s.removeDestination old p).plans = s.plans := by
  unfold State.removeDestination; split
  · split <;> simp
  · rfl

/-- What a switch does to the plan store: the other plan is active, and no switch is pending (R53, R58). -/
theorem switchPlans_plans (s : State) :
    s.switchPlans.plans = { s.plans with active := s.plans.active + 1, switchPending := false } := by
  have removed (old : Vector Record 8) (s : State) (p : PortId) :
      (s.removeDestination old p).takeHandedBids.plans = s.plans := by simp [removeDestination_plans]
  have joined (old : Vector Record 8) (s : State) (p : PortId) :
      (if newlyMember old s.activeRecords p then s.takeBid p else s).plans = s.plans := by split <;> simp
  simp only [State.switchPlans, handOn_plans, foldl_plans (joined _), foldl_plans (removed _),
    foldl_plans adjustBurst_plans, foldl_plans removeNonMembers_plans]

theorem switchPlans_records (s : State) : s.switchPlans.plans.records = s.plans.records := by
  rw [switchPlans_plans]

theorem makeSwitch_records (s : State) : s.makeSwitch.plans.records = s.plans.records := switchPlans_records s

theorem switchAtFrame_records (s : State) : s.switchAtFrame.plans.records = s.plans.records := by
  unfold State.switchAtFrame; split
  · exact makeSwitch_records s
  · rfl

theorem startFrame_records (s : State) : s.startFrame.plans.records = s.plans.records := by
  unfold State.startFrame; split
  · dsimp only; split
    · exact makeSwitch_records s
    · rfl
  · rfl

/-! ## Requests that leave the plan store alone -/

@[simp] theorem answerOk_fst (s : State) (data : List Byte) : (s.answerOk data).1 = s := rfl

theorem readPort_fst (n : Byte) (s : State) : (readPort n s).1 = s := by unfold readPort; split <;> rfl

theorem readPlan_fst (m n : Byte) (s : State) : (readPlan m n s).1 = s := by unfold readPlan; split <;> rfl

theorem readBridge_fst (n : Byte) (s : State) : (readBridge n s).1 = s := by unfold readBridge; split <;> rfl

theorem readWatch_fst (n : Byte) (s : State) : (readWatch n s).1 = s := by unfold readWatch; split <;> rfl

theorem readUnit_fst (form x y : Byte) (s : State) : (readUnit form x y s).1 = s := by
  unfold readUnit; dsimp only; split
  · split
    · rfl
    · split
      · rw [readPlace_eq]
      · rfl
  · split
    · split
      · rw [readPlace_eq]
      · rfl
    · rfl

theorem setupPort_plans (n : Byte) (f : SetupFields) (s : State) : (setupPort n f s).1.plans = s.plans := by
  unfold setupPort; split
  · split
    · rfl
    · simp [State.writeSetup]
  all_goals rfl

theorem start_plans (n : Byte) (s : State) : (start n s).1.plans = s.plans := by
  unfold start; split
  · dsimp only; split
    · exact startPort_plans s _
    · rfl
  · rfl

theorem stop_plans (n : Byte) (s : State) : (stop n s).1.plans = s.plans := by
  unfold stop; split
  · dsimp only; split <;> simp
  · rfl

theorem manual_plans (n level : Byte) (s : State) : (manual n level s).1.plans = s.plans := by
  unfold manual; split
  · split <;> rfl
  all_goals rfl

theorem enter_plans (u : Half) (agency role override : Byte) (s : State) :
    (enter u agency role override s).1.plans = s.plans := by
  unfold enter; split
  · rfl
  · split
    · rfl
    · split
      · rfl
      · exact handOverride_plans s u _

theorem remove_plans (u : Half) (s : State) : (remove u s).1.plans = s.plans := by
  unfold remove; split
  · rfl
  · split
    · rfl
    · split
      · rfl
      · exact handOverride_plans s u _

theorem setWatch_plans (n : Byte) (f : RuleFields) (s : State) : (setWatch n f s).1.plans = s.plans := by
  unfold setWatch; split <;> rfl

theorem declare_plans (n : Byte) (s : State) : (declare n s).1.plans = s.plans := by
  unfold declare; split
  · rfl
  · split
    · rfl
    · simp

theorem clearEmergency_plans (n : Byte) (s : State) : (clearEmergency n s).1.plans = s.plans := by
  unfold clearEmergency; split
  · rfl
  · split
    · rfl
    all_goals simp

theorem talk_plans (bridges : BridgeSet) (s : State) : (talk bridges s).1.plans = s.plans := by
  unfold talk; split
  · rfl
  · exact moveConsole_plans s bridges

theorem releaseConsole_plans (s : State) : (releaseConsole s).1.plans = s.plans := by
  unfold releaseConsole; split
  · rfl
  · exact moveConsole_plans s 0

theorem monitor_plans (mask : BridgeSet) (gains : Vector Half 8) (s : State) :
    (monitor mask gains s).1.plans = s.plans := by unfold monitor; split <;> rfl

theorem setupMixer_plans (f : MixerFields) (s : State) : (setupMixer f s).1.plans = s.plans := by
  unfold setupMixer; split
  · split <;> rfl
  · rfl

theorem halt_plans (s : State) : (halt s).1.plans = s.plans := by
  have halted (s : State) : s.haltMixer.plans = s.plans := rfl
  unfold halt; split <;> simp [halted, clearAllBridges_plans]

theorem run_plans (s : State) : (run s).1.plans = s.plans := by unfold run; split <;> rfl

theorem clearFault_plans (source flags : Byte) (s : State) : (clearFault source flags s).1.plans = s.plans := by
  unfold clearFault; split
  · rfl
  · split <;> rfl

theorem setMask_plans (source mask switch : Byte) (s : State) : (setMask source mask switch s).1.plans = s.plans := by
  unfold setMask; split
  · rfl
  · split
    · rfl
    · split
      · rfl
      · split
        · rfl
        · exact writeMask_plans s _ _ _

/-! ## What a request does to the records -/

/-- The two writes that the plan store knows: a record of the edit plan that passes the checks of R54, and the active
plan's records copied over the edit plan's (R57). -/
inductive RecordsWritten (s : State) : Vector (Vector Record 8) 2 → Prop
  | kept : RecordsWritten s s.plans.records
  | edited (b : BridgeId) (new : Record) (nested : recordNested new = true)
      (free : s.memberElsewhere b new.members = false) : RecordsWritten s (s.writeRecord b new).plans.records
  | copied : RecordsWritten s (s.plans.records.set s.editPlan s.activeRecords)

theorem RecordsWritten.of_plans {s t : State} (h : t.plans = s.plans) : RecordsWritten s t.plans.records := by
  rw [h]; exact .kept

theorem editPlan_records (n : Byte) (f : RecordFields) (s : State) :
    RecordsWritten s (editPlan n f s).1.plans.records := by
  unfold editPlan; split
  · split
    · exact .kept
    · next nested =>
      split
      · exact .kept
      · next free => exact .edited _ _ (by simpa using nested) (by simpa using free)
  all_goals exact .kept

theorem switchPlan_records (s : State) : (switchPlan s).1.plans.records = s.plans.records := by
  unfold switchPlan; split
  · rfl
  · exact switchPlans_records s

/-- PLAN_EDIT and PLAN_COPY alone write a record (R53). -/
theorem requested_records {act : Action} (h : Requested act) (s : State) :
    RecordsWritten s (act s).1.plans.records := by
  cases h with
  | editPlan n f => exact editPlan_records n f s
  | copyPlan => exact .copied
  | switchPlan => rw [switchPlan_records]; exact .kept
  | describe => exact .kept
  | refuse code => exact .kept
  | purge => exact .kept
  | clearBridges => exact .of_plans (clearAllBridges_plans s)
  | readPort n => rw [readPort_fst]; exact .kept
  | readPlan m n => rw [readPlan_fst]; exact .kept
  | readBridge n => rw [readBridge_fst]; exact .kept
  | readWatch n => rw [readWatch_fst]; exact .kept
  | readUnit form x y => rw [readUnit_fst]; exact .kept
  | setupPort n f => exact .of_plans (setupPort_plans n f s)
  | start n => exact .of_plans (start_plans n s)
  | stop n => exact .of_plans (stop_plans n s)
  | manual n level => exact .of_plans (manual_plans n level s)
  | enter u agency role override => exact .of_plans (enter_plans u agency role override s)
  | remove u => exact .of_plans (remove_plans u s)
  | setWatch n f => exact .of_plans (setWatch_plans n f s)
  | declare n => exact .of_plans (declare_plans n s)
  | clearEmergency n => exact .of_plans (clearEmergency_plans n s)
  | talk bridges => exact .of_plans (talk_plans bridges s)
  | releaseConsole => exact .of_plans (releaseConsole_plans s)
  | monitor mask gains => exact .of_plans (monitor_plans mask gains s)
  | setupMixer f => exact .of_plans (setupMixer_plans f s)
  | halt => exact .of_plans (halt_plans s)
  | run => exact .of_plans (run_plans s)
  | clearFault source flags => exact .of_plans (clearFault_plans source flags s)
  | setMask source mask switch => exact .of_plans (setMask_plans source mask switch s)

/-! ## The membership rule (R51) -/

/-- The membership rule speaks of the records alone. -/
theorem planRule_of_records {s t : State} (h : t.plans.records = s.plans.records) (hs : s.planRule) : t.planRule := by
  unfold State.planRule; rw [h]; exact hs

theorem planRule_of_plans {s t : State} (h : t.plans = s.plans) (hs : s.planRule) : t.planRule :=
  planRule_of_records (congrArg Plans.records h) hs

/-- The membership rule of one plan (R51). -/
def memberRule (records : Vector Record 8) : Prop :=
  (∀ b : BridgeId, recordNested records[b] = true)
  ∧ ∀ b c : BridgeId, b ≠ c → records[b].members &&& records[c].members = 0

theorem planRule_iff {s : State} : s.planRule ↔ ∀ n : Fin 2, memberRule s.plans.records[n] := by
  constructor
  · exact fun h n => ⟨fun b => (h n b b).1, fun b c => (h n b c).2⟩
  · exact fun h n b c => ⟨(h n).1 b, (h n).2 b c⟩

/-- One record replaced, within the checks of PLAN_EDIT (R54 steps 3 and 5). -/
theorem memberRule_set {records : Vector Record 8} (h : memberRule records) {b : BridgeId} {new : Record}
    (nested : recordNested new = true)
    (free : ∀ c : BridgeId, c ≠ b → records[c].members &&& new.members = 0) : memberRule (records.set b new) := by
  have written (c : BridgeId) : (records.set b new)[c] = if c = b then new else records[c] := by
    simp only [Fin.getElem_fin, Vector.getElem_set, Fin.ext_iff, eq_comm]
  constructor
  · intro c
    rw [written]; split
    · exact nested
    · exact h.1 c
  · intro c d distinct
    rw [written, written]; split_ifs with hc hd hd
    · exact absurd (hc.trans hd.symm) distinct
    · rw [BitVec.and_comm]; exact free d hd
    · exact free c hc
    · exact h.2 c d distinct

/-- One plan replaced by another that meets the rule. -/
theorem planRule_of_set {s t : State} (hs : s.planRule) {n : Fin 2} {records : Vector Record 8}
    (h : memberRule records) (ht : t.plans.records = s.plans.records.set n records) : t.planRule := by
  rw [planRule_iff] at hs ⊢
  intro m
  rw [ht, Fin.getElem_fin, Vector.getElem_set]
  split
  · exact h
  · exact hs m

theorem mem_allBridges : ∀ b : BridgeId, b ∈ allBridges := by decide

/-- The model's search for a member of another bridge of the edit plan (R54 step 5). -/
theorem memberElsewhere_eq_false_iff {s : State} {b : BridgeId} {members : PortSet} :
    s.memberElsewhere b members = false
      ↔ ∀ c : BridgeId, c ≠ b → s.plans.records[s.editPlan][c].members &&& members = 0 := by
  simp [State.memberElsewhere, mem_allBridges, -Fin.getElem_fin]

/-- The defaults of R49 have no members. -/
theorem planRule_reset : State.reset.planRule := by
  intro n b c
  simp [State.reset, Record.default, recordNested]

/-- The checks of R54 and the copying of a whole plan keep the rule. -/
theorem RecordsWritten.planRule {s t : State} (h : RecordsWritten s t.plans.records) (hs : s.planRule) :
    t.planRule := by
  generalize ht : t.plans.records = r at h
  cases h with
  | kept => exact planRule_of_records ht hs
  | edited b new nested free =>
    exact planRule_of_set hs
      (memberRule_set (planRule_iff.mp hs s.editPlan) nested (memberElsewhere_eq_false_iff.mp free)) ht
  | copied => exact planRule_of_set hs (planRule_iff.mp hs s.plans.active) ht

/-- Every operation that a command can bring keeps the membership rule: an accepted request by what it writes, all others
because they write no record. -/
theorem planRule_kept : KeptByOperations State.planRule where
  pending _ _ hs := hs
  due _ _ hs := hs
  link _ _ hs := hs
  raise s src n := planRule_of_plans (State.raise_plans s src n)
  sendNotice _ _ hs := hs
  takeDue s d := planRule_of_plans (takeDue_plans s d)
  action requested s := (requested_records requested s).planRule
  startFrame s := planRule_of_records (startFrame_records s)
  switchAtFrame s := planRule_of_records (switchAtFrame_records s)
  samplePeriod slots s := planRule_of_plans (samplePeriod_plans s slots)
  endFrame cs pres late s := planRule_of_plans (endFrame_plans s cs pres late)
  seeDataLine p high s := planRule_of_plans (seeDataLine_plans s p high)
  setReceiver p r s := planRule_of_plans (setReceiver_plans s p r)
  takeCharacter p data parity stop s := planRule_of_plans (takeCharacter_plans s p data parity stop)
  acceptIdent p u s := planRule_of_plans (acceptIdent_plans s p u)
  acceptEmerg p u s := planRule_of_plans (acceptEmerg_plans s p u)
  acceptEmergClear p u s := planRule_of_plans (acceptEmergClear_plans s p u)
  endDataLineWait p s := planRule_of_plans (endDataLineWait_plans s p)
  assertReset _ _ := planRule_reset
  releaseReset rate1 rate0 s hs := by
    unfold State.releaseReset; split <;> exact hs

/-- Settles O54: the defaults of reset meet the rule, and it is kept by all that a step can bring. -/
theorem everyStepKeepsTheMembershipRule : Obligations.EveryStepKeepsTheMembershipRule :=
  ⟨planRule_reset, fun _ _ hs h => planRule_kept.step h hs⟩

end Sys2Proof.Machine
end

section
/-! SUPPORT. PLAN_EDIT, PLAN_READ and PLAN_COPY (R54, R56, R57): what the carried fields of a record spell, and which step
of each request decides. -/

namespace Sys2Proof.Machine

/-! ## Port sets, bridge numbers and plan numbers (R189) -/

/-- The bits that name no port are clear. -/
theorem extractLsb'_12_4_eq_zero_iff (w : Half) : w.extractLsb' 12 4 = 0 ↔ w.toNat < 4096 := by
  rw [← BitVec.toNat_inj, BitVec.extractLsb'_toNat, Nat.shiftRight_eq_div_pow]
  have := w.isLt
  simp; omega

theorem portSetOf_isSome_iff {w : Half} : (portSetOf w).isSome ↔ w.toNat < 4096 := by
  rw [← extractLsb'_12_4_eq_zero_iff, portSetOf]
  split
  · exact iff_of_true rfl ‹_›
  · exact iff_of_false nofun ‹_›

theorem portSetOf_zeroExtend (m : PortSet) : portSetOf (m.zeroExtend 16) = some m := by
  have bound : (m.zeroExtend 16).toNat < 4096 := by have := m.isLt; simp; omega
  have cut : (m.zeroExtend 16).extractLsb' 0 12 = m := by apply BitVec.eq_of_toNat_eq; simp; omega
  rw [portSetOf, if_pos ((extractLsb'_12_4_eq_zero_iff _).mpr bound), cut]

theorem portSetOf_eq_some_iff {w : Half} {m : PortSet} : portSetOf w = some m ↔ m.zeroExtend 16 = w := by
  constructor
  · intro h
    have bound := portSetOf_isSome_iff.mp (Option.isSome_of_eq_some h)
    rw [portSetOf, if_pos ((extractLsb'_12_4_eq_zero_iff w).mpr bound), Option.some.injEq] at h
    subst h
    apply BitVec.eq_of_toNat_eq
    simp [BitVec.extractLsb'_toNat]; omega
  · rintro rfl; exact portSetOf_zeroExtend m

/-- A set of ports is known by its carried form. -/
theorem zeroExtend_inj {a b : PortSet} : a.zeroExtend 16 = b.zeroExtend 16 ↔ a = b := by
  rw [← portSetOf_eq_some_iff, portSetOf_zeroExtend, Option.some.injEq, eq_comm]

theorem switchByte_decide (p : Prop) [Decidable p] : switchByte (decide p) = if p then 1 else 0 := by
  by_cases p <;> simp [switchByte, *]

@[simp] theorem bridgeOf_natByte (b : BridgeId) : bridgeOf (natByte b.val) = some b := by
  have h : (natByte b.val).toNat = b.val := by simp [natByte]; omega
  simp [bridgeOf, h]

theorem bridgeOf_eq_none {n : Byte} (h : 7 < n.toNat) : bridgeOf n = none := by
  simp [bridgeOf]; omega

@[simp] theorem planOf_natByte (m : Fin 2) : planOf (natByte m.val) = some m := by
  have h : (natByte m.val).toNat = m.val := by simp [natByte]; omega
  have bound := m.isLt
  simp [planOf, h]; omega

theorem planOf_eq_none {n : Byte} (h : 1 < n.toNat) : planOf n = none := by
  simp [planOf]; omega

/-! ## The record that a PLAN_EDIT carries (R54 steps 2 to 4) -/

/-- Every set names ports alone, and every switch is on or off (R54 step 2). -/
def recordListed (f : RecordFields) : Prop :=
  f.members.toNat < 4096 ∧ f.destinations.toNat < 4096 ∧ f.alertOnly.toNat < 4096 ∧ f.preempt.toNat ≤ 1
  ∧ f.override.toNat ≤ 1 ∧ f.duck.toNat ≤ 1

/-- The record is what the request carries, each numeric field cut off at the end of its range (R54 step 4). -/
def Record.carriedBy (r : Record) (f : RecordFields) : Prop :=
  r.members.zeroExtend 16 = f.members ∧ r.destinations.zeroExtend 16 = f.destinations
  ∧ r.alertOnly.zeroExtend 16 = f.alertOnly ∧ switchByte r.preempt = f.preempt
  ∧ switchByte r.override = f.override ∧ switchByte r.duck = f.duck
  ∧ r.duckGain = min f.duckGain.toNat 4095 ∧ r.talkLimit = min f.talkLimit.toNat 255
  ∧ r.alertLength = min f.alertLength.toNat 10 ∧ r.alertGain = min f.alertGain.toNat 4095

/-- A record is read exactly where its sets and switches are among their values. -/
theorem readRecord_isSome_iff {f : RecordFields} : (readRecord f).isSome ↔ recordListed f := by
  unfold recordListed readRecord
  rw [← portSetOf_isSome_iff, ← portSetOf_isSome_iff, ← portSetOf_isSome_iff, ← switchOf_isSome_iff,
    ← switchOf_isSome_iff, ← switchOf_isSome_iff]
  split
  · simp [*]
  · next unlisted =>
    simp only [Option.isSome_none, Bool.false_eq_true, false_iff, Option.isSome_iff_exists]
    rintro ⟨⟨_, hm⟩, ⟨_, hd⟩, ⟨_, ha⟩, ⟨_, hp⟩, ⟨_, ho⟩, ⟨_, hk⟩⟩
    exact unlisted _ _ _ _ _ _ hm hd ha hp ho hk

/-- The record that is read is the one carried, and no other. -/
theorem readRecord_eq_some_iff {f : RecordFields} {r : Record} : readRecord f = some r ↔ r.carriedBy f := by
  unfold Record.carriedBy
  simp only [← portSetOf_eq_some_iff, ← switchOf_eq_some_iff]
  constructor
  · intro h
    unfold readRecord at h
    split at h
    · cases h
      simp [*, clamp_zero]
    · cases h
  · rintro ⟨hm, hd, ha, hp, ho, hk, gain, limit, length, alert⟩
    simp only [readRecord, hm, hd, ha, hp, ho, hk, clamp_zero, ← gain, ← limit, ← length, ← alert]

/-- One set of ports is within another exactly where the carried sets are. -/
theorem zeroExtend_and_eq_iff (a b : PortSet) :
    a.zeroExtend 16 &&& b.zeroExtend 16 = a.zeroExtend 16 ↔ a &&& b = a := by
  rw [← BitVec.setWidth_and, zeroExtend_inj]

/-- The check of a record's sets is that of the carried ones (R54 step 3). -/
theorem recordNested_iff {r : Record} {f : RecordFields} (h : r.carriedBy f) :
    recordNested r = true
      ↔ f.destinations &&& f.members = f.destinations ∧ f.alertOnly &&& f.destinations = f.alertOnly := by
  obtain ⟨hm, hd, ha, -⟩ := h
  rw [← hm, ← hd, ← ha, zeroExtend_and_eq_iff, zeroExtend_and_eq_iff]
  simp [recordNested]

/-! ## When nothing was clamped -/

/-- The fields of a PLAN_EDIT that spell a record. -/
def Record.fields (r : Record) : RecordFields where
  members := r.members.zeroExtend 16
  destinations := r.destinations.zeroExtend 16
  alertOnly := r.alertOnly.zeroExtend 16
  preempt := switchByte r.preempt
  override := switchByte r.override
  duck := switchByte r.duck
  duckGain := BitVec.ofNat 16 r.duckGain
  talkLimit := BitVec.ofNat 16 r.talkLimit
  alertLength := natByte r.alertLength
  alertGain := BitVec.ofNat 16 r.alertGain

theorem recordFieldBytes_fields (r : Record) : recordFieldBytes r.fields = recordBytes r := rfl

@[simp] theorem length_recordFieldBytes (f : RecordFields) : (recordFieldBytes f).length = 16 := rfl

/-- The payload of a PLAN_EDIT gives back the fields that it carries (R190). -/
theorem recordFieldsOf_recordFieldBytes (n : Byte) (f : RecordFields) :
    recordFieldsOf (n :: recordFieldBytes f) = f := by
  simp [recordFieldsOf, recordFieldBytes, halfBytes, halfAt, byteAt, halfAt_halfBytes]

theorem recordBytes_eq_iff_fields {r : Record} {f : RecordFields} :
    recordBytes r = recordFieldBytes f ↔ r.fields = f := by
  constructor
  · intro h
    rw [← recordFieldsOf_recordFieldBytes 0 r.fields, recordFieldBytes_fields, h, recordFieldsOf_recordFieldBytes]
  · rintro rfl; exact (recordFieldBytes_fields r).symm

/-- No numeric field lies outside its range exactly where the record spells what the request carries. -/
theorem recordClamped_eq_false_iff {r : Record} {f : RecordFields} (h : r.carriedBy f) :
    recordClamped f = false ↔ recordBytes r = recordFieldBytes f := by
  unfold Record.carriedBy at h
  rw [recordBytes_eq_iff_fields]
  cases f
  simp only [Record.fields, RecordFields.mk.injEq, h, natByte_min_eq_iff, ofNat_min_eq_iff]
  simp [recordClamped, and_assoc]

/-- The reply of a write: CLAMPED exactly where a field was (R54 step 4, R186). -/
theorem okOr_recordClamped {r : Record} {f : RecordFields} (h : r.carriedBy f) :
    okOr (recordClamped f) = 0x00 ∧ recordBytes r = recordFieldBytes f
      ∨ okOr (recordClamped f) = 0x01 ∧ recordBytes r ≠ recordFieldBytes f := by
  rw [ne_eq, ← recordClamped_eq_false_iff h]
  cases recordClamped f
  · exact .inl ⟨rfl, rfl⟩
  · exact .inr ⟨rfl, nofun⟩

/-! ## The steps of PLAN_EDIT (R54) -/

theorem editPlan_of_noBridge {n : Byte} {f : RecordFields} (h : bridgeOf n = none) (s : State) :
    editPlan n f s = (s, some (.bare resRefusedRange)) := by
  simp [editPlan, h, State.refuse]

theorem editPlan_of_unlisted {n : Byte} {f : RecordFields} (h : readRecord f = none) (s : State) :
    editPlan n f s = (s, some (.bare resRefusedRange)) := by
  unfold editPlan; rw [h]; cases bridgeOf n <;> rfl

/-- Sets that are not one within the other are refused, whether or not the other fields are read (R54 steps 2 and 3). -/
theorem editPlan_of_notNested {b : BridgeId} {f : RecordFields}
    (h : ¬ (f.destinations &&& f.members = f.destinations ∧ f.alertOnly &&& f.destinations = f.alertOnly)) (s : State) :
    editPlan (natByte b.val) f s = (s, some (.bare resRefusedRange)) := by
  cases hr : readRecord f with
  | none => exact editPlan_of_unlisted hr s
  | some r =>
    rw [← recordNested_iff (readRecord_eq_some_iff.mp hr), Bool.not_eq_true] at h
    simp [editPlan, hr, h, State.refuse]

section
variable {b : BridgeId} {f : RecordFields} {r : Record} {s : State}

theorem editPlan_of_memberElsewhere (hr : r.carriedBy f) (nested : recordNested r = true)
    (h : s.memberElsewhere b r.members = true) :
    editPlan (natByte b.val) f s = (s, some (.bare resRefusedState)) := by
  simp [editPlan, readRecord_eq_some_iff.mpr hr, nested, h, State.refuse]

theorem editPlan_of_taken (hr : r.carriedBy f) (nested : recordNested r = true)
    (h : s.memberElsewhere b r.members = false) :
    editPlan (natByte b.val) f s = (s.writeRecord b r, some (.bare (okOr (recordClamped f)))) := by
  simp [editPlan, readRecord_eq_some_iff.mpr hr, nested, h]

end

theorem exec_planEdit (n : Byte) (f : RecordFields) (s : State) :
    exec (.planEdit n f) s = request 0x07 (n :: recordFieldBytes f) (editPlan n f) s := rfl

/-- A PLAN_EDIT that changes nothing is answered with a bare result. -/
theorem exec_planEdit_refused {s : State} {n : Byte} {f : RecordFields} {code : Byte} (h : s.linkReady)
    (hact : editPlan n f s.accepting = (s.accepting, some (.bare code))) :
    exec (.planEdit n f) s = .next (s.answered 0x07 [code]) :=
  request_unchanged (a := .bare code) h 0x07 (by simp [Config.maxPayload]) hact

/-- A PLAN_EDIT that is taken writes the record, and its reply says whether a field was clamped. -/
theorem exec_planEdit_taken {s : State} {f : RecordFields} {b : BridgeId} {r : Record} (h : s.linkReady)
    (hr : r.carriedBy f) (nested : recordNested r = true) (free : s.memberElsewhere b r.members = false) :
    exec (.planEdit (natByte b.val) f) s
      = .next ((s.writeRecord b r).answered 0x07 [okOr (recordClamped f)]) := by
  rw [exec_planEdit]
  refine request_of_withLink (a := .bare _) h 0x07 (by simp [Config.maxPayload]) (fun l => ?_) rfl
  rw [editPlan_of_taken (s := s.withLink l) hr nested free]; rfl

/-! ## PLAN_READ and PLAN_COPY (R56, R57) -/

theorem readPlan_of_noRecord {m n : Byte} (h : 1 < m.toNat ∨ 7 < n.toNat) (s : State) :
    readPlan m n s = (s, some (.bare resRefusedRange)) := by
  unfold readPlan
  rcases h with h | h
  · rw [planOf_eq_none h]; rfl
  · rw [bridgeOf_eq_none h]; cases planOf m <;> rfl

theorem readPlan_eq (m : Fin 2) (b : BridgeId) (s : State) :
    readPlan (natByte m.val) (natByte b.val) s = (s, some (.ok ([natByte m.val,
      switchByte (decide (m = s.plans.active)), natByte b.val] ++ recordBytes s.plans.records[m][b]))) := by
  simp [readPlan, State.answerOk]

/-- A PLAN_READ changes nothing and is answered with what the read comes to. -/
theorem exec_planRead {s : State} {m n : Byte} {a : Answer} (h : s.linkReady)
    (hact : readPlan m n s.accepting = (s.accepting, some a)) :
    exec (.planRead m n) s = .next (s.answered 0x08 a.payload) :=
  request_unchanged h 0x08 (by simp [Config.maxPayload]) hact

theorem exec_planCopy {s : State} (h : s.linkReady) : exec .planCopy s = .next
    (({ s with plans := { s.plans with records := s.plans.records.set s.editPlan s.activeRecords } } : State).answered
      0x09 [0x00]) :=
  request_of_withLink (a := .ok []) h 0x09 (by simp) (fun _ => rfl) rfl

/-- The edit plan is the other of the two (R53). -/
theorem editPlan_ne_active (s : State) : s.editPlan ≠ s.plans.active := by
  unfold State.editPlan
  generalize s.plans.active = n
  revert n; decide

/-- Settles O12: each refusal of PLAN_EDIT by the step that fails, its write by the record carried, and the reads and
the copy by the records that they take. -/
theorem planEditReadAndCopy : Obligations.PlanEditReadAndCopy := by
  refine ⟨fun r => ⟨rfl, rfl⟩, fun f => rfl, fun s hs => ⟨editPlan_ne_active s, ?_, ?_, ?_, ?_, ?_, ?_⟩⟩
  · intro n f hn
    exact exec_planEdit_refused hs (editPlan_of_noBridge (bridgeOf_eq_none hn) _)
  · intro b f
    refine ⟨fun unlisted => ?_, fun notNested => exec_planEdit_refused hs (editPlan_of_notNested notNested _)⟩
    have unread : ¬ (readRecord f).isSome := by rw [readRecord_isSome_iff, recordListed]; omega
    exact exec_planEdit_refused hs (editPlan_of_unlisted (Option.not_isSome_iff_eq_none.mp unread) _)
  · intro b f r hm hd ha hp ho hk gain limit length alert destinations alertOnly
    have carried : r.carriedBy f := ⟨hm, hd, ha, hp, ho, hk, gain, limit, length, alert⟩
    have nested : recordNested r = true := by simp [recordNested, destinations, alertOnly]
    constructor
    · rintro ⟨c, other, shared⟩
      have elsewhere : s.memberElsewhere b r.members = true := by
        rw [← Bool.not_eq_false, memberElsewhere_eq_false_iff]
        exact fun free => shared (free c other)
      exact exec_planEdit_refused hs (editPlan_of_memberElsewhere (s := s.accepting) carried nested elsewhere)
    · intro free
      refine ⟨_, okOr_recordClamped carried, ?_⟩
      rintro _ rfl _ rfl
      exact exec_planEdit_taken hs carried nested (memberElsewhere_eq_false_iff.mpr free)
  · intro m n noRecord
    exact exec_planRead hs (readPlan_of_noRecord noRecord _)
  · intro m b
    rw [exec_planRead hs (readPlan_eq m b s.accepting)]
    rw [switchByte_decide]; rfl
  · rintro _ rfl
    exact exec_planCopy hs

end Sys2Proof.Machine
end

section
/-! SUPPORT. Effective priority (R75): each row of the table, and the bound that the settings put on a radio port. -/

namespace Sys2Proof.Machine

/-! ## The override priority of an optional unit (R38) -/

theorem overrideFor_eq_some_iff {s : State} {current : Option UnitId} {o : Nat} :
    s.overrideFor current = some o ↔
      ∃ u e, current = some u ∧ s.dir.entry u = some e ∧ e.override = some o := by
  cases current <;> simp [State.overrideFor, Option.bind_eq_some_iff]

theorem overrideFor_eq_none_iff {s : State} {current : Option UnitId} :
    s.overrideFor current = none ↔
      ∀ u e, current = some u → s.dir.entry u = some e → e.override = none := by
  simp only [State.overrideFor, Option.bind_eq_none_iff, Option.bind_eq_some_iff, forall_exists_index, and_imp]
  exact forall_comm

/-- An entry that the directory answers stands in a place of it. -/
theorem Directory.at_of_entry {d : Directory} {u : UnitId} {e : Entry} (h : d.entry u = some e) :
    ∃ w, d.at (hashSet u) w = some e := by
  obtain ⟨w, -, at_w⟩ := Option.bind_eq_some_iff.mp h
  exact ⟨w, at_w⟩

/-- Override priorities are at most 3 (R34). -/
theorem overrideFor_le_three {s : State} (h : s.settingsInRange) {current : Option UnitId} {o : Nat}
    (found : s.overrideFor current = some o) : o ≤ 3 := by
  obtain ⟨u, e, -, entry, override⟩ := overrideFor_eq_some_iff.mp found
  obtain ⟨w, at_w⟩ := Directory.at_of_entry entry
  obtain ⟨-, -, overrides, -⟩ := h
  exact overrides _ w e at_w o override

theorem setup_priority_le_three {s : State} (h : s.settingsInRange) (p : PortId) :
    (s.port p).setup.priority ≤ 3 := by
  obtain ⟨setups, -⟩ := h
  obtain ⟨-, -, -, -, -, -, -, -, -, -, -, priority⟩ := setups p
  exact priority

/-! ## The rows of the table -/

section Rows
variable {s : State} {p : PortId}

theorem effPriority_of_active {source : Option UnitId} (h : (s.port p).emergency = .active source) :
    s.effPriority p = 4 := by
  simp only [State.effPriority, h]

theorem effPriority_of_override {o : Nat} (h : (s.port p).emergency = .none)
    (override : s.overrideFor (s.port p).unit = some o) :
    s.effPriority p = max (s.port p).setup.priority o := by
  simp only [State.effPriority, h, override]

theorem effPriority_of_noOverride (h : (s.port p).emergency = .none)
    (override : s.overrideFor (s.port p).unit = none) : s.effPriority p = (s.port p).setup.priority := by
  simp only [State.effPriority, h, override]

end Rows

/-- No radio port comes to the console's 5: an emergency is 4, and without one both parts are at most 3. -/
theorem effPriority_le_four {s : State} (h : s.settingsInRange) (p : PortId) : s.effPriority p ≤ 4 := by
  have setup := setup_priority_le_three h p
  cases emergency : (s.port p).emergency with
  | active source => exact (effPriority_of_active emergency).le
  | none =>
    cases override : s.overrideFor (s.port p).unit with
    | none => rw [effPriority_of_noOverride emergency override]; omega
    | some o =>
      have := overrideFor_le_three h override
      rw [effPriority_of_override emergency override]; omega

/-- Settles O19, row by row of the table. -/
theorem effectivePriorityFollowsTheTable : Obligations.EffectivePriorityFollowsTheTable := by
  intro s
  refine ⟨rfl, fun u => rfl, fun p => ⟨rfl, fun source => effPriority_of_active, fun quiet => ⟨?_, ?_⟩,
    fun range => effPriority_le_four range p⟩⟩
  · intro u e o unit entry override
    exact effPriority_of_override quiet (overrideFor_eq_some_iff.mpr ⟨u, e, unit, entry, override⟩)
  · intro noOverride
    exact effPriority_of_noOverride quiet (overrideFor_eq_none_iff.mpr noOverride)

end Sys2Proof.Machine
end

section
/-! SUPPORT. WATCH_SET and WATCH_READ (R165, R167): what the carried fields of a watch rule spell, and the reply of each
request. -/

namespace Sys2Proof.Machine

/-! ## Rule numbers and narrow fields (R189) -/

@[simp] theorem ruleOf_natByte (n : Fin 8) : ruleOf (natByte n.val) = some n := by
  have h : (natByte n.val).toNat = n.val := by simp [natByte]; omega
  simp [ruleOf, h]

theorem ruleOf_eq_none {n : Byte} (h : 7 < n.toNat) : ruleOf n = none := by
  simp [ruleOf]; omega

/-- A byte carries a narrow field exactly where it lies within the field's values and its low bits are the field. -/
theorem zeroExtend_byte_eq_iff {w : Nat} (hw : w ≤ 8) (v : BitVec w) (b : Byte) :
    v.zeroExtend 8 = b ↔ b.toNat < 2 ^ w ∧ b.extractLsb' 0 w = v := by
  have fits : v.toNat % 2 ^ 8 = v.toNat := Nat.mod_eq_of_lt (v.isLt.trans_le (Nat.pow_le_pow_right (by omega) hw))
  rw [← BitVec.toNat_inj, ← BitVec.toNat_inj, BitVec.toNat_setWidth, fits, BitVec.extractLsb'_toNat,
    Nat.shiftRight_zero]
  constructor
  · intro h
    rw [← h]
    exact ⟨v.isLt, Nat.mod_eq_of_lt v.isLt⟩
  · rintro ⟨bound, low⟩
    rw [← low, Nat.mod_eq_of_lt bound]

/-! ## The rule that a WATCH_SET carries (R165 steps 2 and 3) -/

/-- The switch and each numeric field of a rule are within their values. -/
def ruleListed (f : RuleFields) : Prop :=
  f.enabled.toNat ≤ 1 ∧ f.agencyCompare.toNat ≤ 15 ∧ f.agencyCare.toNat ≤ 15 ∧ f.roleCompare.toNat ≤ 7
  ∧ f.roleCare.toNat ≤ 7

/-- A rule is read exactly where every field is within its values. -/
theorem readRule_isSome_iff {f : RuleFields} : (readRule f).isSome ↔ ruleListed f := by
  rw [ruleListed, ← switchOf_isSome_iff, readRule]
  cases switchOf f.enabled with
  | none => simp
  | some on => simp

/-- The rule that is read is the one whose bytes are those carried, and no other. -/
theorem readRule_eq_some_iff {f : RuleFields} {r : Rule} : readRule f = some r ↔ ruleBytes r = ruleFieldBytes f := by
  simp only [ruleBytes, ruleFieldBytes, List.cons.injEq, and_true, ← switchOf_eq_some_iff,
    zeroExtend_byte_eq_iff (show 4 ≤ 8 by decide), zeroExtend_byte_eq_iff (show 3 ≤ 8 by decide)]
  constructor
  · intro h
    have listed := readRule_isSome_iff.mp (Option.isSome_of_eq_some h)
    unfold readRule at h
    split at h
    · next on switch =>
      rw [if_pos listed.2, Option.some.injEq] at h
      subst h
      obtain ⟨-, agencyCompare, agencyCare, roleCompare, roleCare⟩ := listed
      refine ⟨switch, ⟨?_, rfl⟩, ⟨?_, rfl⟩, ⟨?_, rfl⟩, ⟨?_, rfl⟩, rfl⟩ <;> omega
    · cases h
  · rintro ⟨switch, ⟨ac, hac⟩, ⟨am, ham⟩, ⟨rc, hrc⟩, ⟨rm, hrm⟩, bridges⟩
    have listed : f.agencyCompare.toNat ≤ 15 ∧ f.agencyCare.toNat ≤ 15 ∧ f.roleCompare.toNat ≤ 7
        ∧ f.roleCare.toNat ≤ 7 := by omega
    simp only [readRule, switch, if_pos listed, hac, ham, hrc, hrm, ← bridges]

/-- The 6 bytes of a rule are its fields in order, each as it stands (R190). -/
theorem ruleBytes_toNat (r : Rule) : (ruleBytes r).map BitVec.toNat = [if r.enabled = true then 1 else 0,
    r.agencyCompare.toNat, r.agencyCare.toNat, r.roleCompare.toNat, r.roleCare.toNat, r.bridges.toNat] := by
  have switch : (switchByte r.enabled).toNat = if r.enabled = true then 1 else 0 := by
    cases r.enabled <;> rfl
  simp [ruleBytes, switch]
  omega

/-! ## The steps of WATCH_SET and WATCH_READ -/

theorem setWatch_of_noRule {n : Byte} (h : ruleOf n = none) (f : RuleFields) (s : State) :
    setWatch n f s = (s, some (.bare resRefusedRange)) := by
  simp [setWatch, h, State.refuse]

theorem setWatch_of_unlisted {f : RuleFields} (h : readRule f = none) (n : Byte) (s : State) :
    setWatch n f s = (s, some (.bare resRefusedRange)) := by
  unfold setWatch; rw [h]; cases ruleOf n <;> rfl

theorem setWatch_of_taken {f : RuleFields} {r : Rule} (h : readRule f = some r) (n : Fin 8) (s : State) :
    setWatch (natByte n.val) f s = ({ s with watch := s.watch.set n r }, some (.ok [])) := by
  simp [setWatch, h, State.answerOk]

theorem readWatch_of_noRule {n : Byte} (h : ruleOf n = none) (s : State) :
    readWatch n s = (s, some (.bare resRefusedRange)) := by
  simp [readWatch, h, State.refuse]

theorem readWatch_natByte (n : Fin 8) (s : State) :
    readWatch (natByte n.val) s = (s, some (.ok (natByte n.val :: ruleBytes s.watch[n]))) := by
  simp [readWatch, State.answerOk]

theorem exec_watchSet (n : Byte) (f : RuleFields) (s : State) :
    exec (.watchSet n f) s = request 0x11 (n :: ruleFieldBytes f) (setWatch n f) s := rfl

/-- A WATCH_SET that changes nothing is answered with a bare result. -/
theorem exec_watchSet_refused {s : State} {n : Byte} {f : RuleFields} {code : Byte} (h : s.linkReady)
    (hact : setWatch n f s.accepting = (s.accepting, some (.bare code))) :
    exec (.watchSet n f) s = .next (s.answered 0x11 [code]) :=
  request_unchanged (a := .bare code) h 0x11 (by simp [ruleFieldBytes, Config.maxPayload]) hact

/-- A WATCH_SET whose fields are within their values writes its rule (R165 step 3). -/
theorem exec_watchSet_taken {s : State} {f : RuleFields} {r : Rule} (h : s.linkReady) (hr : readRule f = some r)
    (n : Fin 8) : exec (.watchSet (natByte n.val) f) s
      = .next (({ s with watch := s.watch.set n r } : State).answered 0x11 [0x00]) := by
  rw [exec_watchSet]
  refine request_of_withLink (a := .ok []) h 0x11 (by simp [ruleFieldBytes, Config.maxPayload]) (fun l => ?_) rfl
  rw [setWatch_of_taken hr]; rfl

/-- A WATCH_READ changes nothing and is answered with what the read comes to. -/
theorem exec_watchRead {s : State} {n : Byte} {a : Answer} (h : s.linkReady)
    (hact : readWatch n s.accepting = (s.accepting, some a)) :
    exec (.watchRead n) s = .next (s.answered 0x12 a.payload) :=
  request_unchanged h 0x12 (by simp [Config.maxPayload]) hact

/-- Settles O39: each refusal by the number or the field outside its values, the write by the rule that the bytes spell,
and the read by the rule as it stands. -/
theorem watchRulesAreWrittenAndRead : Obligations.WatchRulesAreWrittenAndRead := by
  refine ⟨fun r f => ⟨ruleBytes_toNat r, rfl⟩, fun s hs => ⟨?_, ?_, ?_, ?_, ?_⟩⟩
  · intro n f hn
    exact exec_watchSet_refused hs (setWatch_of_noRule (ruleOf_eq_none hn) f _)
  · intro n f outside
    have unread : ¬ (readRule f).isSome := by rw [readRule_isSome_iff, ruleListed]; omega
    exact exec_watchSet_refused hs (setWatch_of_unlisted (Option.not_isSome_iff_eq_none.mp unread) _ _)
  · intro n f r spelled
    exact exec_watchSet_taken hs (readRule_eq_some_iff.mpr spelled) n
  · intro n hn
    exact exec_watchRead hs (readWatch_of_noRule (ruleOf_eq_none hn) _)
  · intro n
    exact exec_watchRead hs (readWatch_natByte n s.accepting)

end Sys2Proof.Machine
end

section
/-! SUPPORT. Fault flags, mask bits and notices (R171 to R178): the numbers of flags, what setting a flag and writing a
mask do to the notice unit, and the reply of FAULT_CLEAR and of MASK_SET. -/

namespace Sys2Proof.Machine

/-! ## Sources and sets of flags (R171, R189) -/

@[simp] theorem sourceOf_natByte (src : Source) : sourceOf (natByte src.val) = some src := by
  have h : (natByte src.val).toNat = src.val := by simp [natByte]; omega
  simp [sourceOf, h]

theorem sourceOf_eq_none {n : Byte} (h : 21 < n.toNat) : sourceOf n = none := by
  simp [sourceOf]; omega

theorem flagCount_le_six (src : Source) : flagCount src ≤ 6 := by
  unfold flagCount; split_ifs <;> decide

theorem flagCount_srcBridge (b : BridgeId) : flagCount (srcBridge b) = 3 := by
  have first : ¬ (srcBridge b).val ≤ 1 := by simp only [srcBridge]; omega
  have last : (srcBridge b).val ≤ 9 := by simp only [srcBridge]; omega
  rw [flagCount, if_neg first, if_pos last]

theorem flagCount_srcPort (p : PortId) : flagCount (srcPort p) = 6 := by
  have first : ¬ (srcPort p).val ≤ 1 := by simp only [srcPort]; omega
  have last : ¬ (srcPort p).val ≤ 9 := by simp only [srcPort]; omega
  rw [flagCount, if_neg first, if_neg last]

/-- The flags of a source are those below its count. -/
theorem getLsbD_allFlags (src : Source) (i : Nat) : (allFlags src).getLsbD i = decide (i < flagCount src) := by
  have := flagCount_le_six src
  rw [allFlags, BitVec.getLsbD_ofNat, Nat.testBit_two_pow_sub_one, ← Bool.decide_and, decide_eq_decide]
  omega

theorem getLsbD_flagBit {n : Nat} (h : n < 6) (i : Nat) : (flagBit n).getLsbD i = decide (i = n) := by
  rw [flagBit, BitVec.getLsbD_shiftLeft, BitVec.getLsbD_one]
  grind

/-- A carried set names no flag beyond the source's exactly where it lies below 2 to their number. -/
theorem beyondFlags_eq_false_iff {src : Source} {flags : Byte} :
    beyondFlags src flags = false ↔ flags.toNat < 2 ^ flagCount src := by
  rw [beyondFlags, bne_eq_false_iff_eq, ← BitVec.toNat_inj, BitVec.toNat_ushiftRight, Nat.shiftRight_eq_div_pow]
  exact Nat.div_eq_zero_iff_lt (Nat.two_pow_pos _)

theorem beyondFlags_eq_true_iff {src : Source} {flags : Byte} :
    beyondFlags src flags = true ↔ 2 ^ flagCount src ≤ flags.toNat := by
  rw [← Bool.not_eq_false, beyondFlags_eq_false_iff, not_lt]

/-- A carried set of flags of a source is its low six bits. -/
theorem zeroExtend_flags {src : Source} {flags : Byte} (h : flags.toNat < 2 ^ flagCount src) :
    (flags.extractLsb' 0 6 : FlagSet).zeroExtend 8 = flags :=
  (zeroExtend_byte_eq_iff (by decide) _ _).mpr
    ⟨h.trans_le (Nat.pow_le_pow_right (by decide) (flagCount_le_six src)), rfl⟩

/-! ## Reportable state (R20, R92) -/

theorem Port.sameReported_iff {q r : Port} : q.sameReported r = true ↔ q.lifecycle = r.lifecycle
    ∧ q.engaged = r.engaged ∧ q.bar = r.bar ∧ q.unit = r.unit ∧ q.key = r.key := by
  simp only [Port.sameReported, Bool.and_eq_true, beq_iff_eq, and_assoc]

theorem Bridge.sameReported_iff {q r : Bridge} : q.sameReported r = true ↔
    q.holder.map (·.who) = r.holder.map (·.who) ∧ q.queue = r.queue ∧ stackView q.stack = stackView r.stack := by
  simp only [Bridge.sameReported, Bool.and_eq_true, beq_iff_eq, and_assoc, and_comm (a := stackView _ = _)]

/-! ## ATTN (R176) -/

/-- Some flag of a set is outside another exactly where the first without the second is not empty. -/
theorem and_not_ne_zero_iff {w : Nat} (flags masks : BitVec w) :
    flags &&& ~~~masks ≠ 0 ↔ ∃ i : Nat, flags.getLsbD i = true ∧ masks.getLsbD i = false := by
  constructor
  · intro some_unmasked
    by_contra none_unmasked
    push Not at none_unmasked
    apply some_unmasked
    ext i hi
    have := none_unmasked i
    simp_all
  · rintro ⟨i, set, unmasked⟩ empty
    have absent : (flags &&& ~~~masks).getLsbD i = false := by rw [empty]; exact BitVec.getLsbD_zero
    rw [BitVec.getLsbD_and, BitVec.getLsbD_not, set, unmasked] at absent
    simp [BitVec.lt_of_getLsbD set] at absent

theorem attn_eq_true_iff (s : State) : s.attn = true ↔ ∃ (src : Source) (i : Nat),
    s.notices.flags[src].getLsbD i = true ∧ s.notices.masks[src].getLsbD i = false := by
  simp only [State.attn, List.any_eq_true, List.mem_finRange, true_and, bne_iff_ne, and_not_ne_zero_iff]

/-! ## Setting a flag (R172, R174) -/

theorem getElem_set_source {α : Type} (v : Vector α 22) (src other : Source) (x : α) :
    (v.set src x)[other] = if other = src then x else v[other] := by
  simp only [Fin.getElem_fin, Vector.getElem_set, Fin.ext_iff, eq_comm]

section Raise
variable {s : State} {src : Source} {n : Nat}

/-- What setting a flag does to the notice unit, and that it does nothing else. -/
theorem raise_eq : s.raise src n = { s with notices := { s.notices with
    flags := if s.notices.flags[src].getLsbD n = true then s.notices.flags
      else s.notices.flags.set src (s.notices.flags[src] ||| flagBit n)
    marks := if s.notices.flags[src].getLsbD n = false ∧ s.notices.masks[src].getLsbD n = false
      then s.notices.marks.set src true else s.notices.marks } } := by
  unfold State.raise
  split
  · next already => simp only [already, Bool.true_eq_false, false_and, if_false]
  · next clear =>
    rw [Bool.not_eq_true] at clear
    simp only [clear, true_and]
    split
    · next masked => simp only [masked, Bool.true_eq_false, if_false]
    · next unmasked => rw [if_pos (Bool.eq_false_of_not_eq_true unmasked)]; rfl

/-- The one flag is set, and stays set if it was. -/
theorem getLsbD_raise_flags (h : n < 6) (other : Source) (i : Nat) : (s.raise src n).notices.flags[other].getLsbD i
    = (s.notices.flags[other].getLsbD i || decide (other = src ∧ i = n)) := by
  rw [raise_eq]
  dsimp only
  split
  · next already =>
    by_cases this : other = src ∧ i = n
    · obtain ⟨rfl, rfl⟩ := this
      rw [already, Bool.true_or]
    · rw [decide_eq_false this, Bool.or_false]
  · rw [getElem_set_source]
    split
    · next here => simp [here, getLsbD_flagBit h]
    · next elsewhere => simp [elsewhere]

/-- The source's notice becomes pending where an unmasked flag goes from clear to set, and nowhere else. -/
theorem raise_marks (other : Source) : (s.raise src n).notices.marks[other] = (s.notices.marks[other]
    || decide (other = src ∧ s.notices.flags[src].getLsbD n = false ∧ s.notices.masks[src].getLsbD n = false)) := by
  rw [raise_eq]
  dsimp only
  split
  · next newly =>
    rw [getElem_set_source]
    split
    · next here => rw [decide_eq_true ⟨here, newly⟩, Bool.or_true]
    · next elsewhere => rw [decide_eq_false fun h => elsewhere h.1, Bool.or_false]
  · next notNewly => rw [decide_eq_false fun h => notNewly h.2, Bool.or_false]

theorem raise_frame : s.raise src n = { s with notices := { s.notices with
    flags := (s.raise src n).notices.flags, marks := (s.raise src n).notices.marks } } := by
  rw [raise_eq]

end Raise

/-- Settles O43: the numbers by evaluation, ATTN by the sets without their masks, and the setting of a flag field by
field. -/
theorem flagsDriveAttnAndNotices : Obligations.FlagsDriveAttnAndNotices := by
  refine ⟨⟨rfl, rfl, fun b => rfl, fun p => rfl, rfl, rfl, flagCount_srcBridge, flagCount_srcPort, getLsbD_allFlags,
    rfl, rfl, rfl, rfl⟩, fun q r => Port.sameReported_iff, fun q r => Bridge.sameReported_iff, attn_eq_true_iff,
    fun s => by simp [State.attnLine], ?_⟩
  rintro s t src n exists_flag rfl
  have inSet : n < 6 := exists_flag.trans_le (flagCount_le_six src)
  exact ⟨getLsbD_raise_flags inSet, raise_marks, raise_frame⟩

/-! ## The steps of FAULT_CLEAR (R177) -/

theorem clearFault_of_noSource {n : Byte} (h : sourceOf n = none) (flags : Byte) (s : State) :
    clearFault n flags s = (s, some (.bare resRefusedRange)) := by
  simp [clearFault, h, State.refuse]

theorem clearFault_of_beyond {src : Source} {flags : Byte} (h : beyondFlags src flags = true) (s : State) :
    clearFault (natByte src.val) flags s = (s, some (.bare resRefusedRange)) := by
  simp [clearFault, h, State.refuse]

theorem clearFault_of_taken {src : Source} {flags : Byte} (h : beyondFlags src flags = false) (s : State) :
    clearFault (natByte src.val) flags s = (s.clearFlags src (flags.extractLsb' 0 6),
      some (.ok [(s.notices.flags[src] &&& ~~~flags.extractLsb' 0 6).zeroExtend 8])) := by
  simp [clearFault, h, State.answerOk, State.flagsByte, State.clearFlags]

/-- What is left of a source's flags: those that the carried set does not name. -/
theorem getLsbD_clearFlags (set : FlagSet) (flags : Byte) (i : Nat) :
    (set &&& ~~~flags.extractLsb' 0 6).getLsbD i = (set.getLsbD i && !flags.getLsbD i) := by
  by_cases hi : i < 6
  · simp [hi]
  · simp [BitVec.getLsbD_of_ge set i (by omega)]

/-- A FAULT_CLEAR that changes nothing is answered with a bare result. -/
theorem exec_faultClear_refused {s : State} {n flags code : Byte} (h : s.linkReady)
    (hact : clearFault n flags s.accepting = (s.accepting, some (.bare code))) :
    exec (.faultClear n flags) s = .next (s.answered 0x1B [code]) :=
  request_unchanged (a := .bare code) h 0x1B (by simp [Config.maxPayload]) hact

/-- A FAULT_CLEAR of flags that the source has clears these and answers those left (R177 step 3). -/
theorem exec_faultClear_taken {s : State} {src : Source} {flags : Byte} (h : s.linkReady)
    (hf : beyondFlags src flags = false) : exec (.faultClear (natByte src.val) flags) s = .next
      ((s.clearFlags src (flags.extractLsb' 0 6)).answered 0x1B
        [0x00, (s.notices.flags[src] &&& ~~~flags.extractLsb' 0 6).zeroExtend 8]) :=
  request_of_withLink (a := .ok _) h 0x1B (by simp [Config.maxPayload]) (fun l => clearFault_of_taken hf (s.withLink l))
    rfl

/-! ## The steps of MASK_SET (R178) -/

theorem writeMask_eq (s : State) (src : Source) (mask : FlagSet) (on : Bool) :
    s.writeMask src mask on = { s with notices := { s.notices with
      masks := s.notices.masks.set src mask, switches := s.notices.switches.set src on
      marks := if s.notices.flags[src] &&& s.notices.masks[src] &&& ~~~mask = 0 then s.notices.marks
        else s.notices.marks.set src true } } := by
  unfold State.writeMask
  dsimp only
  split <;> rfl

@[simp] theorem writeMask_withLink (s : State) (l : Link) (src : Source) (mask : FlagSet) (on : Bool) :
    (s.withLink l).writeMask src mask on = (s.writeMask src mask on).withLink l := by
  rw [writeMask_eq, writeMask_eq]; rfl

theorem writeMask_link (s : State) (src : Source) (mask : FlagSet) (on : Bool) :
    (s.writeMask src mask on).link = s.link := by
  rw [writeMask_eq]

theorem setMask_of_noSource {n : Byte} (h : sourceOf n = none) (mask switch : Byte) (s : State) :
    setMask n mask switch s = (s, some (.bare resRefusedRange)) := by
  simp [setMask, h, State.refuse]

/-- What MASK_SET refuses of a source that exists: flags that it has not, a switch that is none, and the device's switch
on (R178 steps 2 and 3). -/
theorem setMask_of_refused {src : Source} {mask switch : Byte} (h : beyondFlags src mask = true
    ∨ switchOf switch = none ∨ src = srcDevice ∧ switchOf switch = some true) (s : State) :
    setMask (natByte src.val) mask switch s = (s, some (.bare resRefusedRange)) := by
  simp only [setMask, sourceOf_natByte, State.refuse]
  split
  · rfl
  · next within =>
    rcases h.resolve_left within with unlisted | ⟨device, on⟩
    · rw [unlisted]
    · rw [on]; simp [device]

theorem setMask_of_taken {src : Source} {mask switch : Byte} {on : Bool} (within : beyondFlags src mask = false)
    (listed : switchOf switch = some on) (notDevice : src = srcDevice → on = false) (s : State) :
    setMask (natByte src.val) mask switch s
      = (s.writeMask src (mask.extractLsb' 0 6) on, some (.ok [mask, switch])) := by
  have notOn : ¬ (src = srcDevice ∧ on = true) := by
    rintro ⟨device, isOn⟩
    exact absurd (notDevice device) (by simp [isOn])
  simp [setMask, within, listed, notOn, State.answerOk]

/-- A MASK_SET that changes nothing is answered with a bare result. -/
theorem exec_maskSet_refused {s : State} {n mask switch code : Byte} (h : s.linkReady)
    (hact : setMask n mask switch s.accepting = (s.accepting, some (.bare code))) :
    exec (.maskSet n mask switch) s = .next (s.answered 0x1C [code]) :=
  request_unchanged (a := .bare code) h 0x1C (by simp [Config.maxPayload]) hact

/-- A MASK_SET that is taken writes mask and switch and answers both (R178 step 4). -/
theorem exec_maskSet_taken {s : State} {src : Source} {mask switch : Byte} {on : Bool} (h : s.linkReady)
    (within : beyondFlags src mask = false) (listed : switchOf switch = some on)
    (notDevice : src = srcDevice → on = false) : exec (.maskSet (natByte src.val) mask switch) s = .next
      ((s.writeMask src (mask.extractLsb' 0 6) on).answered 0x1C [0x00, mask, switch]) := by
  refine request_of_withLink (a := .ok _) h 0x1C (by simp [Config.maxPayload]) (fun l => ?_) (writeMask_link ..)
  rw [setMask_of_taken within listed notDevice, writeMask_withLink]

/-- Settles O42: each refusal by the step that fails, FAULT_CLEAR by what it leaves of the flags, MASK_SET by what it
writes. -/
theorem faultClearAndMaskSet : Obligations.FaultClearAndMaskSet := by
  intro s hs
  refine ⟨?_, ?_, ?_, ?_, ?_, ?_⟩
  · intro n flags noSource
    exact exec_faultClear_refused hs (clearFault_of_noSource (sourceOf_eq_none noSource) _ _)
  · intro src flags beyond
    exact exec_faultClear_refused hs (clearFault_of_beyond (beyondFlags_eq_true_iff.mpr beyond) _)
  · intro src flags within
    exact ⟨_, getLsbD_clearFlags _ flags, exec_faultClear_taken hs (beyondFlags_eq_false_iff.mpr within)⟩
  · intro n mask switch noSource
    exact exec_maskSet_refused hs (setMask_of_noSource (sourceOf_eq_none noSource) _ _ _)
  · intro src mask switch refused
    refine exec_maskSet_refused hs (setMask_of_refused (refused.imp beyondFlags_eq_true_iff.mpr (Or.imp ?_ ?_)) _)
    · intro notASwitch
      rw [← Option.not_isSome_iff_eq_none, switchOf_isSome_iff]
      omega
    · rintro ⟨device, rfl⟩
      exact ⟨device, rfl⟩
  · intro src mask on within notDevice
    refine ⟨mask.extractLsb' 0 6, _, zeroExtend_flags within, rfl, ?_⟩
    rw [← writeMask_eq]
    exact exec_maskSet_taken hs (beyondFlags_eq_false_iff.mpr within) (switchOf_eq_some_iff.mpr rfl) notDevice

end Sys2Proof.Machine
end

section
/-! SUPPORT. What a command comes to, said once: an event, a request, an operation of the link, another operation, or
RESET and its release; and what the link's operations do to the rest of the part. -/

namespace Sys2Proof.Machine

/-! ## The forms of a command -/

/-- The operations of the link that are no request (R180 to R188). -/
inductive LinkTaken : (State → State) → Prop
  | gap : LinkTaken State.expireGap
  | reply : LinkTaken State.startReply
  | notice (src : Source) : LinkTaken (State.startNotice src)
  | transmission : LinkTaken State.endTransmission
  | lineWait (on : Bool) : LinkTaken fun s => { s with link := { s.link with lineWait := on } }

/-- The operations that are no business of the link: the switch, samples and frames, and the data lines. -/
inductive Operated : (State → State) → Prop
  | switchAtFrame : Operated State.switchAtFrame
  | startFrame : Operated State.startFrame
  | samplePeriod (slots : Vector Half 13) : Operated (State.samplePeriod slots)
  | endFrame (cs pres : PortSet) (late : Late) : Operated (State.endFrame cs pres late)
  | takeCharacter (p : PortId) (data : Byte) (parity stop : Bool) : Operated (State.takeCharacter p data parity stop)
  | ident (p : PortId) (u : UnitId) : Operated (State.takeReport p 1 u (State.acceptIdent p u))
  | emerg (p : PortId) (u : UnitId) : Operated (State.takeReport p 2 u (State.acceptEmerg p u))
  | emergClear (p : PortId) (u : UnitId) : Operated (State.takeReport p 3 u (State.acceptEmergClear p u))
  | endDataLineWait (p : PortId) : Operated (State.endDataLineWait p)

/-- What a command does, by its kind. -/
inductive TakenAs (c : Instr) : Prop
  | event (d : Due) (comesAbout : State → Bool) (taken : exec c = event d comesAbout)
  | request (kind : Byte) (pl : List Byte) (act : Action) (frame : requestFrame c = some (kind, pl))
      (taken : exec c = request kind pl act) (requested : ∀ s, ∃ a, Requested a ∧ act s = a s)
  | linkByte (b : Byte) (named : c = .linkByteTaken b)
  | link (f : State → State) (form : LinkTaken f) (taken : exec c = operate f)
  | operated (f : State → State) (form : Operated f) (taken : exec c = operate f)
  | reset (named : c = .reset)
  | resetRelease (rate1 rate0 : Bool) (named : c = .resetRelease rate1 rate0)

/-- A request command whose action is one of the requests. -/
theorem TakenAs.ofRequested {c : Instr} {kind : Byte} {pl : List Byte} {act : Action}
    (frame : requestFrame c = some (kind, pl)) (taken : exec c = Machine.request kind pl act)
    (requested : Requested act) : TakenAs c :=
  .request kind pl act frame taken fun _ => ⟨act, requested, rfl⟩

theorem takenAs (c : Instr) : TakenAs c := by
  cases c with
  | describe => exact .ofRequested rfl rfl .describe
  | portSetup n f => exact .ofRequested rfl rfl (.setupPort n f)
  | portRead n => exact .ofRequested rfl rfl (.readPort n)
  | portStart n => exact .ofRequested rfl rfl (.start n)
  | portStop n => exact .ofRequested rfl rfl (.stop n)
  | manualKey n level => exact .ofRequested rfl rfl (.manual n level)
  | planEdit n f => exact .ofRequested rfl rfl (.editPlan n f)
  | planRead m n => exact .ofRequested rfl rfl (.readPlan m n)
  | planCopy => exact .ofRequested rfl rfl .copyPlan
  | planSwitch => exact .ofRequested rfl rfl .switchPlan
  | bridgeRead n => exact .ofRequested rfl rfl (.readBridge n)
  | clearBridges => exact .ofRequested rfl rfl .clearBridges
  | unitEnter u agency role override => exact .ofRequested rfl rfl (.enter u agency role override)
  | unitRemove u => exact .ofRequested rfl rfl (.remove u)
  | unitRead form x y => exact .ofRequested rfl rfl (.readUnit form x y)
  | purgeLearned => exact .ofRequested rfl rfl .purge
  | watchSet n f => exact .ofRequested rfl rfl (.setWatch n f)
  | watchRead n => exact .ofRequested rfl rfl (.readWatch n)
  | emergencyDeclare n => exact .ofRequested rfl rfl (.declare n)
  | emergencyClear n => exact .ofRequested rfl rfl (.clearEmergency n)
  | consoleTalk bridges => exact .ofRequested rfl rfl (.talk bridges)
  | consoleRelease => exact .ofRequested rfl rfl .releaseConsole
  | consoleMonitor mask gains => exact .ofRequested rfl rfl (.monitor mask gains)
  | mixerSetup f => exact .ofRequested rfl rfl (.setupMixer f)
  | mixerHalt => exact .ofRequested rfl rfl .halt
  | mixerRun => exact .ofRequested rfl rfl .run
  | faultClear source flags => exact .ofRequested rfl rfl (.clearFault source flags)
  | maskSet source mask switch => exact .ofRequested rfl rfl (.setMask source mask switch)
  | unknownKind kind pl => exact .request kind pl _ rfl rfl (judgeFrame_requested kind pl)
  | linkByteTaken b => exact .linkByte b rfl
  | linkGapTimeout => exact .link _ .gap rfl
  | replyTransmit => exact .link _ .reply rfl
  | deviceNotice => exact .link _ (.notice _) rfl
  | consoleNotice => exact .link _ (.notice _) rfl
  | bridgeNotice b => exact .link _ (.notice _) rfl
  | portNotice p => exact .link _ (.notice _) rfl
  | linkTransmissionEnd => exact .link _ .transmission rfl
  | linkCharacterDiscarded => exact .link _ (.lineWait true) rfl
  | linkLineWaitEnd => exact .link _ (.lineWait false) rfl
  | reset => exact .reset rfl
  | resetRelease rate1 rate0 => exact .resetRelease rate1 rate0 rfl
  | planSwitchMade => exact .operated _ .switchAtFrame rfl
  | frameStart => exact .operated _ .startFrame rfl
  | mixSample slots => exact .operated _ (.samplePeriod slots) rfl
  | frameCompletion cs pres late => exact .operated _ (.endFrame cs pres late) rfl
  | dataCharacter p data parity stop => exact .operated _ (.takeCharacter p data parity stop) rfl
  | ident p u => exact .operated _ (.ident p u) rfl
  | emerg p u => exact .operated _ (.emerg p u) rfl
  | emergClear p u => exact .operated _ (.emergClear p u) rfl
  | dataLineWaitEnd p => exact .operated _ (.endDataLineWait p) rfl
  | alertHalfPeriod b => exact .event _ _ rfl
  | alertSegmentChange b => exact .event _ _ rfl
  | burstEnd b => exact .event _ _ rfl
  | presenceTaken p => exact .event _ _ rfl
  | carrierTaken p => exact .event _ _ rfl
  | voxHoldExpiry p => exact .event _ _ rfl
  | assemblyAgeExpiry p => exact .event _ _ rfl
  | pendingIdentityExpiry p => exact .event _ _ rfl
  | talkTimerExpiry b => exact .event _ _ rfl
  | drainEnd p => exact .event _ _ rfl
  | hangEnd p => exact .event _ _ rfl
  | blankEnd p => exact .event _ _ rfl
  | keyLimit p => exact .event _ _ rfl
  | coolBlankEnd p => exact .event _ _ rfl
  | cooldownEnd p => exact .event _ _ rfl

/-! ## What the link does to the rest of the part -/

/-- The link writes itself alone, a frame is abandoned, an accepted frame acts between two writes of the link, or a
notice is sent. -/
inductive LinkWrites (s : State) : State → Prop
  | link (l : Link) : LinkWrites s (s.withLink l)
  | abandoned (l l' : Link) : LinkWrites s (((s.withLink l).raise srcDevice flagLinkFrame).withLink l')
  | acted (l l' : Link) (act : Action) (requested : Requested act) : LinkWrites s ((act (s.withLink l)).1.withLink l')
  | sent (l : Link) (src : Source) : LinkWrites s ((s.withLink l).sendNotice src)

theorem LinkWrites.refl (s : State) : LinkWrites s s := .link s.link

theorem linkWrites_abandonFrame (s : State) : LinkWrites s s.abandonFrame := .abandoned _ (State.link _)

theorem linkWrites_completeReception (s : State) (kind : Byte) (pl : List Byte) (check : Byte) :
    LinkWrites s (s.completeReception kind pl check) := by
  unfold State.completeReception
  dsimp only
  split
  · obtain ⟨act, requested, judged⟩ := judgeFrame_requested kind pl s.endReception
    rw [State.answerFrame, judged]
    exact .acted _ _ act requested
  · exact .abandoned _ _

/-- A byte on LRX (R182). -/
theorem linkWrites_takeLinkByte (s : State) (b : Byte) : LinkWrites s (s.takeLinkByte b) := by
  have received (rx : LinkRx) : LinkWrites s (s.receive rx) := .link _
  have begun : LinkWrites s (s.reserve.receive .length) := .link _
  unfold State.takeLinkByte
  split
  · exact .refl s
  · split
    · split
      · exact begun
      · exact .refl s
    · split
      · exact received _
      · exact linkWrites_abandonFrame s
    · exact received _
    · exact received _
    · exact linkWrites_completeReception s _ _ _

/-- The operations of the link that are no request write no other part but by a notice or an abandoned frame. -/
theorem LinkTaken.writes {f : State → State} (h : LinkTaken f) (s : State) : LinkWrites s (f s) := by
  cases h with
  | gap =>
    unfold State.expireGap
    split
    · exact .refl s
    all_goals exact linkWrites_abandonFrame s
  | reply =>
    unfold State.startReply
    split
    · exact .link _
    · exact .refl s
  | notice src =>
    unfold State.startNotice
    split
    · exact .sent s.link src
    · exact .refl s
  | transmission =>
    unfold State.endTransmission State.chooseNext
    split
    · split
      · exact .link _
      · split
        · exact .sent _ _
        · exact .link _
    · exact .refl s
  | lineWait on => exact .link _

/-- A whole frame at a receiver that is ready for it acts, and at another its bytes are taken in turn (log entry 3). -/
theorem takeFrame_cases (s : State) (kind : Byte) (pl : List Byte) (act : Action)
    (requested : ∀ s, ∃ a, Requested a ∧ act s = a s) :
    LinkWrites s (s.takeFrame kind pl act)
      ∨ (s.link.ready && decide (pl.length ≤ Config.maxPayload)) = false
        ∧ s.takeFrame kind pl act = (frameBytes kind pl).foldl State.takeLinkByte s := by
  unfold State.takeFrame
  split
  · refine .inl ?_
    obtain ⟨a, is_requested, same⟩ : ∃ a, Requested a ∧
        (if s.reserve.endReception.plans.switchPending then s.reserve.endReception.refuse resBusy
          else act s.reserve.endReception) = a s.reserve.endReception := by
      split
      · exact ⟨_, .refuse _, rfl⟩
      · exact requested _
    unfold State.answerFrame
    simp only [same]
    exact .acted _ _ a is_requested
  · next notReady => exact .inr ⟨Bool.eq_false_of_not_eq_true notReady, rfl⟩

/-! ## What every step keeps -/

/-- What the events, the data lines and the mixer bring keeps a property, and so do the model's own queues and a
reset. -/
structure KeptByEvents (P : State → Prop) : Prop where
  pending : ∀ (s : State) (cs : List Instr), P s → P { s with pending := cs }
  due : ∀ (s : State) (ds : List Due), P s → P { s with due := ds }
  takeDue : ∀ (s : State) (d : Due), P s → P (s.takeDue d)
  operated : ∀ {f : State → State}, Operated f → ∀ s : State, P s → P (f s)
  assertReset : ∀ s : State, P s → P s.assertReset
  releaseReset : ∀ (rate1 rate0 : Bool) (s : State), P s → P (s.releaseReset rate1 rate0)

/-- What the link brings keeps a property: its own state, the flag of an abandoned frame, a notice that is sent, and
every accepted request. -/
structure KeptByLink (P : State → Prop) : Prop where
  link : ∀ (s : State) (l : Link), P s → P (s.withLink l)
  linkFrame : ∀ s : State, P s → P (s.raise srcDevice flagLinkFrame)
  sendNotice : ∀ (s : State) (src : Source), P s → P (s.sendNotice src)
  action : ∀ {act : Action}, Requested act → ∀ s : State, P s → P (act s).1

section
variable {P : State → Prop} {s t : State}

theorem KeptByEvents.settle (k : KeptByEvents P) (hs : P s) : P s.settle :=
  KeptByOperations.foldl k.takeDue s.due (k.due s [] hs)

theorem KeptByEvents.event (k : KeptByEvents P) {d : Due} {comesAbout : State → Bool}
    (h : event d comesAbout s = .next t) (hs : P s) : P t := by
  cases h
  split
  · exact hs
  · unfold State.takeNamed
    split
    · exact k.takeDue _ d (k.due s _ hs)
    · exact hs

theorem KeptByEvents.operate (k : KeptByEvents P) {f : State → State} (hf : ∀ s, P s → P (f s))
    (h : operate f s = .next t) (hs : P s) : P t := by
  cases h
  split
  · exact hs
  · exact hf _ (k.settle hs)

theorem KeptByLink.writes (k : KeptByLink P) (h : LinkWrites s t) (hs : P s) : P t := by
  cases h with
  | link l => exact k.link s l hs
  | abandoned l l' => exact k.link _ l' (k.linkFrame _ (k.link s l hs))
  | acted l l' act requested => exact k.link _ l' (k.action requested _ (k.link s l hs))
  | sent l src => exact k.sendNotice _ src (k.link s l hs)

theorem KeptByLink.takeFrame (k : KeptByLink P) {kind : Byte} {pl : List Byte} {act : Action}
    (requested : ∀ s, ∃ a, Requested a ∧ act s = a s) (hs : P s) : P (s.takeFrame kind pl act) := by
  rcases takeFrame_cases s kind pl act requested with whole | ⟨-, bytes⟩
  · exact k.writes whole hs
  · rw [bytes]
    exact KeptByOperations.foldl (fun s b => k.writes (linkWrites_takeLinkByte s b)) _ hs

/-- A command that is neither a request nor a link byte keeps what the events and the rest of the link keep. -/
theorem KeptByEvents.exec_of (k : KeptByEvents P) {c : Instr} (h : exec c s = .next t) (hs : P s)
    (link : ∀ {f}, LinkTaken f → ∀ s, P s → P (f s))
    (request : ∀ (kind : Byte) (pl : List Byte) (act : Action), requestFrame c = some (kind, pl) →
      exec c = request kind pl act → (∀ s, ∃ a, Requested a ∧ act s = a s) → P t)
    (byte : ∀ b, c = .linkByteTaken b → P t) : P t := by
  cases takenAs c with
  | event d comesAbout taken => rw [taken] at h; exact k.event h hs
  | request kind pl act frame taken requested => exact request kind pl act frame taken requested
  | linkByte b named => exact byte b named
  | link f form taken => rw [taken] at h; exact k.operate (link form) h hs
  | operated f form taken => rw [taken] at h; exact k.operate (k.operated form) h hs
  | reset named => subst named; cases h; exact k.assertReset s hs
  | resetRelease rate1 rate0 named => subst named; cases h; exact k.releaseReset rate1 rate0 s hs

theorem KeptByEvents.exec (k : KeptByEvents P) (l : KeptByLink P) {c : Instr} (h : exec c s = .next t) (hs : P s) :
    P t := by
  refine k.exec_of h hs (fun form s => l.writes (form.writes s)) ?_ ?_
  · intro kind pl act _ taken requested
    rw [taken] at h
    exact k.operate (fun _ => l.takeFrame requested) h hs
  · rintro b rfl
    exact k.operate (fun s => l.writes (linkWrites_takeLinkByte s b)) h hs

/-- What events and link keep, every step keeps: the command at the front acts over the rest of the queue. -/
theorem KeptByEvents.step (k : KeptByEvents P) (l : KeptByLink P) (h : step s = .next t) (hs : P s) : P t := by
  unfold Machine.step at h
  split at h
  · cases h; exact hs
  · exact k.exec l h (k.pending s _ hs)

end

end Sys2Proof.Machine
end

section
/-! SUPPORT. The pieces of which every event and every request is made: what one of them does before it is handed on,
  and
that a property which all of them keep is kept by every step. -/

namespace Sys2Proof.Machine

/-! ## What is done before it is handed on -/

/-- Entry to ACTIVE, before it is handed on. -/
def State.activated (p : PortId) (s : State) : State :=
  s.updatePort p fun q => { q with
    lifecycle := .active
    carrier := false, carrierCount := 0, vox := false, quietCount := 0
    engaged := false, bar := false
    key := .idle, timing := 0, keyUp := 0
    receiver := if (s.port p).setup.dataLine then .hunting else .idle
    lineWait := (s.port p).setup.dataLine && !s.dataLines.getLsbD p }

theorem activate_eq (s : State) (p : PortId) : s.activate p = (s.activated p).handOn := rfl

/-- The rest of a port that has left ACTIVE goes to rest (R7). -/
def Port.dropped (q : Port) : Port := { q with
  key := .idle, timing := 0, keyUp := 0
  bar := false, unit := none, pendingId := none
  receiver := .idle, lineWait := false
  carrier := false, carrierCount := 0, vox := false, quietCount := 0 }

/-- Departure, before it is handed on. -/
def State.departed (p : PortId) (life : Lifecycle) (s : State) : State :=
  let s := s.updatePort p fun q => { q with lifecycle := life }
  (if (s.port p).engaged then s.endEngagement p else s).updatePort p Port.dropped

theorem depart_eq (s : State) (p : PortId) (life : Lifecycle) : s.depart p life = (s.departed p life).handOn := rfl

/-- The bar of a cut holder (R88). -/
def State.barHolder (who : Talker) (s : State) : State :=
  match who with
  | .port p => if (s.port p).engaged then s.updatePort p fun q => { q with bar := true } else s
  | .con => s

/-- The cut of a holder, before its flag and before it is handed on (R88). -/
def State.cutPlace (b : BridgeId) (who : Talker) (s : State) : State := (s.barHolder who).release b

theorem cut_eq (s : State) (b : BridgeId) (who : Talker) :
    s.cut b who = ((s.cutPlace b who).raise (srcBridge b) flagTalkTimeout).handOn := rfl

/-- The count of a key machine with what it reaches, before it is handed on (R110). -/
def State.keyReached (p : PortId) (s : State) : State :=
  let q := (s.port p).keyCounted
  let s := s.setPort p q
  if q.limitReached then s.enterCool p
  else if q.drainOver then s.enterHang p
  else if q.hangOver then s.enterBlank false p
  else if q.blankOver then s.enterIdle false p
  else if q.cooldownOver then s.enterIdle false p
  else if q.key = .cool then s.judgeEngagement false p
  else s

theorem keyTick_eq (s : State) (p : PortId) : s.keyTick p = (s.keyReached p).handOn := rfl

/-- The qualifiers' change with its change of engagement, before it is handed on (R14). -/
def State.requalified (p : PortId) (s : State) : State :=
  (s.setPort p (s.port p).requalified).judgeEngagement false p

theorem requalify_eq (s : State) (p : PortId) : s.requalify p = (s.requalified p).handOn := rfl

/-- A burst started or reloaded, before it is handed on (R161). -/
def State.burstStarted (b : BridgeId) (s : State) : State :=
  let r := s.bridge b
  let frames := (s.record b).alertLength * Config.framesPerSecond
  if r.burst = 0 then (s.setBridge b { r with burst := frames, phase := .start }).reportChange (srcBridge b)
  else s.setBridge b { r with burst := frames }

theorem startBurst_eq (s : State) (b : BridgeId) : s.startBurst b = (s.burstStarted b).handOn := by
  unfold State.startBurst State.burstStarted
  dsimp only
  split <;> rfl

/-- The end of a burst, before it is handed on (R143). -/
def State.burstEnded (b : BridgeId) (s : State) : State :=
  (s.setBridge b { s.bridge b with burst := 0, phase := .start }).reportChange (srcBridge b)

/-- A settings latch at a frame start (R126). -/
def State.latched (s : State) : State := { s with mixer := { s.mixer with frame := some ⟨0, s.latch⟩ } }

/-! ## What no invariant of the part speaks of -/

/-- A port without what no invariant speaks of. -/
def Port.view (q : Port) : Port :=
  { q with manualKey := false, present := false, presenceCount := 0, voxSum := 0, voxLevel := 0, lineWait := false,
           pendingId := none }

/-- A state without what no invariant of the ports, the bridges and the settings speaks of. -/
def State.view (s : State) : State :=
  { s with
    inReset := false, dataLines := 0
    ports := s.ports.map Port.view
    bidCounter := 0
    watch := Vector.replicate 8 ⟨false, 0, 0, 0, 0, 0⟩
    notices := { s.notices with marks := Vector.replicate 22 false, started := false }
    due := [], pending := [] }

theorem view_setPort {s : State} {p : PortId} {q : Port} (h : q.view = (s.port p).view) :
    (s.setPort p q).view = s.view := by
  simp only [State.view, State.setPort]
  rw [map_set_eq _ _ _ _ _ h]

theorem view_due (s : State) (ds : List Due) : ({ s with due := ds } : State).view = s.view := rfl

@[simp] theorem view_reportChange (s : State) (src : Source) : (s.reportChange src).view = s.view := by
  unfold State.reportChange; split <;> rfl

@[simp] theorem view_reportIf (s : State) (changed : Bool) (src : Source) :
    (s.reportIf changed src).view = s.view := by
  unfold State.reportIf; split <;> simp

/-! ## The pieces -/

/-- The pieces of the events, the data lines and the mixer keep a property that does not speak of what the view leaves
out, where `Given` holds of the state before; what a piece leaves to be handed on has `Mid`. -/
structure KeptByPieces (P : State → Prop) (Given : State → Prop := fun _ => True) (Mid : State → Prop := P) :
    Prop where
  same : ∀ {s t : State}, t.view = s.view → P s → P t
  raise : ∀ (s : State) (src : Source) (n : Nat), n < flagCount src → P s → (given : Given s := by trivial) →
    P (s.raise src n)
  handOn : ∀ s : State, Mid s → (given : Given s := by trivial) → P s.handOn
  turnLevel : ∀ (s : State) (b : BridgeId), P s → (given : Given s := by trivial) → P (s.turnLevel b)
  changeSegment : ∀ (s : State) (b : BridgeId), P s → (given : Given s := by trivial) → P (s.changeSegment b)
  burstEnded : ∀ (s : State) (b : BridgeId), P s → (given : Given s := by trivial) → Mid (s.burstEnded b)
  setReceiver : ∀ (s : State) (p : PortId) (r : Receiver), (s.port p).receiver ≠ .idle → P s →
    (given : Given s := by trivial) → P (s.setReceiver p r)
  cutPlace : ∀ (s : State) (b : BridgeId) (h : Holder), (s.bridge b).holder = some h →
    (s.bridge b).timerLast = true → P s → (given : Given s := by trivial) →
    Mid ((s.cutPlace b h.who).raise (srcBridge b) flagTalkTimeout)
  timerCounted : ∀ (s : State) (b : BridgeId), P s → (given : Given s := by trivial) →
    P (s.setBridge b (s.bridge b).timerCounted)
  keyReached : ∀ (s : State) (p : PortId), P s → (given : Given s := by trivial) → Mid (s.keyReached p)
  activated : ∀ (s : State) (p : PortId), (s.port p).lifecycle ≠ .active → P s → (given : Given s := by trivial) →
    Mid (s.activated p)
  departed : ∀ (s : State) (p : PortId) (life : Lifecycle), life ≠ .active → (s.port p).lifecycle ≠ .off → P s →
    (given : Given s := by trivial) → Mid (s.departed p life)
  requalified : ∀ (s : State) (p : PortId), P s → (given : Given s := by trivial) → Mid (s.requalified p)
  acceptIdent : ∀ (s : State) (p : PortId) (u : UnitId), validUnit u = true → P s → (given : Given s := by trivial) →
    P (s.acceptIdent p u)
  acceptEmerg : ∀ (s : State) (p : PortId) (u : UnitId), validUnit u = true → P s → (given : Given s := by trivial) →
    P (s.acceptEmerg p u)
  acceptEmergClear : ∀ (s : State) (p : PortId) (u : UnitId), validUnit u = true → P s →
    (given : Given s := by trivial) → P (s.acceptEmergClear p u)
  switchPlans : ∀ s : State, P s → (given : Given s := by trivial) → P s.switchPlans
  latched : ∀ s : State, s.mixer.mode = .run → s.mixer.frame = none → P s → (given : Given s := by trivial) →
    P s.latched
  formSample : ∀ (s : State) (f : Frame) (slots : Vector Half 13), s.mixer.mode = .run → s.mixer.frame = some f →
    f.place < frameLength s.mixer.rate → P s → (given : Given s := by trivial) → P (s.formSample f slots)
  counted : ∀ (s : State) (f : Frame) (cs pres : PortSet) (late : Late), s.mixer.mode = .run →
    s.mixer.frame = some f → P s → (given : Given s := by trivial) → P (s.counted cs pres late)

/-- A property does not speak of the link, and holds at reset. -/
structure KeptApart (P : State → Prop) : Prop where
  link : ∀ (s : State) (l : Link), P s → P (s.withLink l)
  reset : P State.reset

/-- The pieces of the requests, but those that may change an override priority, keep a property, where `Given` holds of
the state before. -/
structure KeptButOverrides (P : State → Prop) (Given : State → Prop := fun _ => True) : Prop where
  startLost : ∀ (s : State) (p : PortId), (s.port p).lifecycle = .off → P s → (given : Given s := by trivial) →
    P (s.updatePort p fun q => { q with lifecycle := .lost })
  writeSetup : ∀ (s : State) (p : PortId) (f : SetupFields) (new : Setup), readSetup f = some new →
    ((s.port p).lifecycle = .off ∨ sameButLive (s.port p).setup new = true) → P s → (given : Given s := by trivial) →
    P (s.writeSetup p new)
  pendSwitch : ∀ s : State, P s → (given : Given s := by trivial) →
    P { s with plans := { s.plans with switchPending := true } }
  writeRecord : ∀ (s : State) (b : BridgeId) (f : RecordFields) (new : Record), readRecord f = some new →
    recordNested new = true → s.memberElsewhere b new.members = false → P s → (given : Given s := by trivial) →
    P (s.writeRecord b new)
  copyPlan : ∀ s : State, P s → (given : Given s := by trivial) →
    P { s with plans := { s.plans with records := s.plans.records.set s.editPlan s.activeRecords } }
  clearAllBridges : ∀ s : State, P s → (given : Given s := by trivial) → P s.clearAllBridges
  haltMixer : ∀ s : State, P s → (given : Given s := by trivial) → P s.haltMixer
  runMixer : ∀ s : State, s.mixer.mode = .halted → P s → (given : Given s := by trivial) →
    P { s with mixer := { s.mixer with mode := .run } }
  setupMixer : ∀ (f : MixerFields) (s : State), P s → (given : Given s := by trivial) → P (setupMixer f s).1
  monitor : ∀ (mask : BridgeSet) (gains : Vector Half 8) (s : State), P s → (given : Given s := by trivial) →
    P (monitor mask gains s).1
  moveConsole : ∀ (s : State) (carried : BridgeSet), P s → (given : Given s := by trivial) → P (s.moveConsole carried)
  purged : ∀ s : State, P s → (given : Given s := by trivial) → P { s with dir := s.dir.purge }
  declared : ∀ (s : State) (p : PortId), (s.port p).emergency = .none → P s → (given : Given s := by trivial) →
    P ((s.enterEmergency p none).handPriority p (s.effPriority p))
  leaveEmergency : ∀ (s : State) (p : PortId), P s → (given : Given s := by trivial) → P (s.leaveEmergency p)
  leaveUnit : ∀ (s : State) (u : UnitId), P s → (given : Given s := by trivial) →
    P ((s.flagUnit u false).leaveAllSourced u)
  clearFlags : ∀ (s : State) (src : Source) (flags : FlagSet), P s → (given : Given s := by trivial) →
    P (s.clearFlags src flags)
  writeMask : ∀ (s : State) (src : Source) (mask : Byte) (on : Bool), beyondFlags src mask = false →
    (src = srcDevice → on = false) → P s → (given : Given s := by trivial) →
    P (s.writeMask src (mask.extractLsb' 0 6) on)

/-- The pieces of the requests keep a property, where `Given` holds of the state before. -/
structure KeptByRequests (P : State → Prop) (Given : State → Prop := fun _ => True) : Prop
    extends KeptButOverrides P Given where
  entered : ∀ (s : State) (u : UnitId) (agency : BitVec 4) (role : BitVec 3) (o : Option Nat) (w : Fin 4)
    (d : Directory), validUnit u = true → (∀ n, o = some n → n ≤ 3) → s.enterUnit u agency role o = some (w, d) →
    P s → (given : Given s := by trivial) → P (State.handOverride s u { s with dir := d })
  removed : ∀ (s : State) (u : UnitId) (w : Fin 4), s.dir.find u = some w → P s → (given : Given s := by trivial) →
    P (State.handOverride s u { s with dir := s.dir.put (hashSet u) w none })

section
variable {P Mid : State → Prop} {s t : State}

namespace KeptByPieces

/-! ## Events -/

theorem takeDue (k : KeptByPieces P (Mid := Mid)) (d : Due) (hs : P s) : P (s.takeDue d) := by
  cases d with
  | half b => exact k.turnLevel s b hs
  | segment b => exact k.changeSegment s b hs
  | burstEnd b =>
    change P (s.endBurst b)
    unfold State.endBurst
    dsimp only
    split
    · exact k.handOn _ (k.burstEnded s b hs)
    · exact hs
  | window p =>
    change P (s.expireIdentity p)
    unfold State.expireIdentity
    split
    · exact k.same (view_setPort rfl) hs
    · exact hs
  | age p =>
    change P (s.expireAssembly p)
    unfold State.expireAssembly
    split
    · next reached =>
      have assembling : (s.port p).receiver ≠ .idle := by
        intro idle
        simp [Port.ageReached, idle] at reached
      exact k.raise _ _ _ (by rw [flagCount_srcPort]; decide) (k.setReceiver s p .hunting assembling hs)
    · exact hs
  | talk b =>
    change P (s.talkTick b)
    unfold State.talkTick
    split
    · exact hs
    · next h holder =>
      split
      · next last =>
        rw [cut_eq]
        exact k.handOn _ (k.cutPlace s b h holder last hs)
      · exact k.timerCounted s b hs
  | key p => exact k.handOn _ (k.keyReached s p hs)
  | presence p =>
    change P (s.takePresence p)
    have seen : P (s.setPort p { s.port p with present := !(s.port p).present, presenceCount := 0 }) :=
      k.same (view_setPort rfl) hs
    unfold State.takePresence
    dsimp only
    split
    · next active _ => exact k.handOn _ (k.departed _ p .lost (by decide) (by rw [active]; exact nofun) seen)
    · next lost _ => exact k.handOn _ (k.activated _ p (by rw [lost]; exact nofun) seen)
    all_goals exact seen
  | qualify p => exact k.handOn _ (k.requalified s p hs)

/-! ## The data lines -/

theorem seeDataLine (k : KeptByPieces P (Mid := Mid)) (p : PortId) (high : Bool) (hs : P s) :
    P (s.seeDataLine p high) :=
  k.same (s := s) rfl hs

theorem judgeReport (k : KeptByPieces P (Mid := Mid)) (p : PortId) (kind hi lo check : Byte) (hs : P s) :
    P (s.judgeReport p kind hi lo check) := by
  have refused : P (s.raise (srcPort p) flagReportCheck) :=
    k.raise _ _ _ (by rw [flagCount_srcPort]; decide) hs
  unfold State.judgeReport
  dsimp only
  split
  · exact refused
  · next good =>
    have valid : validUnit (hi ++ lo : Half) = true := by
      simp only [not_or, Bool.not_eq_false] at good
      exact good.2
    split_ifs
    · exact k.acceptIdent s p _ valid hs
    · exact k.acceptEmerg s p _ valid hs
    · exact k.acceptEmergClear s p _ valid hs
    · exact refused

theorem takeDataByte (k : KeptByPieces P (Mid := Mid)) (p : PortId) (b : Byte) (hs : P s) : P (s.takeDataByte p b) := by
  unfold State.takeDataByte
  split
  · exact hs
  · next hunting =>
    split
    · exact k.setReceiver s p _ (by simp [hunting]) hs
    · exact hs
  · next assembling =>
    have written (r : Receiver) : P (s.setReceiver p r) := k.setReceiver s p r (by simp [assembling]) hs
    split
    · exact written _
    · split
      · exact k.judgeReport p _ _ _ _ (written _)
      · exact written _

theorem raiseIf (k : KeptByPieces P (Mid := Mid)) (cond : Bool) (src : Source) (n : Nat) (h : n < flagCount src) (hs :
    P s) :
    P (s.raiseIf cond src n) := by
  unfold State.raiseIf
  split
  · exact k.raise s src n h hs
  · exact hs

theorem takeCharacter (k : KeptByPieces P (Mid := Mid)) (p : PortId) (data : Byte) (parity stop : Bool) (hs : P s) :
    P (s.takeCharacter p data parity stop) := by
  have seen : P (s.seeDataLine p stop) := k.seeDataLine p stop hs
  unfold State.takeCharacter
  dsimp only
  split
  · exact seen
  · next receiving =>
    split
    · exact k.takeDataByte p data seen
    · have taking : ((s.seeDataLine p stop).port p).receiver ≠ .idle := by
        intro idle
        simp [Port.receiving, idle] at receiving
      have failed : P ((s.seeDataLine p stop).setPort p
          { (s.seeDataLine p stop).port p with receiver := .hunting, lineWait := !stop }) := by
        refine k.same ?_ (k.setReceiver _ p .hunting taking seen)
        simp only [State.setReceiver, State.view, State.setPort, Vector.map_set]
        rfl
      exact k.raiseIf _ _ _ (by rw [flagCount_srcPort]; decide)
        (k.raiseIf _ _ _ (by rw [flagCount_srcPort]; decide) failed)

theorem takeReport (k : KeptByPieces P (Mid := Mid)) {p : PortId} (kind : Byte) {u : UnitId} {accept : State → State}
    (haccept : validUnit u = true → ∀ s, P s → P (accept s)) (hs : P s) : P (s.takeReport p kind u accept) := by
  unfold State.takeReport
  split
  · next taken =>
    simp only [Bool.and_eq_true, Port.receiving, bne_iff_ne, ne_eq] at taken
    obtain ⟨⟨valid, -⟩, notIdle, -⟩ := taken
    exact haccept valid _ (k.setReceiver _ p .hunting notIdle (k.seeDataLine p true hs))
  · exact KeptByOperations.foldl (fun s b => k.takeCharacter p b _ _) _ hs

/-! ## Samples and frames -/

theorem completeFrame (k : KeptByPieces P (Mid := Mid)) {f : Frame} (cs pres : PortSet) (late : Late) (run :
    s.mixer.mode = .run)
    (frame : s.mixer.frame = some f) (hs : P s) : P (s.completeFrame cs pres late) := by
  have counted : P (s.counted cs pres late) := k.counted s f cs pres late run frame hs
  unfold State.completeFrame
  exact KeptByOperations.foldl (fun s p hs => k.handOn _ (k.requalified s p hs)) _ (k.same (view_due _ _) counted)

theorem samplePeriod (k : KeptByPieces P (Mid := Mid)) (slots : Vector Half 13) (hs : P s) :
    P (s.samplePeriod slots) := by
  unfold State.samplePeriod
  split
  · next f run frame =>
    split
    · next within => exact k.formSample s f slots run frame within hs
    · exact hs
  all_goals exact hs

theorem endFrame (k : KeptByPieces P (Mid := Mid)) (cs pres : PortSet) (late : Late) (hs : P s) :
    P (s.endFrame cs pres late) := by
  unfold State.endFrame
  split
  · next f run frame =>
    split
    · exact k.completeFrame cs pres late run frame hs
    · exact hs
  all_goals exact hs

theorem endDataLineWait (k : KeptByPieces P (Mid := Mid)) (p : PortId) (hs : P s) : P (s.endDataLineWait p) :=
  k.same (view_setPort rfl) (k.seeDataLine p true hs)

/-! ## What the pieces of the events keep, the events keep -/

theorem operated (k : KeptByPieces P (Mid := Mid))
    (made : ∀ s, P s → P s.makeSwitch) (mode : ∀ s : State, s.makeSwitch.mixer = s.mixer) {f : State → State}
    (hf : Operated f) (hs : P s) : P (f s) := by
  cases hf with
  | switchAtFrame =>
    unfold State.switchAtFrame
    split
    · exact made s hs
    · exact hs
  | startFrame =>
    unfold State.startFrame
    split
    · next begun =>
      dsimp only
      split
      · refine k.latched _ ?_ ?_ (made s hs)
        · rw [mode]; exact begun.1
        · rw [mode]; exact begun.2
      · exact k.latched s begun.1 begun.2 hs
    · exact hs
  | samplePeriod slots => exact k.samplePeriod slots hs
  | endFrame cs pres late => exact k.endFrame cs pres late hs
  | takeCharacter p data parity stop => exact k.takeCharacter p data parity stop hs
  | ident p u => exact k.takeReport 1 (fun valid s => k.acceptIdent s p u valid) hs
  | emerg p u => exact k.takeReport 2 (fun valid s => k.acceptEmerg s p u valid) hs
  | emergClear p u => exact k.takeReport 3 (fun valid s => k.acceptEmergClear s p u valid) hs
  | endDataLineWait p => exact k.endDataLineWait p hs

end KeptByPieces
end

end Sys2Proof.Machine
end

section
/-! SUPPORT. What the pieces of events and requests keep, every step keeps. -/

namespace Sys2Proof.Machine

/-! ## What a switch leaves of the backdrop and the mixer -/

@[simp] theorem removeNonMembers_backdrop (s : State) (b : BridgeId) :
    (s.removeNonMembers b).backdrop = s.backdrop := by
  have limited : ((s.updateBridge b fun r => { r with
      queue := r.queue.filter fun e => (s.record b).members.getLsbD e.port
      stack := r.stack.map fun e =>
        if (s.record b).members.getLsbD e.port then e else { e with tag := Tag.empty } }).updateBridge b fun r =>
      { r with
        holder := r.holder.map (limitHolder (s.record b).talkLimit)
        stack := r.stack.map (limitEntry (s.record b).talkLimit) }).backdrop = s.backdrop :=
    (updateBridge_backdrop _ _ _ rfl).trans (updateBridge_backdrop _ _ _ rfl)
  unfold State.removeNonMembers
  dsimp only
  split
  · split
    · split
      · exact limited
      · rw [release_backdrop]; exact limited
    · exact limited
  · exact limited

@[simp] theorem removeDestination_backdrop (s : State) (old : Vector Record 8) (p : PortId) :
    (s.removeDestination old p).backdrop = s.backdrop := by
  unfold State.removeDestination
  split
  · split <;> simp
  · rfl

theorem mixer_of_backdrop {s t : State} (h : t.backdrop = s.backdrop) : t.mixer = s.mixer := by
  have mixer := congrArg State.mixer h
  exact mixer

theorem dir_of_backdrop {s t : State} (h : t.backdrop = s.backdrop) : t.dir = s.dir := by
  have dir := congrArg State.dir h
  exact dir

theorem console_of_backdrop {s t : State} (h : t.backdrop = s.backdrop) : t.console = s.console := by
  have console := congrArg State.console h
  exact console

/-- An operation over one place, taken for every place of a list, leaves a part of the state where it leaves it for
one. -/
theorem foldl_part {α β : Type} {f : State → α → State} (part : State → β) (h : ∀ s a, part (f s a) = part s)
    (l : List α) (s : State) : part (l.foldl f s) = part s :=
  KeptByOperations.foldl (P := fun t => part t = part s) (fun t a ht => (h t a).trans ht) l rfl

@[simp] theorem switchPlans_mixer (s : State) : s.switchPlans.mixer = s.mixer := by
  unfold State.switchPlans
  dsimp only
  rw [mixer_of_backdrop (handOn_backdrop _), foldl_part State.mixer, foldl_part State.mixer, foldl_part State.mixer,
    foldl_part State.mixer]
  · exact fun s b => mixer_of_backdrop (removeNonMembers_backdrop s b)
  · intro s b
    unfold State.adjustBurst
    dsimp only
    split <;> simp
  · intro s p
    rw [mixer_of_backdrop (takeHandedBids_backdrop _), mixer_of_backdrop (removeDestination_backdrop _ _ _)]
  · intro s p
    split
    · exact mixer_of_backdrop (takeBid_backdrop s p)
    · rfl

/-! ## Events, requests and the link -/

/-- What is kept beside a property that is kept itself. -/
theorem KeptByPieces.and {I P : State → Prop} (kI : KeptByPieces I) (k : KeptByPieces P I) :
    KeptByPieces fun s => I s ∧ P s where
  same h hs := ⟨kI.same h hs.1, k.same h hs.2⟩
  raise s src n h₁ hs _ := ⟨kI.raise s src n h₁ hs.1, k.raise s src n h₁ hs.2 hs.1⟩
  handOn s hs _ := ⟨kI.handOn s hs.1, k.handOn s hs.2 hs.1⟩
  turnLevel s b hs _ := ⟨kI.turnLevel s b hs.1, k.turnLevel s b hs.2 hs.1⟩
  changeSegment s b hs _ := ⟨kI.changeSegment s b hs.1, k.changeSegment s b hs.2 hs.1⟩
  burstEnded s b hs _ := ⟨kI.burstEnded s b hs.1, k.burstEnded s b hs.2 hs.1⟩
  setReceiver s p r h₁ hs _ := ⟨kI.setReceiver s p r h₁ hs.1, k.setReceiver s p r h₁ hs.2 hs.1⟩
  cutPlace s b h h₁ h₂ hs _ := ⟨kI.cutPlace s b h h₁ h₂ hs.1, k.cutPlace s b h h₁ h₂ hs.2 hs.1⟩
  timerCounted s b hs _ := ⟨kI.timerCounted s b hs.1, k.timerCounted s b hs.2 hs.1⟩
  keyReached s p hs _ := ⟨kI.keyReached s p hs.1, k.keyReached s p hs.2 hs.1⟩
  activated s p h₁ hs _ := ⟨kI.activated s p h₁ hs.1, k.activated s p h₁ hs.2 hs.1⟩
  departed s p life h₁ h₂ hs _ := ⟨kI.departed s p life h₁ h₂ hs.1, k.departed s p life h₁ h₂ hs.2 hs.1⟩
  requalified s p hs _ := ⟨kI.requalified s p hs.1, k.requalified s p hs.2 hs.1⟩
  acceptIdent s p u h₁ hs _ := ⟨kI.acceptIdent s p u h₁ hs.1, k.acceptIdent s p u h₁ hs.2 hs.1⟩
  acceptEmerg s p u h₁ hs _ := ⟨kI.acceptEmerg s p u h₁ hs.1, k.acceptEmerg s p u h₁ hs.2 hs.1⟩
  acceptEmergClear s p u h₁ hs _ := ⟨kI.acceptEmergClear s p u h₁ hs.1, k.acceptEmergClear s p u h₁ hs.2 hs.1⟩
  switchPlans s hs _ := ⟨kI.switchPlans s hs.1, k.switchPlans s hs.2 hs.1⟩
  latched s h₁ h₂ hs _ := ⟨kI.latched s h₁ h₂ hs.1, k.latched s h₁ h₂ hs.2 hs.1⟩
  formSample s f slots h₁ h₂ h₃ hs _ := ⟨kI.formSample s f slots h₁ h₂ h₃ hs.1,
    k.formSample s f slots h₁ h₂ h₃ hs.2 hs.1⟩
  counted s f cs pres late h₁ h₂ hs _ := ⟨kI.counted s f cs pres late h₁ h₂ hs.1,
    k.counted s f cs pres late h₁ h₂ hs.2 hs.1⟩

/-- What is kept beside a property that is kept itself. -/
theorem KeptByRequests.and {I P : State → Prop} (kI : KeptByRequests I) (k : KeptByRequests P I) :
    KeptByRequests fun s => I s ∧ P s where
  startLost s p h₁ hs _ := ⟨kI.startLost s p h₁ hs.1, k.startLost s p h₁ hs.2 hs.1⟩
  writeSetup s p f new h₁ h₂ hs _ := ⟨kI.writeSetup s p f new h₁ h₂ hs.1, k.writeSetup s p f new h₁ h₂ hs.2 hs.1⟩
  pendSwitch s hs _ := ⟨kI.pendSwitch s hs.1, k.pendSwitch s hs.2 hs.1⟩
  writeRecord s b f new h₁ h₂ h₃ hs _ := ⟨kI.writeRecord s b f new h₁ h₂ h₃ hs.1,
    k.writeRecord s b f new h₁ h₂ h₃ hs.2 hs.1⟩
  copyPlan s hs _ := ⟨kI.copyPlan s hs.1, k.copyPlan s hs.2 hs.1⟩
  clearAllBridges s hs _ := ⟨kI.clearAllBridges s hs.1, k.clearAllBridges s hs.2 hs.1⟩
  haltMixer s hs _ := ⟨kI.haltMixer s hs.1, k.haltMixer s hs.2 hs.1⟩
  runMixer s h₁ hs _ := ⟨kI.runMixer s h₁ hs.1, k.runMixer s h₁ hs.2 hs.1⟩
  setupMixer f s hs _ := ⟨kI.setupMixer f s hs.1, k.setupMixer f s hs.2 hs.1⟩
  monitor mask gains s hs _ := ⟨kI.monitor mask gains s hs.1, k.monitor mask gains s hs.2 hs.1⟩
  moveConsole s carried hs _ := ⟨kI.moveConsole s carried hs.1, k.moveConsole s carried hs.2 hs.1⟩
  entered s u agency role o w d h₁ h₂ h₃ hs _ := ⟨kI.entered s u agency role o w d h₁ h₂ h₃ hs.1,
    k.entered s u agency role o w d h₁ h₂ h₃ hs.2 hs.1⟩
  removed s u w h₁ hs _ := ⟨kI.removed s u w h₁ hs.1, k.removed s u w h₁ hs.2 hs.1⟩
  purged s hs _ := ⟨kI.purged s hs.1, k.purged s hs.2 hs.1⟩
  declared s p h₁ hs _ := ⟨kI.declared s p h₁ hs.1, k.declared s p h₁ hs.2 hs.1⟩
  leaveEmergency s p hs _ := ⟨kI.leaveEmergency s p hs.1, k.leaveEmergency s p hs.2 hs.1⟩
  leaveUnit s u hs _ := ⟨kI.leaveUnit s u hs.1, k.leaveUnit s u hs.2 hs.1⟩
  clearFlags s src flags hs _ := ⟨kI.clearFlags s src flags hs.1, k.clearFlags s src flags hs.2 hs.1⟩
  writeMask s src mask on h₁ h₂ hs _ := ⟨kI.writeMask s src mask on h₁ h₂ hs.1,
    k.writeMask s src mask on h₁ h₂ hs.2 hs.1⟩

section
variable {P Mid : State → Prop} {s t : State}

theorem KeptApart.and {I P : State → Prop} (oI : KeptApart I) (o : KeptApart P) : KeptApart fun s => I s ∧ P s where
  link s l hs := ⟨oI.link s l hs.1, o.link s l hs.2⟩
  reset := ⟨oI.reset, o.reset⟩

theorem KeptByPieces.events (k : KeptByPieces P (Mid := Mid)) (o : KeptApart P) : KeptByEvents P where
  pending s _ hs := k.same (s := s) rfl hs
  due s _ hs := k.same (s := s) rfl hs
  takeDue _ d hs := k.takeDue d hs
  operated form _ hs := k.operated (fun s hs => o.link _ _ (k.switchPlans s hs)) switchPlans_mixer form hs
  assertReset _ _ := k.same (s := State.reset) rfl o.reset
  releaseReset _ _ s hs := by
    unfold State.releaseReset
    split
    · exact o.link _ _ (k.same (s := s) (t := { s with inReset := false }) rfl hs)
    · exact hs

/-- Each request changes nothing, or acts by one of the pieces; a change of an override priority apart. -/
theorem KeptByPieces.actionButOverrides (k : KeptByPieces P (Mid := Mid)) (r : KeptButOverrides P)
    (entered : ∀ (u : UnitId) (agency : BitVec 4) (role : BitVec 3) (o : Option Nat) (w : Fin 4) (d : Directory),
      validUnit u = true → (∀ n, o = some n → n ≤ 3) → s.enterUnit u agency role o = some (w, d) →
      P (State.handOverride s u { s with dir := d }))
    (removed : ∀ (u : UnitId) (w : Fin 4), s.dir.find u = some w →
      P (State.handOverride s u { s with dir := s.dir.put (hashSet u) w none }))
    {act : Action} (h : Requested act) (hs : P s) : P (act s).1 := by
  cases h with
  | describe => exact hs
  | refuse code => exact hs
  | readPort n => rw [readPort_fst]; exact hs
  | readPlan m n => rw [readPlan_fst]; exact hs
  | readBridge n => rw [readBridge_fst]; exact hs
  | readWatch n => rw [readWatch_fst]; exact hs
  | readUnit form x y => rw [readUnit_fst]; exact hs
  | setupPort n f =>
    unfold Machine.setupPort
    split
    · next p new _ read =>
      split
      · exact hs
      · next taken =>
        refine r.writeSetup s p f new read ?_ hs
        rw [not_and_or, not_not, Bool.not_eq_false] at taken
        exact taken
    all_goals exact hs
  | start n =>
    unfold Machine.start
    split
    · next p _ =>
      dsimp only
      split
      · next off =>
        have released : P (s.setPort p { s.port p with manualKey := false }) := k.same (view_setPort rfl) hs
        have off' : ((s.setPort p { s.port p with manualKey := false }).port p).lifecycle = .off := by
          rw [State.port_setPort_same]; exact off
        unfold State.startPort
        dsimp only
        split
        · exact k.handOn _ (k.activated _ p (by rw [off']; exact nofun) released)
        · exact r.startLost _ p off' released
      · exact hs
    · exact hs
  | stop n =>
    unfold Machine.stop
    split
    · next p _ =>
      dsimp only
      split
      · exact hs
      · next notOff => exact k.handOn _ (k.departed s p .off (by decide) notOff hs)
    · exact hs
  | manual n level =>
    unfold Machine.manual
    split
    · split
      · exact k.same (view_setPort rfl) hs
      · exact hs
    all_goals exact hs
  | editPlan n f =>
    unfold Machine.editPlan
    split
    · next b new _ read =>
      split
      · exact hs
      · next nested =>
        split
        · exact hs
        · next free =>
          exact r.writeRecord s b f new read (by simpa using nested) (by simpa using free) hs
    all_goals exact hs
  | copyPlan => exact r.copyPlan s hs
  | switchPlan =>
    unfold Machine.switchPlan
    split
    · exact r.pendSwitch s hs
    · have made : P s.switchPlans := k.switchPlans s hs
      exact made
  | clearBridges =>
    unfold Machine.clearBridges
    rw [answerOk_fst]
    exact r.clearAllBridges s hs
  | enter u agency role override =>
    unfold Machine.enter
    split
    · exact hs
    · next valid =>
      split
      · exact hs
      · next o carried =>
        split
        · exact hs
        · next w d room =>
          refine entered u _ _ o w d (by simpa using valid) ?_ room
          rintro n rfl
          unfold overrideOf at carried
          split_ifs at carried
          · cases carried
          · cases carried; assumption
  | remove u =>
    unfold Machine.remove
    split
    · exact hs
    · split
      · exact hs
      · next w found =>
        split
        · exact hs
        · rw [answerOk_fst]; exact removed u w found
  | purge => exact r.purged s hs
  | setWatch n f =>
    unfold Machine.setWatch
    split
    · exact k.same (s := s) rfl hs
    all_goals exact hs
  | declare n =>
    unfold Machine.declare
    split
    · exact hs
    · split
      · exact hs
      · next quiet => rw [answerOk_fst]; exact r.declared s _ quiet hs
  | clearEmergency n =>
    unfold Machine.clearEmergency
    split
    · exact hs
    · split
      · exact hs
      · rw [answerOk_fst]; exact r.leaveEmergency s _ hs
      · rw [answerOk_fst]; exact r.leaveUnit s _ hs
  | talk bridges =>
    unfold Machine.talk
    split
    · exact hs
    · rw [answerOk_fst]; exact r.moveConsole s bridges hs
  | releaseConsole =>
    unfold Machine.releaseConsole
    split
    · exact hs
    · rw [answerOk_fst]; exact r.moveConsole s 0 hs
  | monitor mask gains => exact r.monitor mask gains s hs
  | setupMixer f => exact r.setupMixer f s hs
  | halt =>
    unfold Machine.halt
    split
    · rw [answerOk_fst]; exact r.haltMixer _ (r.clearAllBridges s hs)
    · rw [answerOk_fst]; exact r.clearAllBridges s hs
  | run =>
    unfold Machine.run
    split
    · exact hs
    · next halted => exact r.runMixer s halted hs
  | clearFault source flags =>
    unfold Machine.clearFault
    split
    · exact hs
    · split
      · exact hs
      · exact r.clearFlags s _ _ hs
  | setMask source mask switch =>
    unfold Machine.setMask
    split
    · exact hs
    · split
      · exact hs
      · next within =>
        split
        · exact hs
        · split
          · exact hs
          · next notOn =>
            refine r.writeMask s _ mask _ (by simpa using within) (fun device => ?_) hs
            rw [not_and] at notOn
            exact Bool.eq_false_of_not_eq_true (notOn device)

/-- Each request changes nothing, or acts by one of the pieces. -/
theorem KeptByPieces.action (k : KeptByPieces P (Mid := Mid)) (r : KeptByRequests P) {act : Action} (h : Requested act)
    (hs : P s) : P (act s).1 :=
  k.actionButOverrides r.toKeptButOverrides
    (fun u agency role o w d valid range room => r.entered s u agency role o w d valid range room hs)
    (fun u w found => r.removed s u w found hs) h hs

theorem KeptByPieces.link (k : KeptByPieces P (Mid := Mid)) (r : KeptByRequests P) (o : KeptApart P) :
    KeptByLink P where
  link := o.link
  linkFrame s hs := k.raise s _ _ (by decide) hs
  sendNotice s src hs := o.link _ _ (k.same (s := s) (t := { s with notices := { s.notices with
    marks := s.notices.marks.set src false, started := s.notices.started && src != srcDevice } }) rfl hs)
  action requested _ hs := k.action r requested hs

/-- What the pieces of events and requests keep, every step keeps. -/
theorem KeptByPieces.step (k : KeptByPieces P (Mid := Mid)) (r : KeptByRequests P) (o : KeptApart P)
    (h : step s = .next t) (hs : P s) : P t :=
  (k.events o).step (k.link r o) h hs

end

/-! ## Changes that touch an effective priority, in their parts -/

/-- The parts of the changes that may touch an effective priority keep a property which does not tie places to
priorities. -/
structure KeptByPriorities (P : State → Prop) (Given : State → Prop := fun _ => True) : Prop where
  same : ∀ {s t : State}, t.view = s.view → P s → P t
  handOn : ∀ s : State, P s → (given : Given s := by trivial) → P s.handOn
  takePriority : ∀ (s : State) (b : BridgeId) (p : PortId), P s → (given : Given s := by trivial) →
    P (s.takePriority b p)
  setup : ∀ (s : State) (p : PortId) (f : SetupFields) (new : Setup), readSetup f = some new →
    ((s.port p).lifecycle = .off ∨ sameButLive (s.port p).setup new = true) → P s → (given : Given s := by trivial) →
    P (s.setPort p { s.port p with setup := new })
  emergency : ∀ (s : State) (p : PortId) (e : Emergency), P s → (given : Given s := by trivial) →
    P (s.updatePort p fun q => { q with emergency := e })
  takeIdentity : ∀ (s : State) (p : PortId) (u : UnitId), P s → (given : Given s := by trivial) →
    P (s.takeIdentity p u)
  burstStarted : ∀ (s : State) (b : BridgeId), P s → (given : Given s := by trivial) → P (s.burstStarted b)
  dirReport : ∀ (s : State) (p : PortId) (u : UnitId), validUnit u = true → P s → (given : Given s := by trivial) →
    P (s.dirReport p u)
  flagUnit : ∀ (s : State) (u : UnitId) (on : Bool), P s → (given : Given s := by trivial) → P (s.flagUnit u on)
  written : ∀ (s : State) (u : UnitId) (agency : BitVec 4) (role : BitVec 3) (o : Option Nat) (w : Fin 4)
    (d : Directory), validUnit u = true → (∀ n, o = some n → n ≤ 3) → s.enterUnit u agency role o = some (w, d) → P s →
    (given : Given s := by trivial) → P { s with dir := d }
  freed : ∀ (s : State) (u : UnitId) (w : Fin 4), s.dir.find u = some w → P s → (given : Given s := by trivial) →
    P { s with dir := s.dir.put (hashSet u) w none }

/-- What is kept beside a property that is kept itself. -/
theorem KeptByPriorities.and {I P : State → Prop} (kI : KeptByPriorities I) (k : KeptByPriorities P I) :
    KeptByPriorities fun s => I s ∧ P s where
  same h hs := ⟨kI.same h hs.1, k.same h hs.2⟩
  handOn s hs _ := ⟨kI.handOn s hs.1, k.handOn s hs.2 hs.1⟩
  takePriority s b p hs _ := ⟨kI.takePriority s b p hs.1, k.takePriority s b p hs.2 hs.1⟩
  setup s p f new h₁ h₂ hs _ := ⟨kI.setup s p f new h₁ h₂ hs.1, k.setup s p f new h₁ h₂ hs.2 hs.1⟩
  emergency s p e hs _ := ⟨kI.emergency s p e hs.1, k.emergency s p e hs.2 hs.1⟩
  takeIdentity s p u hs _ := ⟨kI.takeIdentity s p u hs.1, k.takeIdentity s p u hs.2 hs.1⟩
  burstStarted s b hs _ := ⟨kI.burstStarted s b hs.1, k.burstStarted s b hs.2 hs.1⟩
  dirReport s p u h₁ hs _ := ⟨kI.dirReport s p u h₁ hs.1, k.dirReport s p u h₁ hs.2 hs.1⟩
  flagUnit s u on hs _ := ⟨kI.flagUnit s u on hs.1, k.flagUnit s u on hs.2 hs.1⟩
  written s u agency role o w d h₁ h₂ h₃ hs _ := ⟨kI.written s u agency role o w d h₁ h₂ h₃ hs.1,
    k.written s u agency role o w d h₁ h₂ h₃ hs.2 hs.1⟩
  freed s u w h₁ hs _ := ⟨kI.freed s u w h₁ hs.1, k.freed s u w h₁ hs.2 hs.1⟩

namespace KeptByPriorities
variable {P : State → Prop} {s : State}

theorem handPriority (k : KeptByPriorities P) (p : PortId) (old : Nat) (hs : P s) : P (s.handPriority p old) := by
  unfold State.handPriority
  split
  · exact hs
  · split
    · exact k.handOn _ (k.takePriority s _ p hs)
    · exact hs

theorem writeSetup (k : KeptByPriorities P) (p : PortId) {f : SetupFields} {new : Setup} (read : readSetup f = some new)
    (h : (s.port p).lifecycle = .off ∨ sameButLive (s.port p).setup new = true) (hs : P s) : P (s.writeSetup p new) :=
  k.handPriority p _ (k.setup s p f new read h hs)

theorem startBurst (k : KeptByPriorities P) (b : BridgeId) (hs : P s) : P (s.startBurst b) := by
  rw [startBurst_eq]; exact k.handOn _ (k.burstStarted s b hs)

theorem enterEmergency (k : KeptByPriorities P) (p : PortId) (source : Option UnitId) (hs : P s) :
    P (s.enterEmergency p source) := by
  unfold State.enterEmergency
  dsimp only
  split
  · exact KeptByOperations.foldl (fun s b => k.startBurst b) _ (k.emergency s p _ hs)
  · exact k.emergency s p _ hs

theorem takeEmergency (k : KeptByPriorities P) (p : PortId) (u : UnitId) (hs : P s) : P (s.takeEmergency p u) := by
  unfold State.takeEmergency
  split
  · exact k.enterEmergency p _ hs
  · exact k.emergency s p _ hs

theorem leaveEmergency (k : KeptByPriorities P) (p : PortId) (hs : P s) : P (s.leaveEmergency p) :=
  k.handPriority p _ (k.emergency s p _ hs)

theorem leaveAllSourced (k : KeptByPriorities P) (u : UnitId) (hs : P s) : P (s.leaveAllSourced u) := by
  refine KeptByOperations.foldl (fun s p hs => ?_) _ hs
  split
  · exact k.leaveEmergency p hs
  · exact hs

theorem acceptIdent (k : KeptByPriorities P) (p : PortId) (u : UnitId) (valid : validUnit u = true) (hs : P s) :
    P (s.acceptIdent p u) := by
  have identified : P ((s.dirReport p u).takeIdentity p u) := k.takeIdentity _ p u (k.dirReport s p u valid hs)
  unfold State.acceptIdent
  dsimp only
  refine k.handPriority p _ ?_
  split
  · exact k.takeEmergency p u identified
  · exact identified

theorem acceptEmerg (k : KeptByPriorities P) (p : PortId) (u : UnitId) (valid : validUnit u = true) (hs : P s) :
    P (s.acceptEmerg p u) :=
  k.handPriority p _ (k.takeIdentity _ p u (k.takeEmergency p u
    (k.flagUnit _ u true (k.dirReport s p u valid hs))))

theorem acceptEmergClear (k : KeptByPriorities P) (p : PortId) (u : UnitId) (valid : validUnit u = true) (hs : P s) :
    P (s.acceptEmergClear p u) :=
  k.leaveAllSourced u (k.flagUnit _ u false (k.dirReport s p u valid hs))

theorem handOverride (k : KeptByPriorities P) (before : State) (u : UnitId) (hs : P s) :
    P (before.handOverride u s) := by
  unfold State.handOverride
  split
  · exact hs
  · refine KeptByOperations.foldl (fun s p hs => ?_) _ hs
    split
    · exact k.handPriority p _ hs
    · exact hs

end KeptByPriorities

end Sys2Proof.Machine
end

section
/-! SUPPORT. What lies outside arbitration and keying: setups, tone, rings, plans, directory, mixer and console. A
property of these alone is kept by every step where the pieces that write them keep it. -/

namespace Sys2Proof.Machine

/-- The parts that arbitration and keying leave alone: setups, the rest of each bridge, plans, directory, mixer,
console, link. -/
def State.rest (s : State) : Vector Setup 12 × Vector Bridge 8 × Plans × Directory × Mixer × Console × Link :=
  (s.ports.map (·.setup), s.bridges.map Bridge.backdrop, s.plans, s.dir, s.mixer, s.console, s.link)

section
variable {s t : State}

theorem rest_backdrop (s : State) : s.backdrop.rest = s.rest := by
  have setups : (s.ports.map Port.backdrop).map (·.setup) = s.ports.map (·.setup) := by
    rw [Vector.map_map]; rfl
  have bridges : (s.bridges.map Bridge.backdrop).map Bridge.backdrop = s.bridges.map Bridge.backdrop := by
    rw [Vector.map_map]; rfl
  simp only [State.rest, State.backdrop, setups, bridges]

theorem rest_view (s : State) : s.view.rest = s.rest := by
  have setups : (s.ports.map Port.view).map (·.setup) = s.ports.map (·.setup) := by
    rw [Vector.map_map]; rfl
  simp only [State.rest, State.view, setups]

theorem rest_of_backdrop (h : t.backdrop = s.backdrop) : t.rest = s.rest := by
  rw [← rest_backdrop t, h, rest_backdrop]

theorem rest_of_view (h : t.view = s.view) : t.rest = s.rest := by
  rw [← rest_view t, h, rest_view]

theorem rest_bridge (h : t.rest = s.rest) (b : BridgeId) : (t.bridge b).backdrop = (s.bridge b).backdrop := by
  have bridges := congrArg (fun r => r.2.1) h
  simpa [State.rest, State.bridge] using congrArg (fun v : Vector Bridge 8 => v[b]) bridges

theorem rest_plans (h : t.rest = s.rest) : t.plans = s.plans := congrArg (fun r => r.2.2.1) h

theorem rest_dir (h : t.rest = s.rest) : t.dir = s.dir := congrArg (fun r => r.2.2.2.1) h

theorem rest_mixer (h : t.rest = s.rest) : t.mixer = s.mixer := congrArg (fun r => r.2.2.2.2.1) h

theorem rest_console (h : t.rest = s.rest) : t.console = s.console := congrArg (fun r => r.2.2.2.2.2.1) h

theorem rest_link (h : t.rest = s.rest) : t.link = s.link := congrArg (fun r => r.2.2.2.2.2.2) h

theorem rest_ring (h : t.rest = s.rest) (b : BridgeId) : (t.bridge b).ring = (s.bridge b).ring := by
  have same := congrArg Bridge.ring (rest_bridge h b)
  exact same

theorem rest_writePos (h : t.rest = s.rest) (b : BridgeId) : (t.bridge b).writePos = (s.bridge b).writePos := by
  have same := congrArg Bridge.writePos (rest_bridge h b)
  exact same

theorem rest_burst (h : t.rest = s.rest) (b : BridgeId) : (t.bridge b).burst = (s.bridge b).burst := by
  have same := congrArg Bridge.burst (rest_bridge h b)
  exact same

theorem rest_phase (h : t.rest = s.rest) (b : BridgeId) : (t.bridge b).phase = (s.bridge b).phase := by
  have same := congrArg Bridge.phase (rest_bridge h b)
  exact same

/-- A port written with its setup kept. -/
theorem rest_setPort {p : PortId} {q : Port} (h : q.setup = (s.port p).setup) : (s.setPort p q).rest = s.rest := by
  simp only [State.rest, State.setPort]
  rw [map_set_eq _ _ _ _ _ h]

/-- A bridge written in its places alone. -/
theorem rest_setBridge {b : BridgeId} {r : Bridge} (h : r.backdrop = (s.bridge b).backdrop) :
    (s.setBridge b r).rest = s.rest := rest_of_backdrop (setBridge_backdrop s b r h)

@[simp] theorem rest_reportChange (s : State) (src : Source) : (s.reportChange src).rest = s.rest :=
  rest_of_backdrop (reportChange_backdrop s src)

@[simp] theorem rest_reportIf (s : State) (changed : Bool) (src : Source) : (s.reportIf changed src).rest = s.rest :=
  rest_of_backdrop (reportIf_backdrop s changed src)

theorem rest_updatePort {p : PortId} {f : Port → Port} (h : (f (s.port p)).setup = (s.port p).setup) :
    (s.updatePort p f).rest = s.rest := by
  have written : (s.setPort p (f (s.port p))).rest = s.rest := rest_setPort h
  have parts : (s.updatePort p f).rest = (s.setPort p (f (s.port p))).rest := by
    simp only [State.rest, State.updatePort_ports, State.updatePort_bridges, State.updatePort_plans,
      State.updatePort_dir, State.updatePort_mixer, State.updatePort_console, State.updatePort_link, State.setPort]
  rw [parts, written]

end

/-! ## The pieces that write the rest -/

/-- The pieces that write what arbitration and keying leave alone keep a property of it. -/
structure KeptByRest (P : State → Prop) : Prop where
  same : ∀ {s t : State}, t.rest = s.rest → P s → P t
  turnLevel : ∀ (s : State) (b : BridgeId), P s → P (s.turnLevel b)
  changeSegment : ∀ (s : State) (b : BridgeId), P s → P (s.changeSegment b)
  burstStarted : ∀ (s : State) (b : BridgeId), P s → P (s.burstStarted b)
  burstEnded : ∀ (s : State) (b : BridgeId), P s → P (s.burstEnded b)
  setup : ∀ (s : State) (p : PortId) (f : SetupFields) (new : Setup), readSetup f = some new → P s →
    P (s.setPort p { s.port p with setup := new })
  dirReport : ∀ (s : State) (p : PortId) (u : UnitId), validUnit u = true → P s → P (s.dirReport p u)
  flagUnit : ∀ (s : State) (u : UnitId) (on : Bool), P s → P (s.flagUnit u on)
  written : ∀ (s : State) (u : UnitId) (agency : BitVec 4) (role : BitVec 3) (o : Option Nat) (w : Fin 4)
    (d : Directory), validUnit u = true → (∀ n, o = some n → n ≤ 3) → s.enterUnit u agency role o = some (w, d) →
    P s → P { s with dir := d }
  freed : ∀ (s : State) (u : UnitId) (w : Fin 4), s.dir.find u = some w → P s →
    P { s with dir := s.dir.put (hashSet u) w none }
  purged : ∀ s : State, P s → P { s with dir := s.dir.purge }
  switched : ∀ s t : State, t.rest = ({ s with plans := { s.plans with
      active := s.plans.active + 1, switchPending := false } } : State).rest → P s →
    P (allBridges.foldl State.adjustBurst t)
  pendSwitch : ∀ s : State, P s → P { s with plans := { s.plans with switchPending := true } }
  writeRecord : ∀ (s : State) (b : BridgeId) (f : RecordFields) (new : Record), readRecord f = some new → P s →
    P (s.writeRecord b new)
  copyPlan : ∀ s : State, P s →
    P { s with plans := { s.plans with records := s.plans.records.set s.editPlan s.activeRecords } }
  emptyBridge : ∀ (s : State) (b : BridgeId), P s → P (s.emptyBridge b)
  talk : ∀ (s : State) (carried : BridgeSet), P s → P { s with console := { s.console with talk := carried } }
  monitor : ∀ (mask : BridgeSet) (gains : Vector Half 8) (s : State), P s → P (monitor mask gains s).1
  haltMixer : ∀ s : State, P s → P s.haltMixer
  runMixer : ∀ s : State, s.mixer.mode = .halted → P s → P { s with mixer := { s.mixer with mode := .run } }
  setupMixer : ∀ (f : MixerFields) (s : State), P s → P (setupMixer f s).1
  latched : ∀ s : State, s.mixer.mode = .run → s.mixer.frame = none → P s → P s.latched
  formSample : ∀ (s : State) (f : Frame) (slots : Vector Half 13), s.mixer.mode = .run → s.mixer.frame = some f →
    f.place < frameLength s.mixer.rate → P s → P (s.formSample f slots)
  counted : ∀ (s : State) (f : Frame) (cs pres : PortSet) (late : Late), s.mixer.mode = .run →
    s.mixer.frame = some f → P s → P (s.counted cs pres late)

namespace KeptByRest
variable {P : State → Prop} {s t : State}

theorem backdrop (k : KeptByRest P) (h : t.backdrop = s.backdrop) (hs : P s) : P t :=
  k.same (rest_of_backdrop h) hs

theorem updatePort (k : KeptByRest P) {p : PortId} {f : Port → Port} (h : (f (s.port p)).setup = (s.port p).setup)
    (hs : P s) : P (s.updatePort p f) := k.same (rest_updatePort h) hs

theorem priorities (k : KeptByRest P) : KeptByPriorities P where
  same h hs := k.same (rest_of_view h) hs
  handOn s hs _ := k.backdrop (handOn_backdrop s) hs
  takePriority s b p hs _ := k.backdrop (takePriority_backdrop s b p) hs
  setup s p f new read _ hs _ := k.setup s p f new read hs
  emergency _ _ _ hs _ := k.updatePort rfl hs
  takeIdentity s p u hs _ := by
    refine k.updatePort ?_ hs
    split <;> rfl
  burstStarted s b hs _ := k.burstStarted s b hs
  dirReport s p u valid hs _ := k.dirReport s p u valid hs
  flagUnit s u on hs _ := k.flagUnit s u on hs
  written s u agency role o w d valid range room hs _ := k.written s u agency role o w d valid range room hs
  freed s u w found hs _ := k.freed s u w found hs

theorem departed (k : KeptByRest P) (p : PortId) (life : Lifecycle) (hs : P s) : P (s.departed p life) := by
  have left : P (s.updatePort p fun q => { q with lifecycle := life }) := k.updatePort rfl hs
  unfold State.departed
  dsimp only
  refine k.updatePort rfl ?_
  split
  · exact k.backdrop (endEngagement_backdrop _ p) left
  · exact left

theorem cutPlace (k : KeptByRest P) (b : BridgeId) (who : Talker) (hs : P s) : P (s.cutPlace b who) := by
  refine k.backdrop (release_backdrop _ b) ?_
  unfold State.barHolder
  split
  · split
    · exact k.updatePort rfl hs
    · exact hs
  · exact hs

theorem switchPlans (k : KeptByRest P) (hs : P s) : P s.switchPlans := by
  unfold State.switchPlans
  dsimp only
  refine k.backdrop (handOn_backdrop _) (KeptByOperations.foldl (fun t p ht => ?_) _
    (KeptByOperations.foldl (fun t p ht => ?_) _ (k.switched s _ ?_ hs)))
  · split
    · exact k.backdrop (takeBid_backdrop t p) ht
    · exact ht
  · exact k.backdrop ((takeHandedBids_backdrop _).trans (removeDestination_backdrop t _ p)) ht
  · exact rest_of_backdrop (foldl_backdrop _ removeNonMembers_backdrop _ _)

theorem pieces (k : KeptByRest P) : KeptByPieces P where
  same h hs := k.same (rest_of_view h) hs
  raise s src n _ hs _ := k.backdrop (raise_backdrop s src n) hs
  handOn s hs _ := k.backdrop (handOn_backdrop s) hs
  turnLevel s b hs _ := k.turnLevel s b hs
  changeSegment s b hs _ := k.changeSegment s b hs
  burstEnded s b hs _ := k.burstEnded s b hs
  setReceiver _ _ _ _ hs _ := k.same (rest_setPort rfl) hs
  cutPlace _ b h _ _ hs _ := k.backdrop (raise_backdrop _ _ _) (k.cutPlace b h.who hs)
  timerCounted _ _ hs _ := k.same (rest_setBridge rfl) hs
  keyReached s p hs _ := k.backdrop ((handOn_backdrop _).symm.trans (keyTick_backdrop s p)) hs
  activated _ _ _ hs _ := k.updatePort rfl hs
  departed _ p life _ _ hs _ := k.departed p life hs
  requalified s p hs _ := by
    refine k.backdrop (judgeEngagement_backdrop _ _ p) (k.same (rest_setPort ?_) hs)
    unfold Port.requalified
    dsimp only
    split_ifs <;> rfl
  acceptIdent _ p u valid hs _ := k.priorities.acceptIdent p u valid hs
  acceptEmerg _ p u valid hs _ := k.priorities.acceptEmerg p u valid hs
  acceptEmergClear _ p u valid hs _ := k.priorities.acceptEmergClear p u valid hs
  switchPlans _ hs _ := k.switchPlans hs
  latched s run none_yet hs _ := k.latched s run none_yet hs
  formSample s f slots run frame within hs _ := k.formSample s f slots run frame within hs
  counted s f cs pres late run frame hs _ := k.counted s f cs pres late run frame hs

theorem moveConsole (k : KeptByRest P) (carried : BridgeSet) (hs : P s) : P (s.moveConsole carried) := by
  unfold State.moveConsole State.writeTalk
  dsimp only
  refine k.same (rest_reportIf _ _ _) (k.talk _ carried (KeptByOperations.foldl (fun t b ht => ?_) _
    (KeptByOperations.foldl (fun t b ht => ?_) _ hs)))
  · split
    · exact k.backdrop ((handOn_backdrop _).trans (bid_backdrop t b .con)) ht
    · exact ht
  · split
    · exact k.backdrop ((handOn_backdrop _).trans (consoleLeave_backdrop t b)) ht
    · exact ht

theorem clearAllBridges (k : KeptByRest P) (hs : P s) : P s.clearAllBridges := by
  have silent : P (({ s with console := { s.console with talk := 0 } } : State).reportIf (s.console.talk != 0)
      srcConsole) := k.same (rest_reportIf _ _ _) (k.talk s 0 hs)
  have barred (t : State) (p : PortId) (ht : P t) : P (t.barEngaged p) := by
    unfold State.barEngaged
    split
    · exact k.updatePort rfl ht
    · exact ht
  have cleared (t : State) (p : PortId) (ht : P t) : P (t.clearKey p) := k.backdrop (clearKey_backdrop t p) ht
  exact KeptByOperations.foldl cleared _ (KeptByOperations.foldl barred _
    (KeptByOperations.foldl k.emptyBridge _ silent))

theorem requests (k : KeptByRest P) : KeptByRequests P where
  startLost _ _ _ hs _ := k.updatePort rfl hs
  writeSetup _ p f new read h hs _ := k.priorities.writeSetup p read h hs
  pendSwitch s hs _ := k.pendSwitch s hs
  writeRecord s b f new read _ _ hs _ := k.writeRecord s b f new read hs
  copyPlan s hs _ := k.copyPlan s hs
  clearAllBridges _ hs _ := k.clearAllBridges hs
  haltMixer s hs _ := k.haltMixer s hs
  runMixer s halted hs _ := k.runMixer s halted hs
  setupMixer f s hs _ := k.setupMixer f s hs
  monitor mask gains s hs _ := k.monitor mask gains s hs
  moveConsole _ carried hs _ := k.moveConsole carried hs
  entered s u agency role o w d valid range room hs _ :=
    k.priorities.handOverride s u (k.written s u agency role o w d valid range room hs)
  removed s u w found hs _ := k.priorities.handOverride s u (k.freed s u w found hs)
  purged s hs _ := k.purged s hs
  declared _ p _ hs _ := k.priorities.handPriority p _ (k.priorities.enterEmergency p none hs)
  leaveEmergency _ p hs _ := k.priorities.leaveEmergency p hs
  leaveUnit s u hs _ := k.priorities.leaveAllSourced u (k.flagUnit s u false hs)
  clearFlags s _ _ hs _ := k.same (s := s) rfl hs
  writeMask s src mask on _ _ hs _ := by
    rw [writeMask_eq]
    exact k.same (s := s) rfl hs

/-- What the pieces that write the rest keep, every step keeps. -/
theorem step (k : KeptByRest P) (o : KeptApart P) (h : step s = .next t) (hs : P s) : P t :=
  k.pieces.step k.requests o h hs

end KeptByRest

end Sys2Proof.Machine
end

section
/-! SUPPORT. The delay rings and their write positions (R133, R136): what each piece that writes a bridge does to
  them. -/

namespace Sys2Proof.Machine

/-! ## Reading any port or bridge after a write -/

theorem port_setPort (s : State) (p r : PortId) (q : Port) :
    (s.setPort p q).port r = if r = p then q else s.port r := by
  split
  · next h => rw [h, State.port_setPort_same]
  · next h => exact State.port_setPort_ne s q (Ne.symm h)

theorem bridge_setBridge (s : State) (b c : BridgeId) (r : Bridge) :
    (s.setBridge b r).bridge c = if c = b then r else s.bridge c := by
  split
  · next h => rw [h, State.bridge_setBridge_same]
  · next h => exact State.bridge_setBridge_ne s r (Ne.symm h)

theorem port_updatePort (s : State) (p r : PortId) (f : Port → Port) :
    (s.updatePort p f).port r = if r = p then f (s.port p) else s.port r := by
  split
  · next h => rw [h, State.port_updatePort_same]
  · next h => exact State.port_updatePort_ne s f (Ne.symm h)

theorem bridge_updateBridge (s : State) (b c : BridgeId) (f : Bridge → Bridge) :
    (s.updateBridge b f).bridge c = if c = b then f (s.bridge b) else s.bridge c := by
  split
  · next h => rw [h, State.bridge_updateBridge_same]
  · next h => exact State.bridge_updateBridge_ne s f (Ne.symm h)

theorem bridge_of_bridges {s t : State} (h : t.bridges = s.bridges) (b : BridgeId) : t.bridge b = s.bridge b := by
  rw [State.bridge, h]; rfl

theorem port_of_ports {s t : State} (h : t.ports = s.ports) (p : PortId) : t.port p = s.port p := by
  rw [State.port, h]; rfl

@[simp] theorem bridge_reportChange (s : State) (src : Source) (b : BridgeId) :
    (s.reportChange src).bridge b = s.bridge b := bridge_of_bridges (State.reportChange_bridges s src) b

@[simp] theorem bridge_reportIf (s : State) (changed : Bool) (src : Source) (b : BridgeId) :
    (s.reportIf changed src).bridge b = s.bridge b := bridge_of_bridges (State.reportIf_bridges s changed src) b

/-! ## One sample and one completion, bridge by bridge -/

@[simp] theorem raiseClips_bridges (s : State) (ports : Vector Int 12) (con : Int) (talk : Vector Int 8)
    (out : Vector Int 12) (monitor : Int) : (s.raiseClips ports con talk out monitor).bridges = s.bridges := by
  simp [State.raiseClips, foldl_part State.bridges]

/-- A sample writes each bridge's talk signal at its place and counts for its tone (R136, R141). -/
theorem formSample_bridge (s : State) (f : Frame) (slots : Vector Half 13) (b : BridgeId) :
    (s.formSample f slots).bridge b = Bridge.countSample { s.bridge b with
      ring := DelayRing.write (s.bridge b).ring (ringAddress (s.bridge b).writePos.val f.place)
        (saturate (s.rawTalk f.settings slots b)) } := by
  simp [State.formSample, State.bridge, State.writeRings]

@[simp] theorem countSample_ring (r : Bridge) : r.countSample.ring = r.ring := by
  unfold Bridge.countSample; split <;> rfl

@[simp] theorem countSample_writePos (r : Bridge) : r.countSample.writePos = r.writePos := by
  unfold Bridge.countSample; split <;> rfl

/-- What a completion counts in each bridge (R127). -/
theorem counted_bridge (s : State) (cs pres : PortSet) (late : Late) (b : BridgeId) :
    (s.counted cs pres late).bridge b = (s.bridge b).completed (late.timers.getLsbD b) := by
  simp [State.counted, State.bridge]

@[simp] theorem completed_ring (late : Bool) (r : Bridge) : (r.completed late).ring = r.ring := by
  unfold Bridge.completed Bridge.timerCounted; dsimp only; split_ifs <;> rfl

@[simp] theorem completed_writePos (late : Bool) (r : Bridge) : (r.completed late).writePos = r.writePos + 1 := by
  unfold Bridge.completed Bridge.timerCounted; dsimp only; split_ifs <;> rfl

/-- CLEAR_BRIDGES leaves the write position of an emptied bridge alone (R94). -/
theorem emptyBridge_bridge (s : State) (b c : BridgeId) : (s.emptyBridge b).bridge c = if c = b then { s.bridge b with
    holder := none, stack := [], queue := [], burst := 0, phase := .start, ring := [] } else s.bridge c := by
  unfold State.emptyBridge
  dsimp only
  rw [bridge_reportIf, bridge_updateBridge]

/-! ## Talk signals lie in the sample range -/

theorem inSampleRange_saturate (v : Int) : inSampleRange (saturate v) = true := by
  unfold saturate
  split_ifs
  · decide
  · decide
  · have within : (-32768 : Int) ≤ v ∧ v ≤ 32767 := by omega
    rw [inSampleRange, Bool.and_eq_true, decide_eq_true_iff, decide_eq_true_iff]
    exact within

theorem frameLength_le (rate : SampleRate) : frameLength rate ≤ 64 := by cases rate <;> decide

/-! ## What no piece but a sample and an emptied bridge does to a ring -/

/-- Rings and write positions of two states are the same. -/
def State.sameRings (s t : State) : Prop :=
  ∀ b : BridgeId, (t.bridge b).ring = (s.bridge b).ring ∧ (t.bridge b).writePos = (s.bridge b).writePos

theorem sameRings_setBridge {s : State} {b : BridgeId} {r : Bridge} (ring : r.ring = (s.bridge b).ring)
    (writePos : r.writePos = (s.bridge b).writePos) : s.sameRings (s.setBridge b r) := by
  intro c
  rw [bridge_setBridge]
  split
  · next h => subst h; exact ⟨ring, writePos⟩
  · exact ⟨rfl, rfl⟩

theorem sameRings_of_rest {s t : State} (h : t.rest = s.rest) : s.sameRings t :=
  fun b => ⟨rest_ring h b, rest_writePos h b⟩

theorem State.sameRings.trans {s t u : State} (h : s.sameRings t) (h' : t.sameRings u) : s.sameRings u :=
  fun b => ⟨(h' b).1.trans (h b).1, (h' b).2.trans (h b).2⟩

theorem State.sameRings.reportChange {s t : State} (h : s.sameRings t) (src : Source) :
    s.sameRings (t.reportChange src) := h.trans (sameRings_of_rest (rest_reportChange t src))

theorem sameRings_turnLevel (s : State) (b : BridgeId) : s.sameRings (s.turnLevel b) := by
  unfold State.turnLevel
  dsimp only
  split
  · exact fun _ => ⟨rfl, rfl⟩
  · exact sameRings_setBridge rfl rfl

theorem sameRings_changeSegment (s : State) (b : BridgeId) : s.sameRings (s.changeSegment b) := by
  unfold State.changeSegment
  dsimp only
  split
  · exact sameRings_setBridge rfl rfl
  · exact fun _ => ⟨rfl, rfl⟩

theorem sameRings_burstStarted (s : State) (b : BridgeId) : s.sameRings (s.burstStarted b) := by
  unfold State.burstStarted
  dsimp only
  split
  · exact State.sameRings.reportChange (by exact sameRings_setBridge rfl rfl) _
  · exact sameRings_setBridge rfl rfl

theorem sameRings_burstEnded (s : State) (b : BridgeId) : s.sameRings (s.burstEnded b) :=
  State.sameRings.reportChange (by exact sameRings_setBridge rfl rfl) _

theorem sameRings_adjustBurst (s : State) (b : BridgeId) : s.sameRings (s.adjustBurst b) := by
  unfold State.adjustBurst
  dsimp only
  split
  · exact fun _ => ⟨rfl, rfl⟩
  · exact State.sameRings.reportChange (by exact sameRings_setBridge rfl rfl) _

theorem sameRings_of_bridges {s t : State} (h : t.bridges = s.bridges) : s.sameRings t :=
  fun b => by rw [bridge_of_bridges h]; exact ⟨rfl, rfl⟩

theorem dirReport_bridges (s : State) (p : PortId) (u : UnitId) : (s.dirReport p u).bridges = s.bridges := by
  unfold State.dirReport
  split
  · rfl
  · split <;> simp

theorem monitor_bridges (mask : BridgeSet) (gains : Vector Half 8) (s : State) :
    (monitor mask gains s).1.bridges = s.bridges := by
  unfold monitor
  split <;> rfl

theorem setupMixer_bridges (f : MixerFields) (s : State) : (setupMixer f s).1.bridges = s.bridges := by
  unfold setupMixer
  split
  · split <;> rfl
  · rfl

/-- A property of rings and write positions is kept by every step, if a sample, a completion and an emptied bridge keep
it. -/
theorem keptByRest_of_sameRings {P : State → Prop} (same : ∀ {s t : State}, s.sameRings t → P s → P t)
    (emptyBridge : ∀ (s : State) (b : BridgeId), P s → P (s.emptyBridge b))
    (formSample : ∀ (s : State) (f : Frame) (slots : Vector Half 13), f.place < frameLength s.mixer.rate → P s →
      P (s.formSample f slots))
    (counted : ∀ (s : State) (cs pres : PortSet) (late : Late), P s → P (s.counted cs pres late)) :
    KeptByRest P where
  same h := same (sameRings_of_rest h)
  turnLevel s b := same (sameRings_turnLevel s b)
  changeSegment s b := same (sameRings_changeSegment s b)
  burstStarted s b := same (sameRings_burstStarted s b)
  burstEnded s b := same (sameRings_burstEnded s b)
  setup _ _ _ _ _ := same (sameRings_of_bridges rfl)
  dirReport s p u _ := same (sameRings_of_bridges (dirReport_bridges s p u))
  flagUnit _ _ _ := same (sameRings_of_bridges rfl)
  written _ _ _ _ _ _ _ _ _ _ := same (sameRings_of_bridges rfl)
  freed _ _ _ _ := same (sameRings_of_bridges rfl)
  purged _ := same (sameRings_of_bridges rfl)
  switched s t h hs := by
    have exchanged : s.sameRings t := fun b => ⟨rest_ring h b, rest_writePos h b⟩
    exact KeptByOperations.foldl (fun t b => same (sameRings_adjustBurst t b)) _ (same exchanged hs)
  pendSwitch _ := same (sameRings_of_bridges rfl)
  writeRecord _ _ _ _ _ := same (sameRings_of_bridges rfl)
  copyPlan _ := same (sameRings_of_bridges rfl)
  emptyBridge := emptyBridge
  talk _ _ := same (sameRings_of_bridges rfl)
  monitor mask gains s := same (sameRings_of_bridges (monitor_bridges mask gains s))
  haltMixer _ := same (sameRings_of_bridges rfl)
  runMixer _ _ := same (sameRings_of_bridges rfl)
  setupMixer f s := same (sameRings_of_bridges (setupMixer_bridges f s))
  latched _ _ _ := same (sameRings_of_bridges rfl)
  formSample s f slots _ _ within := formSample s f slots within
  counted s _ cs pres late _ _ := counted s cs pres late

theorem bridge_reset (b : BridgeId) : State.reset.bridge b = .reset := by
  simp [State.reset, State.bridge]

theorem ringsSound_kept : KeptByRest State.ringsSound := by
  refine keptByRest_of_sameRings (fun h hs b => ?_) (fun s b hs c => ?_) (fun s f slots within hs b => ?_)
    (fun s cs pres late hs b => ?_)
  · rw [(h b).1]; exact hs b
  · rw [emptyBridge_bridge]
    split
    · rfl
    · exact hs c
  · rw [formSample_bridge, countSample_ring]
    exact DelayRing.wf_write (hs b) (ringAddress_lt _ (within.trans_le (frameLength_le _))) (inSampleRange_saturate _)
  · rw [counted_bridge, completed_ring]; exact hs b

theorem positionsEqual_kept : KeptByRest State.positionsEqual := by
  have emptied (s : State) (b c : BridgeId) : ((s.emptyBridge b).bridge c).writePos = (s.bridge c).writePos := by
    rw [emptyBridge_bridge]
    split
    · next h => rw [h]
    · rfl
  refine keptByRest_of_sameRings (fun h hs b => ?_) (fun s b hs c => ?_) (fun s f slots within hs b => ?_)
    (fun s cs pres late hs b => ?_)
  · rw [(h b).2, (h 0).2]; exact hs b
  · rw [emptied, emptied]; exact hs c
  · rw [formSample_bridge, formSample_bridge, countSample_writePos, countSample_writePos]; exact hs b
  · rw [counted_bridge, counted_bridge, completed_writePos, completed_writePos, hs b]

theorem ringsSound_apart : KeptApart State.ringsSound where
  link _ _ hs := hs
  reset b := by rw [bridge_reset]; rfl

theorem positionsEqual_apart : KeptApart State.positionsEqual where
  link _ _ hs := hs
  reset b := by rw [bridge_reset, bridge_reset]

/-- Settles O53: a sample's write keeps a ring's form, CLEAR_BRIDGES empties it, and the completions move the write
positions together. -/
theorem everyStepKeepsTheDelayRings : Obligations.EveryStepKeepsTheDelayRings :=
  fun _ _ h => ⟨ringsSound_kept.step ringsSound_apart h, positionsEqual_kept.step positionsEqual_apart h⟩

end Sys2Proof.Machine
end

section
/-! SUPPORT. The unit directory (R33 to R46): what a write leaves in each place, the way a lookup finds and the way a
  new
entry takes; and that every step keeps the directory's rule. -/

namespace Sys2Proof.Machine

/-! ## Places (R33) -/

theorem Directory.put_at (d : Directory) (set i : Fin 16) (way w : Fin 4) (e : Option Entry) :
    (d.put set way e).at i w = if i = set ∧ w = way then e else d.at i w := by
  unfold Directory.put Directory.at
  simp only [Fin.getElem_fin, Vector.getElem_set]
  by_cases hi : i = set
  · subst hi
    simp only [if_true, Vector.getElem_set, Fin.ext_iff, true_and]
    simp only [eq_comm]
  · have : ¬ set.val = i.val := fun h => hi (Fin.ext h.symm)
    simp [hi, this]

/-! ## Lookup (R35, R38) -/

theorem Directory.entry_of_find {d : Directory} {u : UnitId} {w : Fin 4} (h : d.find u = some w) :
    d.entry u = d.at (hashSet u) w := by
  simp [Directory.entry, h]

theorem Directory.entry_of_find_none {d : Directory} {u : UnitId} (h : d.find u = none) : d.entry u = none := by
  simp [Directory.entry, h]

theorem Directory.modify_of_find {d : Directory} {u : UnitId} {w : Fin 4} (h : d.find u = some w)
    (change : Entry → Entry) : d.modify u change = d.put (hashSet u) w ((d.at (hashSet u) w).map change) := by
  simp [Directory.modify, h]

theorem Directory.modify_of_find_none {d : Directory} {u : UnitId} (h : d.find u = none) (change : Entry → Entry) :
    d.modify u change = d := by
  simp [Directory.modify, h]

/-- The way that a lookup finds holds an entry of the unit. -/
theorem Directory.at_of_find {d : Directory} {u : UnitId} {w : Fin 4} (h : d.find u = some w) :
    ∃ e, d.at (hashSet u) w = some e ∧ e.unit = u := by
  simpa [Option.any_eq_true] using List.find?_some h

/-- A lookup that finds nothing: no way of the unit's set holds an entry of it. -/
theorem Directory.unit_ne_of_find_none {d : Directory} {u : UnitId} (h : d.find u = none) {w : Fin 4} {e : Entry}
    (he : d.at (hashSet u) w = some e) : e.unit ≠ u := by
  have absent := List.find?_eq_none.mp h w (mem_allWays w)
  simpa [he] using absent

/-- The hash of a unit, bit by bit (R35). -/
theorem hashSet_testBit (u : UnitId) {i : Nat} (hi : i < 4) :
    (hashSet u).val.testBit i = (u.getLsbD i ^^ u.getLsbD (8 + i)) := by
  have bit : (hashSet u).val.testBit i = (u.extractLsb' 0 4 ^^^ u.extractLsb' 8 4).getLsbD i := rfl
  rw [bit, BitVec.getLsbD_xor, BitVec.getLsbD_extractLsb', BitVec.getLsbD_extractLsb']
  simp [hi]

/-! ## Room (R39, R40) -/

theorem pairwise_allWays : allWays.Pairwise (· < ·) := by decide

theorem Directory.freeWay_eq_none_iff {d : Directory} {set : Fin 16} :
    d.freeWay set = none ↔ ∀ v, d.at set v ≠ none := by
  simp [Directory.freeWay, mem_allWays]

/-- The free way that is found is the lowest (R35). -/
theorem Directory.freeWay_spec {d : Directory} {set : Fin 16} {w : Fin 4} (h : d.freeWay set = some w) :
    d.at set w = none ∧ ∀ v < w, d.at set v ≠ none := by
  obtain ⟨free, before, after, split, taken⟩ := List.find?_eq_some_iff_append.mp h
  refine ⟨by simpa using free, fun v below => ?_⟩
  have order : (before ++ w :: after).Pairwise (· < ·) := split ▸ pairwise_allWays
  have place : v ∈ before ++ w :: after := split ▸ mem_allWays v
  rw [List.pairwise_append, List.pairwise_cons] at order
  rcases List.mem_append.mp place with early | late
  · have held := taken v early
    simp only [Bool.not_eq_true', Option.isNone_eq_false_iff] at held
    exact Option.isSome_iff_ne_none.mp held
  · rcases List.mem_cons.mp late with rfl | later
    · exact absurd below (lt_irrefl v)
    · exact absurd (below.trans (order.2.1.1 v later)) (lt_irrefl v)

/-- The age of a replaceable entry in a way; none elsewhere. -/
def Directory.spare (d : Directory) (set : Fin 16) (w : Fin 4) : Option Nat :=
  ((d.at set w).filter Entry.replaceable).map d.age

/-- One way weighed against the oldest so far; of equal ages the earlier stands. -/
def older (spare : Fin 4 → Option Nat) (best : Option (Fin 4 × Nat)) (w : Fin 4) : Option (Fin 4 × Nat) :=
  match spare w with
  | none => best
  | some a => if best.any (a ≤ ·.2) then best else some (w, a)

theorem Directory.oldest_eq (d : Directory) (set : Fin 16) :
    d.oldest set = (allWays.foldl (older (d.spare set)) none).map (·.1) := by
  unfold Directory.oldest
  congr 2
  funext best w
  unfold older Directory.spare
  cases d.at set w with
  | none => rfl
  | some e =>
    cases hr : e.replaceable with
    | false => simp [hr, Option.filter_some]
    | true =>
      rcases best with - | ⟨v, a⟩
      · simp [hr, Option.filter_some]
      · by_cases h : a < d.age e
        · simp [hr, Option.filter_some, h]
        · simp [hr, Option.filter_some, h, Nat.le_of_not_lt h]

/-- Over ways in their order, what is left is the oldest, and the first of the oldest. -/
theorem foldl_older_spec {spare : Fin 4 → Option Nat} (l : List (Fin 4)) (order : l.Pairwise (· < ·)) :
    (l.foldl (older spare) none = none → ∀ v ∈ l, spare v = none)
    ∧ ∀ w a, l.foldl (older spare) none = some (w, a) → w ∈ l ∧ spare w = some a
      ∧ ∀ v ∈ l, ∀ x, spare v = some x → x < a ∨ x = a ∧ w ≤ v := by
  induction l using List.reverseRecOn with
  | nil => simp
  | append_singleton l z ih =>
    rw [List.pairwise_append] at order
    obtain ⟨orderL, -, before⟩ := order
    obtain ⟨empty, best⟩ := ih orderL
    simp only [List.foldl_append, List.foldl_cons, List.foldl_nil, List.mem_append, List.mem_singleton]
    generalize l.foldl (older spare) none = o at empty best
    unfold older
    cases hz : spare z with
    | none =>
      constructor
      · rintro none_left v (hv | rfl)
        · exact empty none_left v hv
        · exact hz
      · intro w a left
        obtain ⟨mem, is, most⟩ := best w a left
        refine ⟨.inl mem, is, ?_⟩
        rintro v (hv | rfl) x hx
        · exact most v hv x hx
        · rw [hz] at hx; cases hx
    | some b =>
      dsimp only
      split
      · next stands =>
        obtain ⟨⟨w', a'⟩, rfl, notOlder⟩ := (Option.any_eq_true ..).mp stands
        refine ⟨nofun, fun w a left => ?_⟩
        obtain ⟨mem, is, most⟩ := best w a left
        refine ⟨.inl mem, is, ?_⟩
        cases left
        rintro v (hv | rfl) x hx
        · exact most v hv x hx
        · rw [hz] at hx; cases hx
          rcases Nat.lt_or_eq_of_le (of_decide_eq_true notOlder) with lt | eq
          · exact .inl lt
          · exact .inr ⟨eq, (before w' mem v (List.mem_singleton_self v)).le⟩
      · next older_than_all =>
        refine ⟨nofun, fun w a left => ?_⟩
        cases left
        refine ⟨.inr rfl, hz, ?_⟩
        rintro v (hv | rfl) x hx
        · left
          rcases o with - | ⟨w', a'⟩
          · rw [empty rfl v hv] at hx; cases hx
          · obtain ⟨-, -, most⟩ := best w' a' rfl
            have newer : a' < b := by simpa using older_than_all
            rcases most v hv x hx with lt | ⟨eq, -⟩
            · omega
            · omega
        · rw [hz] at hx; cases hx; exact .inr ⟨rfl, le_rfl⟩

theorem Directory.spare_eq_some_iff {d : Directory} {set : Fin 16} {w : Fin 4} {a : Nat} :
    d.spare set w = some a
      ↔ ∃ e, d.at set w = some e ∧ e.kind = .learned ∧ e.emergency = false ∧ d.age e = a := by
  simp [Directory.spare, Option.filter_eq_some_iff, replaceable_iff, and_assoc]

/-- A set has no room exactly where every way holds an entry that is REGISTERED or flagged (R41). -/
theorem Directory.room_eq_none_iff {d : Directory} {set : Fin 16} : d.room set = none
    ↔ ∀ v, ∃ e, d.at set v = some e ∧ (e.kind = .registered ∨ e.emergency = true) := by
  have room : d.room set = none ↔ d.freeWay set = none ∧ d.oldest set = none := by
    unfold Directory.room
    cases d.freeWay set <;> simp
  obtain ⟨empty, best⟩ := foldl_older_spec (spare := d.spare set) allWays pairwise_allWays
  rw [room, Directory.freeWay_eq_none_iff, Directory.oldest_eq, Option.map_eq_none_iff]
  constructor
  · rintro ⟨full, nothing⟩ v
    obtain ⟨e, he⟩ := Option.ne_none_iff_exists'.mp (full v)
    refine ⟨e, he, ?_⟩
    by_contra neither
    rw [not_or] at neither
    have learned : e.kind = .learned := by cases h : e.kind <;> simp_all
    have spare : d.spare set v = some (d.age e) :=
      Directory.spare_eq_some_iff.mpr ⟨e, he, learned, by simpa using neither.2, rfl⟩
    rw [empty nothing v (mem_allWays v)] at spare
    cases spare
  · intro held
    refine ⟨fun v => ?_, ?_⟩
    · obtain ⟨e, he, -⟩ := held v
      rw [he]; exact nofun
    · rcases h : allWays.foldl (older (d.spare set)) none with - | ⟨w, a⟩
      · rfl
      · obtain ⟨-, spare, -⟩ := best w a h
        obtain ⟨e, he, learned, clear, -⟩ := Directory.spare_eq_some_iff.mp spare
        obtain ⟨e', he', kept⟩ := held w
        rw [he] at he'; cases he'
        simp [learned, clear] at kept

/-- The way that a new entry takes: the lowest free one, or in a full set that of the oldest replaceable entry, the
lowest of equal ages (R39, R40). -/
theorem Directory.room_spec {d : Directory} {set : Fin 16} {w : Fin 4} (h : d.room set = some w) :
    (d.at set w = none ∧ ∀ v < w, d.at set v ≠ none)
    ∨ (∀ v, d.at set v ≠ none) ∧ ∃ e, d.at set w = some e ∧ e.kind = .learned ∧ e.emergency = false
      ∧ ∀ (v : Fin 4) (x : Entry), d.at set v = some x → x.kind = .learned → x.emergency = false →
        d.age x < d.age e ∨ d.age x = d.age e ∧ w ≤ v := by
  unfold Directory.room at h
  cases free : d.freeWay set with
  | some v =>
    rw [free] at h; cases h
    exact .inl (Directory.freeWay_spec free)
  | none =>
    rw [free] at h
    replace h : d.oldest set = some w := h
    rw [Directory.oldest_eq, Option.map_eq_some_iff] at h
    obtain ⟨⟨w', a⟩, left, rfl⟩ := h
    obtain ⟨-, spare, most⟩ := (foldl_older_spec allWays pairwise_allWays).2 w' a left
    obtain ⟨e, he, learned, clear, rfl⟩ := Directory.spare_eq_some_iff.mp spare
    refine .inr ⟨Directory.freeWay_eq_none_iff.mp free, e, he, learned, clear, fun v x hx xl xc => ?_⟩
    exact most v (mem_allWays v) _ (Directory.spare_eq_some_iff.mpr ⟨x, hx, xl, xc, rfl⟩)

/-- Settles O18: places by what a write leaves, lookup by the way found, room by the fold that weighs the ways. -/
theorem directoryLooksUpAndMakesRoom : Obligations.DirectoryLooksUpAndMakesRoom := by
  refine ⟨fun d set way e => ⟨rfl, fun i w => d.put_at set i way w e⟩, fun d u change => ⟨fun unknown => ?_, ?_⟩,
    fun s => ⟨fun u i hi => hashSet_testBit u hi, fun rule u => ⟨fun w => find_eq_some_iff rule, ?_⟩, ?_, ?_⟩⟩
  · exact ⟨Directory.entry_of_find_none unknown, Directory.modify_of_find_none unknown change⟩
  · exact fun w found => ⟨Directory.entry_of_find found, Directory.modify_of_find found change⟩
  · rintro unknown set way e he rfl
    obtain ⟨rfl, -⟩ := rule set way e he
    exact Directory.unit_ne_of_find_none unknown he rfl
  · exact fun set => Directory.room_eq_none_iff
  · exact fun set w room => Directory.room_spec room

/-! ## The directory's rule (R33, R34) -/

/-- The rule speaks of what stands in the places. -/
theorem directoryRule_of_at {s t : State} (h : ∀ set way, t.dir.at set way = s.dir.at set way)
    (hs : s.directoryRule) : t.directoryRule := by
  intro set way e he
  rw [h] at he
  obtain ⟨hash, valid, learned, unique⟩ := hs set way e he
  refine ⟨hash, valid, learned, fun other e' he' => ?_⟩
  rw [h] at he'
  exact unique other e' he'

theorem directoryRule_of_dir {s t : State} (h : t.dir = s.dir) (hs : s.directoryRule) : t.directoryRule :=
  directoryRule_of_at (fun _ _ => by rw [h]) hs

/-- A place of the unit's set written with an entry of the unit keeps the rule, where no other way of the set holds
one. -/
theorem directoryRule_put {s t : State} {u : UnitId} {w : Fin 4} {e : Option Entry} (hs : s.directoryRule)
    (ht : ∀ set way, t.dir.at set way = (s.dir.put (hashSet u) w e).at set way)
    (unit : ∀ x, e = some x → x.unit = u ∧ validUnit u = true ∧ (x.kind = .learned → x.override = none))
    (alone : ∀ v x, s.dir.at (hashSet u) v = some x → x.unit = u → v = w) : t.directoryRule := by
  intro set way x hx
  rw [ht, Directory.put_at] at hx
  have other_at (other : Fin 4) (x' : Entry) (h : t.dir.at set other = some x') :
      (set = hashSet u ∧ other = w ∧ e = some x') ∨ (¬ (set = hashSet u ∧ other = w)
        ∧ s.dir.at set other = some x') := by
    rw [ht, Directory.put_at] at h
    split at h
    · next here => exact .inl ⟨here.1, here.2, h⟩
    · next elsewhere => exact .inr ⟨elsewhere, h⟩
  split at hx
  · next here =>
    obtain ⟨rfl, rfl⟩ := here
    obtain ⟨xu, valid, learned⟩ := unit x hx
    refine ⟨by rw [xu], by rw [xu]; exact valid, learned, fun other x' hx' same => ?_⟩
    rcases other_at other x' hx' with ⟨-, this, -⟩ | ⟨-, old⟩
    · exact this
    · exact alone other x' old (same.trans xu)
  · next elsewhere =>
    obtain ⟨hash, valid, learned, unique⟩ := hs set way x hx
    refine ⟨hash, valid, learned, fun other x' hx' same => ?_⟩
    rcases other_at other x' hx' with ⟨rfl, rfl, new⟩ | ⟨-, old⟩
    · have xu : x.unit = u := same.symm.trans (unit x' new).1
      exact absurd ⟨rfl, alone way x hx xu⟩ elsewhere
    · exact unique other x' old same

/-- Where a lookup finds nothing, no way of the set holds an entry of the unit. -/
theorem alone_of_find_none {d : Directory} {u : UnitId} (h : d.find u = none) (w v : Fin 4) (x : Entry)
    (hx : d.at (hashSet u) v = some x) (unit : x.unit = u) : v = w :=
  absurd unit (Directory.unit_ne_of_find_none h hx)

/-- Where the rule holds, the way that a lookup finds alone holds an entry of the unit. -/
theorem alone_of_find {s : State} (hs : s.directoryRule) {u : UnitId} {w : Fin 4} (h : s.dir.find u = some w)
    (v : Fin 4) (x : Entry) (hx : s.dir.at (hashSet u) v = some x) (unit : x.unit = u) : v = w := by
  obtain ⟨e, he, eu⟩ := Directory.at_of_find h
  obtain ⟨-, -, -, unique⟩ := hs _ w e he
  exact unique v x hx (unit.trans eu.symm)

/-- A change of U's entry that keeps its unit and its rule on overrides keeps the directory's rule. -/
theorem directoryRule_modify {s t : State} {u : UnitId} {change : Entry → Entry} (hs : s.directoryRule)
    (ht : t.dir = s.dir.modify u change) (unit : ∀ e, (change e).unit = e.unit)
    (learned : ∀ e, (e.kind = .learned → e.override = none) → (change e).kind = .learned → (change e).override = none) :
    t.directoryRule := by
  cases found : s.dir.find u with
  | none => exact directoryRule_of_dir (ht.trans (Directory.modify_of_find_none found change)) hs
  | some w =>
    rw [Directory.modify_of_find found] at ht
    refine directoryRule_put hs (u := u) (w := w) (fun _ _ => by rw [ht]) (fun x hx => ?_) (alone_of_find hs found)
    obtain ⟨e, he, eu⟩ := Directory.at_of_find found
    rw [he, Option.map_some, Option.some.injEq] at hx
    subst hx
    obtain ⟨-, valid, old, -⟩ := hs _ w e he
    exact ⟨(unit e).trans eu, by rw [← eu]; exact valid, learned e old⟩

theorem directoryRule_dirReport {s : State} {p : PortId} {u : UnitId} (valid : validUnit u = true)
    (hs : s.directoryRule) : (s.dirReport p u).directoryRule := by
  unfold State.dirReport
  split
  · exact directoryRule_modify hs rfl (fun _ => rfl) (fun _ old => old)
  · next unknown =>
    split
    · refine directoryRule_put hs (fun _ _ => rfl) (fun x hx => ?_) (alone_of_find_none unknown _)
      cases hx
      exact ⟨rfl, valid, fun _ => rfl⟩
    · exact directoryRule_of_dir (State.raise_dir _ _ _) hs

theorem directoryRule_written {s : State} {u : UnitId} {agency : BitVec 4} {role : BitVec 3} {o : Option Nat}
    {w : Fin 4} {d : Directory} (valid : validUnit u = true) (room : s.enterUnit u agency role o = some (w, d))
    (hs : s.directoryRule) : ({ s with dir := d } : State).directoryRule := by
  unfold State.enterUnit at room
  split at room
  · cases room
    exact directoryRule_modify hs rfl (fun _ => rfl) (fun _ _ => nofun)
  · next unknown =>
    rw [Option.map_eq_some_iff] at room
    obtain ⟨w', -, made⟩ := room
    cases made
    refine directoryRule_put hs (fun _ _ => rfl) (fun x hx => ?_) (alone_of_find_none unknown _)
    cases hx
    exact ⟨rfl, valid, nofun⟩

theorem directoryRule_freed {s : State} {u : UnitId} {w : Fin 4} (found : s.dir.find u = some w)
    (hs : s.directoryRule) : ({ s with dir := s.dir.put (hashSet u) w none } : State).directoryRule :=
  directoryRule_put hs (fun _ _ => rfl) nofun (alone_of_find hs found)

theorem directoryRule_reset : State.reset.directoryRule := by
  intro set way e he
  simp [State.reset, Directory.at] at he

/-! ## What leaves the directory alone -/

theorem turnLevel_dir (s : State) (b : BridgeId) : (s.turnLevel b).dir = s.dir := by
  unfold State.turnLevel; dsimp only; split <;> rfl

theorem changeSegment_dir (s : State) (b : BridgeId) : (s.changeSegment b).dir = s.dir := by
  unfold State.changeSegment; dsimp only; split <;> rfl

theorem burstStarted_dir (s : State) (b : BridgeId) : (s.burstStarted b).dir = s.dir := by
  unfold State.burstStarted; dsimp only; split <;> simp

theorem burstEnded_dir (s : State) (b : BridgeId) : (s.burstEnded b).dir = s.dir := by
  simp [State.burstEnded]

theorem adjustBurst_dir (s : State) (b : BridgeId) : (s.adjustBurst b).dir = s.dir := by
  unfold State.adjustBurst; dsimp only; split <;> simp

theorem emptyBridge_dir (s : State) (b : BridgeId) : (s.emptyBridge b).dir = s.dir := by
  simp [State.emptyBridge]

theorem monitor_dir (mask : BridgeSet) (gains : Vector Half 8) (s : State) : (monitor mask gains s).1.dir = s.dir := by
  unfold monitor; split <;> rfl

theorem setupMixer_dir (f : MixerFields) (s : State) : (setupMixer f s).1.dir = s.dir := by
  unfold setupMixer; split
  · split <;> rfl
  · rfl

@[simp] theorem raiseClips_dir (s : State) (ports : Vector Int 12) (con : Int) (talk : Vector Int 8)
    (out : Vector Int 12) (monitor : Int) : (s.raiseClips ports con talk out monitor).dir = s.dir := by
  simp [State.raiseClips, foldl_part State.dir]

theorem formSample_dir (s : State) (f : Frame) (slots : Vector Half 13) : (s.formSample f slots).dir = s.dir :=
  raiseClips_dir _ _ _ _ _ _

theorem directoryRule_kept : KeptByRest State.directoryRule where
  same h := directoryRule_of_dir (rest_dir h)
  turnLevel s b := directoryRule_of_dir (turnLevel_dir s b)
  changeSegment s b := directoryRule_of_dir (changeSegment_dir s b)
  burstStarted s b := directoryRule_of_dir (burstStarted_dir s b)
  burstEnded s b := directoryRule_of_dir (burstEnded_dir s b)
  setup _ _ _ _ _ := directoryRule_of_dir rfl
  dirReport _ _ _ valid := directoryRule_dirReport valid
  flagUnit _ _ _ hs := directoryRule_modify hs rfl (fun _ => rfl) (fun _ old => old)
  written _ _ _ _ _ _ _ valid _ room := directoryRule_written valid room
  freed _ _ _ found := directoryRule_freed found
  purged _ := directoryRule_purge
  switched _ t h := directoryRule_of_dir ((foldl_part State.dir adjustBurst_dir _ t).trans ((rest_dir h).trans rfl))
  pendSwitch _ := directoryRule_of_dir rfl
  writeRecord _ _ _ _ _ := directoryRule_of_dir rfl
  copyPlan _ := directoryRule_of_dir rfl
  emptyBridge s b := directoryRule_of_dir (emptyBridge_dir s b)
  talk _ _ := directoryRule_of_dir rfl
  monitor mask gains s := directoryRule_of_dir (monitor_dir mask gains s)
  haltMixer _ := directoryRule_of_dir rfl
  runMixer _ _ := directoryRule_of_dir rfl
  setupMixer f s := directoryRule_of_dir (setupMixer_dir f s)
  latched _ _ _ := directoryRule_of_dir rfl
  formSample s f slots _ _ _ := directoryRule_of_dir (formSample_dir s f slots)
  counted _ _ _ _ _ _ _ := directoryRule_of_at fun _ _ => rfl

theorem directoryRule_apart : KeptApart State.directoryRule where
  link _ _ hs := hs
  reset := directoryRule_reset

/-- Settles O55: reports, UNIT_ENTER, UNIT_REMOVE and a purge write places by the rule, and nothing else writes one. -/
theorem everyStepKeepsTheDirectory : Obligations.EveryStepKeepsTheDirectory :=
  fun _ _ hs h => directoryRule_kept.step directoryRule_apart h hs

end Sys2Proof.Machine
end

section
/-! SUPPORT. Settings in their ranges, the mixer in its modes, and bursts within their alert length: what each piece
  that
writes one of them does to it. -/

namespace Sys2Proof.Machine

/-! ## The settings: all of the rest but what the bridges hold -/

def State.settings (s : State) : Vector Setup 12 × Plans × Directory × Mixer × Console :=
  (s.ports.map (·.setup), s.plans, s.dir, s.mixer, s.console)

section
variable {s t : State}

theorem settings_of_rest (h : t.rest = s.rest) : t.settings = s.settings := by
  have setups : t.ports.map (·.setup) = s.ports.map (·.setup) := congrArg Prod.fst h
  simp only [State.settings, setups, rest_plans h, rest_dir h, rest_mixer h, rest_console h]

theorem settings_setup (h : t.settings = s.settings) (p : PortId) : (t.port p).setup = (s.port p).setup := by
  have setups := congrArg Prod.fst h
  simpa [State.settings, State.port] using congrArg (fun v : Vector Setup 12 => v[p]) setups

theorem settings_plans (h : t.settings = s.settings) : t.plans = s.plans := congrArg (fun r => r.2.1) h

theorem settings_dir (h : t.settings = s.settings) : t.dir = s.dir := congrArg (fun r => r.2.2.1) h

theorem settings_mixer (h : t.settings = s.settings) : t.mixer = s.mixer := congrArg (fun r => r.2.2.2.1) h

theorem settings_console (h : t.settings = s.settings) : t.console = s.console := congrArg (fun r => r.2.2.2.2) h

@[simp] theorem settings_reportChange (s : State) (src : Source) : (s.reportChange src).settings = s.settings :=
  settings_of_rest (rest_reportChange s src)

@[simp] theorem settings_setBridge (s : State) (b : BridgeId) (r : Bridge) : (s.setBridge b r).settings = s.settings :=
  rfl

@[simp] theorem settings_turnLevel (s : State) (b : BridgeId) : (s.turnLevel b).settings = s.settings := by
  unfold State.turnLevel; dsimp only; split <;> rfl

@[simp] theorem settings_changeSegment (s : State) (b : BridgeId) : (s.changeSegment b).settings = s.settings := by
  unfold State.changeSegment; dsimp only; split <;> rfl

@[simp] theorem settings_burstStarted (s : State) (b : BridgeId) : (s.burstStarted b).settings = s.settings := by
  unfold State.burstStarted; dsimp only; split <;> simp

@[simp] theorem settings_burstEnded (s : State) (b : BridgeId) : (s.burstEnded b).settings = s.settings := by
  simp [State.burstEnded]

@[simp] theorem settings_adjustBurst (s : State) (b : BridgeId) : (s.adjustBurst b).settings = s.settings := by
  unfold State.adjustBurst; dsimp only; split <;> simp

theorem settings_emptyBridge (s : State) (b : BridgeId) : (s.emptyBridge b).settings = s.settings := by
  unfold State.emptyBridge State.updateBridge
  simp only [settings_of_rest (rest_reportIf _ _ _), settings_setBridge]

end

/-- A property of the settings is kept by every step, if the pieces that write one keep it. -/
theorem keptByRest_of_settings {P : State → Prop} (same : ∀ {s t : State}, t.settings = s.settings → P s → P t)
    (setup : ∀ (s : State) (p : PortId) (f : SetupFields) (new : Setup), readSetup f = some new → P s →
      P (s.setPort p { s.port p with setup := new }))
    (dirReport : ∀ (s : State) (p : PortId) (u : UnitId), P s → P (s.dirReport p u))
    (flagUnit : ∀ (s : State) (u : UnitId) (on : Bool), P s → P (s.flagUnit u on))
    (written : ∀ (s : State) (u : UnitId) (agency : BitVec 4) (role : BitVec 3) (o : Option Nat) (w : Fin 4)
      (d : Directory), (∀ n, o = some n → n ≤ 3) → s.enterUnit u agency role o = some (w, d) →
      P s → P { s with dir := d })
    (freed : ∀ (s : State) (u : UnitId) (w : Fin 4), P s → P { s with dir := s.dir.put (hashSet u) w none })
    (purged : ∀ s : State, P s → P { s with dir := s.dir.purge })
    (switched : ∀ s : State, P s → P { s with plans := { s.plans with
      active := s.plans.active + 1, switchPending := false } })
    (pendSwitch : ∀ s : State, P s → P { s with plans := { s.plans with switchPending := true } })
    (writeRecord : ∀ (s : State) (b : BridgeId) (f : RecordFields) (new : Record), readRecord f = some new → P s →
      P (s.writeRecord b new))
    (copyPlan : ∀ s : State, P s →
      P { s with plans := { s.plans with records := s.plans.records.set s.editPlan s.activeRecords } })
    (talk : ∀ (s : State) (carried : BridgeSet), P s → P { s with console := { s.console with talk := carried } })
    (monitor : ∀ (mask : BridgeSet) (gains : Vector Half 8) (s : State), P s → P (monitor mask gains s).1)
    (haltMixer : ∀ s : State, P s → P s.haltMixer)
    (runMixer : ∀ s : State, s.mixer.mode = .halted → P s → P { s with mixer := { s.mixer with mode := .run } })
    (setupMixer : ∀ (f : MixerFields) (s : State), P s → P (setupMixer f s).1)
    (latched : ∀ s : State, s.mixer.mode = .run → s.mixer.frame = none → P s → P s.latched)
    (formSample : ∀ (s : State) (f : Frame) (slots : Vector Half 13), s.mixer.mode = .run → s.mixer.frame = some f →
      f.place < frameLength s.mixer.rate → P s → P (s.formSample f slots))
    (counted : ∀ (s : State) (f : Frame) (cs pres : PortSet) (late : Late), s.mixer.mode = .run →
      s.mixer.frame = some f → P s → P (s.counted cs pres late)) : KeptByRest P where
  same h := same (settings_of_rest h)
  turnLevel s b := same (settings_turnLevel s b)
  changeSegment s b := same (settings_changeSegment s b)
  burstStarted s b := same (settings_burstStarted s b)
  burstEnded s b := same (settings_burstEnded s b)
  setup := setup
  dirReport s p u _ := dirReport s p u
  flagUnit := flagUnit
  written s u agency role o w d _ := written s u agency role o w d
  freed s u w _ := freed s u w
  purged := purged
  switched s t h hs := same (foldl_part State.settings settings_adjustBurst _ t)
    (same (settings_of_rest h) (switched s hs))
  pendSwitch := pendSwitch
  writeRecord := writeRecord
  copyPlan := copyPlan
  emptyBridge s b := same (settings_emptyBridge s b)
  talk := talk
  monitor := monitor
  haltMixer := haltMixer
  runMixer := runMixer
  setupMixer := setupMixer
  latched := latched
  formSample := formSample
  counted := counted

/-! ## One sample and one completion outside the bridges -/

@[simp] theorem raiseClips_mixer (s : State) (ports : Vector Int 12) (con : Int) (talk : Vector Int 8)
    (out : Vector Int 12) (monitor : Int) : (s.raiseClips ports con talk out monitor).mixer = s.mixer := by
  simp [State.raiseClips, foldl_part State.mixer]

@[simp] theorem raiseClips_console (s : State) (ports : Vector Int 12) (con : Int) (talk : Vector Int 8)
    (out : Vector Int 12) (monitor : Int) : (s.raiseClips ports con talk out monitor).console = s.console := by
  simp [State.raiseClips, foldl_part State.console]

@[simp] theorem raiseClips_ports (s : State) (ports : Vector Int 12) (con : Int) (talk : Vector Int 8)
    (out : Vector Int 12) (monitor : Int) : (s.raiseClips ports con talk out monitor).ports = s.ports := by
  simp [State.raiseClips, foldl_part State.ports]

/-- A sample adds to the VOX sums of the ports alone (R135). -/
theorem formSample_port (s : State) (f : Frame) (slots : Vector Half 13) (p : PortId) :
    (s.formSample f slots).port p = { s.port p with
      voxSum := (s.port p).voxSum + (saturate (s.rawPort f.settings slots p)).natAbs } := by
  simp [State.formSample, State.port, State.writeRings]

theorem formSample_mixer (s : State) (f : Frame) (slots : Vector Half 13) :
    ∃ forming sbout, (s.formSample f slots).mixer = { s.mixer with
      frame := some { f with place := f.place + 1 }, forming := forming, sbout := sbout } :=
  ⟨_, _, by simp only [State.formSample, raiseClips_mixer]; rfl⟩

theorem formSample_console (s : State) (f : Frame) (slots : Vector Half 13) :
    (s.formSample f slots).console = s.console := raiseClips_console _ _ _ _ _ _

/-- What a completion counts in each port (R127). -/
theorem counted_port (s : State) (cs pres : PortSet) (late : Late) (p : PortId) :
    (s.counted cs pres late).port p =
      if keyLeft late p (s.port p) then (s.port p).completed s.mixer.rate (cs.getLsbD p) (pres.getLsbD p)
      else ((s.port p).completed s.mixer.rate (cs.getLsbD p) (pres.getLsbD p)).keyCounted := by
  simp [State.counted, State.port]

@[simp] theorem keyCounted_setup (q : Port) : q.keyCounted.setup = q.setup := by
  unfold Port.keyCounted; dsimp only; split <;> rfl

@[simp] theorem counted_setup (s : State) (cs pres : PortSet) (late : Late) (p : PortId) :
    ((s.counted cs pres late).port p).setup = (s.port p).setup := by
  rw [counted_port]
  split
  · rfl
  · rw [keyCounted_setup]; rfl

/-! ## The plans -/

theorem getElem_set_plan {α : Type} (v : Vector α 2) (n m : Fin 2) (x : α) :
    (v.set n x)[m] = if m = n then x else v[m] := by
  simp only [Fin.getElem_fin, Vector.getElem_set, Fin.ext_iff, eq_comm]

theorem getElem_set_bridge {α : Type} (v : Vector α 8) (b c : BridgeId) (x : α) :
    (v.set b x)[c] = if c = b then x else v[c] := by
  simp only [Fin.getElem_fin, Vector.getElem_set, Fin.ext_iff, eq_comm]

/-- PLAN_EDIT leaves the active plan alone (R53). -/
theorem writeRecord_record (s : State) (b c : BridgeId) (new : Record) :
    (s.writeRecord b new).record c = s.record c := by
  have active : (s.writeRecord b new).plans.records[s.plans.active] = s.plans.records[s.plans.active] :=
    (getElem_set_plan ..).trans (if_neg (editPlan_ne_active s).symm)
  exact congrArg (·[c]) active

/-- PLAN_COPY leaves the active plan alone (R53). -/
theorem copyPlan_record (s : State) (c : BridgeId) : ({ s with plans := { s.plans with
    records := s.plans.records.set s.editPlan s.activeRecords } } : State).record c = s.record c := by
  have active : (s.plans.records.set s.editPlan s.activeRecords)[s.plans.active] = s.plans.records[s.plans.active] :=
    (getElem_set_plan ..).trans (if_neg (editPlan_ne_active s).symm)
  exact congrArg (·[c]) active

/-! ## The mixer in its modes (R125, R128) -/

theorem dirReport_mixer (s : State) (p : PortId) (u : UnitId) : (s.dirReport p u).mixer = s.mixer := by
  unfold State.dirReport
  split
  · rfl
  · split <;> simp

theorem monitor_mixer (mask : BridgeSet) (gains : Vector Half 8) (s : State) :
    (monitor mask gains s).1.mixer = s.mixer := by
  unfold monitor
  split <;> rfl

theorem mixerRule_of_mixer {s t : State} (h : t.mixer = s.mixer) (hs : s.mixerRule) : t.mixerRule := by
  unfold State.mixerRule
  rw [h]
  exact hs

theorem mixerRule_kept : KeptByRest State.mixerRule := by
  apply keptByRest_of_settings
  case same => exact fun h => mixerRule_of_mixer (settings_mixer h)
  case setup => exact fun _ _ _ _ _ => mixerRule_of_mixer rfl
  case dirReport => exact fun s p u => mixerRule_of_mixer (dirReport_mixer s p u)
  case flagUnit => exact fun _ _ _ => mixerRule_of_mixer rfl
  case written => exact fun _ _ _ _ _ _ _ _ _ => mixerRule_of_mixer rfl
  case freed => exact fun _ _ _ => mixerRule_of_mixer rfl
  case purged => exact fun _ => mixerRule_of_mixer rfl
  case switched => exact fun _ => mixerRule_of_mixer rfl
  case pendSwitch => exact fun _ => mixerRule_of_mixer rfl
  case writeRecord => exact fun _ _ _ _ _ => mixerRule_of_mixer rfl
  case copyPlan => exact fun _ => mixerRule_of_mixer rfl
  case talk => exact fun _ _ => mixerRule_of_mixer rfl
  case monitor => exact fun mask gains s => mixerRule_of_mixer (monitor_mixer mask gains s)
  case haltMixer => exact fun _ _ => ⟨fun _ => ⟨rfl, rfl⟩, nofun⟩
  case runMixer =>
    intro s halted hs
    exact ⟨nofun, fun f frame => hs.2 f frame⟩
  case setupMixer =>
    intro f s hs
    unfold setupMixer
    split
    · next rate rounding _ _ =>
      split
      · exact hs
      · next steady =>
        refine ⟨hs.1, fun fr frame => ?_⟩
        have within : fr.place ≤ frameLength s.mixer.rate := hs.2 fr frame
        cases mode : s.mixer.mode with
        | halted => exact absurd ((hs.1 mode).1.symm.trans frame) nofun
        | run =>
          have same : rate = s.mixer.rate := by
            by_contra other
            exact steady ⟨mode, other⟩
          rw [same]
          exact within
    · exact hs
  case latched =>
    intro s run _ _
    refine ⟨fun halted => ?_, fun f frame => ?_⟩
    · have : s.mixer.mode = .halted := halted
      rw [run] at this
      cases this
    · cases frame
      exact Nat.zero_le _
  case formSample =>
    intro s f slots run frame within _
    obtain ⟨forming, sbout, mixer⟩ := formSample_mixer s f slots
    unfold State.mixerRule
    rw [mixer]
    refine ⟨fun halted => ?_, fun f' frame' => ?_⟩
    · rw [run] at halted; cases halted
    · cases frame'; exact within
  case counted =>
    intro s f cs pres late run frame _
    refine ⟨fun halted => ?_, nofun⟩
    have : s.mixer.mode = .halted := halted
    rw [run] at this
    cases this

theorem mixerRule_apart : KeptApart State.mixerRule where
  link _ _ hs := hs
  reset := ⟨nofun, nofun⟩

/-! ## Settings in their ranges (R1, R34, R49, R128, R146) -/

theorem clamp_le {lo hi n : Nat} (h : lo ≤ hi) : clamp lo hi n ≤ hi :=
  max_le h (min_le_left _ _)

theorem le_clamp {lo hi n : Nat} : lo ≤ clamp lo hi n := le_max_left _ _

theorem Setup.inRange_of_read {f : SetupFields} {new : Setup} (h : readSetup f = some new) : new.inRange := by
  unfold readSetup at h
  split at h
  · cases h
    exact ⟨clamp_le (by decide), clamp_le (by decide), clamp_le (by decide), clamp_le (by decide),
      clamp_le (by decide), clamp_le (by decide), clamp_le (by decide), clamp_le (by decide), clamp_le (by decide),
      le_clamp, clamp_le (by decide), clamp_le (by decide)⟩
  · cases h

theorem Record.inRange_of_read {f : RecordFields} {new : Record} (h : readRecord f = some new) : new.inRange := by
  unfold readRecord at h
  split at h
  · cases h
    exact ⟨clamp_le (by decide), clamp_le (by decide), clamp_le (by decide), clamp_le (by decide)⟩
  · cases h

/-- Every override priority of the directory is at most 3 (R34). -/
def Directory.overridesInRange (d : Directory) : Prop :=
  ∀ (set : Fin 16) (way : Fin 4) (e : Entry), d.at set way = some e → ∀ o : Nat, e.override = some o → o ≤ 3

theorem overridesInRange_put {d : Directory} (hd : d.overridesInRange) {set : Fin 16} {way : Fin 4} {e : Option Entry}
    (he : ∀ x, e = some x → ∀ o, x.override = some o → o ≤ 3) : (d.put set way e).overridesInRange := by
  intro i w x hx
  rw [Directory.put_at] at hx
  split at hx
  · exact he x hx
  · exact hd i w x hx

theorem overridesInRange_modify {d : Directory} (hd : d.overridesInRange) {u : UnitId} {change : Entry → Entry}
    (keeps : ∀ e o, (change e).override = some o → (∀ o, e.override = some o → o ≤ 3) → o ≤ 3) :
    (d.modify u change).overridesInRange := by
  cases found : d.find u with
  | none => rw [Directory.modify_of_find_none found]; exact hd
  | some w =>
    rw [Directory.modify_of_find found]
    refine overridesInRange_put hd fun x hx o ho => ?_
    obtain ⟨e, he, rfl⟩ := Option.map_eq_some_iff.mp hx
    exact keeps e o ho (hd _ w e he)

/-- What is in range beside setups and overrides. -/
theorem settingsInRange_of {s t : State} (hs : s.settingsInRange)
    (setups : ∀ p, (t.port p).setup.inRange)
    (records : ∀ (n : Fin 2) (b : BridgeId), t.plans.records[n][b].inRange)
    (overrides : t.dir.overridesInRange)
    (amplitude : t.mixer.amplitude = s.mixer.amplitude) (p1 : t.mixer.p1 = s.mixer.p1) (p2 : t.mixer.p2 = s.mixer.p2)
    (conGain : t.mixer.conGain = s.mixer.conGain) (gains : t.console.monitorGains = s.console.monitorGains) :
    t.settingsInRange := by
  obtain ⟨-, -, -, rest⟩ := hs
  refine ⟨setups, records, overrides, ?_⟩
  rw [amplitude, p1, p2, conGain, gains]
  exact rest

theorem settingsInRange_kept : KeptByRest State.settingsInRange := by
  have byDir (s t : State) (ports : t.ports = s.ports) (plans : t.plans = s.plans) (mixer : t.mixer = s.mixer)
      (console : t.console = s.console) (hs : s.settingsInRange) (d : t.dir.overridesInRange) : t.settingsInRange := by
    refine settingsInRange_of hs (fun p => ?_) ?_ d (by rw [mixer]) (by rw [mixer]) (by rw [mixer]) (by rw [mixer])
      (by rw [console])
    · rw [port_of_ports ports]; exact hs.1 p
    · rw [plans]; exact hs.2.1
  apply keptByRest_of_settings
  case same =>
    intro s t h hs
    refine settingsInRange_of hs (fun p => ?_) ?_ ?_ ?_ ?_ ?_ ?_ ?_
    · rw [settings_setup h]; exact hs.1 p
    · rw [settings_plans h]; exact hs.2.1
    · rw [settings_dir h]; exact hs.2.2.1
    all_goals first | rw [settings_mixer h] | rw [settings_console h]
  case setup =>
    intro s p f new read hs
    refine settingsInRange_of hs (fun r => ?_) hs.2.1 hs.2.2.1 rfl rfl rfl rfl rfl
    rw [port_setPort]
    split
    · exact Setup.inRange_of_read read
    · exact hs.1 r
  case dirReport =>
    intro s p u hs
    unfold State.dirReport
    split
    · exact byDir s _ rfl rfl rfl rfl hs (overridesInRange_modify hs.2.2.1 fun e o ho old => old o ho)
    · split
      · exact byDir s _ rfl rfl rfl rfl hs (overridesInRange_put hs.2.2.1 fun x hx => by cases hx; exact nofun)
      · exact byDir s _ (State.raise_ports ..) (State.raise_plans ..) (State.raise_mixer ..) (State.raise_console ..) hs
          (by rw [State.raise_dir]; exact hs.2.2.1)
  case flagUnit =>
    intro s u on hs
    exact byDir s _ rfl rfl rfl rfl hs (overridesInRange_modify hs.2.2.1 fun e o ho old => old o ho)
  case written =>
    intro s u agency role o w d range room hs
    refine byDir s _ rfl rfl rfl rfl hs ?_
    unfold State.enterUnit at room
    split at room
    · cases room
      exact overridesInRange_modify hs.2.2.1 fun e o' ho _ => range o' ho
    · obtain ⟨w', -, made⟩ := Option.map_eq_some_iff.mp room
      cases made
      exact overridesInRange_put hs.2.2.1 fun x hx => by cases hx; exact range
  case freed =>
    intro s u w hs
    exact byDir s _ rfl rfl rfl rfl hs (overridesInRange_put hs.2.2.1 nofun)
  case purged =>
    intro s hs
    refine byDir s _ rfl rfl rfl rfl hs fun set way e he => ?_
    have kept : (s.dir.purge.at set way) = some e := he
    rw [Directory.purge_at] at kept
    exact hs.2.2.1 set way e (Option.filter_eq_some_iff.mp kept).1
  case switched => exact fun s hs => settingsInRange_of hs hs.1 hs.2.1 hs.2.2.1 rfl rfl rfl rfl rfl
  case pendSwitch => exact fun s hs => settingsInRange_of hs hs.1 hs.2.1 hs.2.2.1 rfl rfl rfl rfl rfl
  case writeRecord =>
    intro s b f new read hs
    refine settingsInRange_of hs hs.1 (fun n c => ?_) hs.2.2.1 rfl rfl rfl rfl rfl
    unfold State.writeRecord
    rw [getElem_set_plan]
    split
    · rw [getElem_set_bridge]
      split
      · exact Record.inRange_of_read read
      · exact hs.2.1 _ c
    · exact hs.2.1 n c
  case copyPlan =>
    intro s hs
    refine settingsInRange_of hs hs.1 (fun n c => ?_) hs.2.2.1 rfl rfl rfl rfl rfl
    rw [getElem_set_plan]
    split
    · exact hs.2.1 _ c
    · exact hs.2.1 n c
  case talk => exact fun s _ hs => settingsInRange_of hs hs.1 hs.2.1 hs.2.2.1 rfl rfl rfl rfl rfl
  case monitor =>
    intro mask gains s hs
    unfold monitor
    split
    · exact hs
    · obtain ⟨setups, records, overrides, amplitude, p1, p1', p2, p2', conGain, -⟩ := hs
      refine ⟨setups, records, overrides, amplitude, p1, p1', p2, p2', conGain, fun b => ?_⟩
      simp only [Fin.getElem_fin, Vector.getElem_map]
      exact clamp_le (by decide)
  case haltMixer =>
    intro s hs
    refine settingsInRange_of hs (fun p => ?_) hs.2.1 hs.2.2.1 rfl rfl rfl rfl rfl
    simpa [State.haltMixer, State.port] using hs.1 p
  case runMixer => exact fun s _ hs => settingsInRange_of hs hs.1 hs.2.1 hs.2.2.1 rfl rfl rfl rfl rfl
  case setupMixer =>
    intro f s hs
    unfold setupMixer
    split
    · split
      · exact hs
      · obtain ⟨setups, records, overrides, -, -, -, -, -, -, gains⟩ := hs
        exact ⟨setups, records, overrides, clamp_le (by decide), le_clamp, clamp_le (by decide), le_clamp,
          clamp_le (by decide), clamp_le (by decide), gains⟩
    · exact hs
  case latched => exact fun s _ _ hs => settingsInRange_of hs hs.1 hs.2.1 hs.2.2.1 rfl rfl rfl rfl rfl
  case formSample =>
    intro s f slots _ _ _ hs
    obtain ⟨forming, sbout, mixer⟩ := formSample_mixer s f slots
    refine settingsInRange_of hs (fun p => ?_) ?_ ?_ ?_ ?_ ?_ ?_ ?_
    · rw [formSample_port]; exact hs.1 p
    · rw [formSample_plans]; exact hs.2.1
    · rw [formSample_dir]; exact hs.2.2.1
    all_goals first | rw [mixer] | rw [formSample_console]
  case counted =>
    intro s f cs pres late _ _ hs
    refine settingsInRange_of hs (fun p => ?_) hs.2.1 hs.2.2.1 rfl rfl rfl rfl rfl
    rw [counted_setup]; exact hs.1 p

theorem settingsInRange_apart : KeptApart State.settingsInRange where
  link _ _ hs := hs
  reset := by
    refine ⟨fun p => ?_, fun n b => ?_, fun set way e he => ?_, ?_⟩
    · simp [State.reset, State.port, Port.reset, Setup.inRange, Setup.default]
    · simp [State.reset, Record.inRange, Record.default]
    · simp [State.reset, Directory.at] at he
    · simp [State.reset, Mixer.reset]

/-! ## Bursts within the alert length (R141, R143, R161) -/

/-- The burst of one bridge: at the start of the tone where none runs, and within these frames. -/
def Bridge.burstWithin (frames : Nat) (r : Bridge) : Prop := (r.burst = 0 → r.phase = .start) ∧ r.burst ≤ frames

/-- The frames of an alert burst in a bridge (R161). -/
def State.alertFrames (s : State) (b : BridgeId) : Nat := (s.record b).alertLength * Config.framesPerSecond

theorem burstRule_iff {s : State} : s.burstRule ↔ ∀ b, (s.bridge b).burstWithin (s.alertFrames b) := Iff.rfl

theorem burstWithin_countSample {r : Bridge} {frames : Nat} (h : r.burstWithin frames) :
    r.countSample.burstWithin frames := by
  unfold Bridge.countSample
  split
  · exact h
  · next running => exact ⟨fun ended => absurd ended running, h.2⟩

/-- A running burst counts down to its last frame, which is left to its event (R142). -/
theorem completed_burst (late : Bool) (r : Bridge) :
    (r.completed late).burst = if r.burst ≤ 1 then r.burst else r.burst - 1 := by
  unfold Bridge.completed Bridge.timerCounted
  dsimp only
  split_ifs <;> (try dsimp only) <;> omega

/-- The segment of a running burst counts its frames (R141). -/
theorem completed_phase (late : Bool) (r : Bridge) : (r.completed late).phase =
    if r.burst = 0 then r.phase else { r.phase with frames := r.phase.frames + 1 } := by
  unfold Bridge.completed Bridge.timerCounted
  dsimp only
  split_ifs <;> rfl

theorem burstWithin_completed {r : Bridge} {frames : Nat} (late : Bool) (h : r.burstWithin frames) :
    (r.completed late).burstWithin frames := by
  obtain ⟨start, within⟩ := h
  unfold Bridge.burstWithin
  rw [completed_burst, completed_phase]
  constructor
  · intro ended
    have none_ran : r.burst = 0 := by split at ended <;> omega
    rw [if_pos none_ran]
    exact start none_ran
  · split <;> omega

theorem alertFrames_of_plans {s t : State} (h : t.plans = s.plans) (b : BridgeId) :
    t.alertFrames b = s.alertFrames b := by
  simp only [State.alertFrames, State.record, h]

theorem alertFrames_of_record {s t : State} {b : BridgeId} (h : t.record b = s.record b) :
    t.alertFrames b = s.alertFrames b := by
  simp only [State.alertFrames, h]

/-- Bursts, phases and records the same in two states. -/
theorem burstRule_of_same {s t : State} (burst : ∀ b, (t.bridge b).burst = (s.bridge b).burst)
    (phase : ∀ b, (t.bridge b).phase = (s.bridge b).phase) (frames : ∀ b, t.alertFrames b = s.alertFrames b)
    (hs : s.burstRule) : t.burstRule := by
  intro b
  have limit : t.alertFrames b = s.alertFrames b := frames b
  unfold State.alertFrames at limit
  rw [burst, phase, limit]
  exact hs b

theorem burstRule_of_parts {s t : State} (bridges : t.bridges = s.bridges) (plans : t.plans = s.plans)
    (hs : s.burstRule) : t.burstRule :=
  burstRule_of_same (fun b => by rw [bridge_of_bridges bridges]) (fun b => by rw [bridge_of_bridges bridges])
    (alertFrames_of_plans plans) hs

/-- One bridge written with a burst within its limit. -/
theorem burstRule_setBridge {s : State} {b : BridgeId} {r : Bridge} (hs : s.burstRule)
    (hr : r.burstWithin (s.alertFrames b)) : (s.setBridge b r).burstRule := by
  intro c
  rw [bridge_setBridge]
  split
  · next h => subst h; exact hr
  · exact hs c

theorem burstRule_reportChange {s : State} (src : Source) (hs : s.burstRule) : (s.reportChange src).burstRule := by
  refine burstRule_of_same (fun b => ?_) (fun b => ?_) (fun b => ?_) hs
  · rw [bridge_reportChange]
  · rw [bridge_reportChange]
  · exact alertFrames_of_plans (State.reportChange_plans s src) b

/-- An operation over one place, taken for all places, brings about at each what it brings about at its own and leaves
at the others. -/
theorem foldl_brings {α : Type} {f : State → α → State} {before after : α → State → Prop}
    (brings : ∀ s a, before a s → after a (f s a)) (keepsBefore : ∀ s a c, before c s → before c (f s a))
    (keepsAfter : ∀ s a c, after c s → after c (f s a)) (l : List α) {s : State} (h : ∀ a, before a s) {a : α}
    (ha : a ∈ l) : after a (l.foldl f s) := by
  induction l generalizing s with
  | nil => cases ha
  | cons x l ih =>
    rw [List.foldl_cons]
    rcases List.mem_cons.mp ha with rfl | later
    · exact KeptByOperations.foldl (fun s c => keepsAfter s c a) l (brings s a (h a))
    · exact ih (fun c => keepsBefore s x c (h c)) later

theorem adjustBurst_bridge (s : State) (b c : BridgeId) : (s.adjustBurst b).bridge c =
    if c = b ∧ s.alertFrames b < (s.bridge b).burst then { s.bridge b with
      burst := s.alertFrames b, phase := if s.alertFrames b = 0 then .start else (s.bridge b).phase }
    else s.bridge c := by
  unfold State.adjustBurst State.alertFrames
  dsimp only
  split
  · next within => rw [if_neg (fun h => absurd h.2 (Nat.not_lt.mpr within))]
  · next longer =>
    rw [bridge_reportChange, bridge_setBridge]
    simp only [Nat.lt_of_not_le longer, and_true]

theorem adjustBurst_alertFrames (s : State) (b c : BridgeId) : (s.adjustBurst b).alertFrames c = s.alertFrames c :=
  alertFrames_of_plans (settings_plans (settings_adjustBurst s b)) c

/-- A switch adjusts each burst to the length of its record (R65). -/
theorem burstRule_adjusted {t : State} (h : ∀ b, (t.bridge b).burst = 0 → (t.bridge b).phase = .start) :
    (allBridges.foldl State.adjustBurst t).burstRule := by
  rw [burstRule_iff]
  intro b
  refine foldl_brings (f := State.adjustBurst)
    (before := fun c s => (s.bridge c).burst = 0 → (s.bridge c).phase = .start)
    (after := fun c s => (s.bridge c).burstWithin (s.alertFrames c)) (fun s c start => ?_) (fun s a c start => ?_)
    (fun s a c within => ?_) allBridges h (mem_allBridges b)
  · rw [adjustBurst_bridge, adjustBurst_alertFrames]
    split
    · exact ⟨fun ended => if_pos ended, le_rfl⟩
    · next fits => exact ⟨start, by simpa using fits⟩
  · rw [adjustBurst_bridge]
    split
    · exact fun ended => if_pos ended
    · exact start
  · rw [adjustBurst_bridge, adjustBurst_alertFrames]
    split
    · next here => obtain ⟨rfl, -⟩ := here; exact ⟨fun ended => if_pos ended, le_rfl⟩
    · exact within

theorem burstRule_turned {s : State} {b : BridgeId} (phase : AlertPhase) (running : (s.bridge b).burst ≠ 0)
    (hs : s.burstRule) : (s.setBridge b { s.bridge b with phase := phase }).burstRule :=
  burstRule_setBridge hs ⟨fun ended => absurd ended running, (hs b).2⟩

theorem burstRule_kept : KeptByRest State.burstRule where
  same h hs := burstRule_of_same (rest_burst h) (rest_phase h) (alertFrames_of_plans (rest_plans h)) hs
  turnLevel s b hs := by
    unfold State.turnLevel
    dsimp only
    split
    · exact hs
    · next running => exact burstRule_turned _ running hs
  changeSegment s b hs := by
    unfold State.changeSegment
    dsimp only
    split
    · next reached =>
      refine burstRule_turned _ ?_ hs
      simp only [Bridge.segmentReached, Bool.and_eq_true, bne_iff_ne] at reached
      exact reached.1
    · exact hs
  burstStarted s b hs := by
    unfold State.burstStarted
    dsimp only
    split
    · exact burstRule_reportChange _ (burstRule_setBridge hs ⟨fun _ => rfl, le_rfl⟩)
    · next running =>
      refine burstRule_setBridge hs ⟨fun ended => ?_, le_rfl⟩
      have none_runs := (hs b).2
      have ended' : (s.record b).alertLength * Config.framesPerSecond = 0 := ended
      omega
  burstEnded s b hs :=
    burstRule_reportChange _ (burstRule_setBridge hs ⟨fun _ => rfl, Nat.zero_le _⟩)
  setup _ _ _ _ _ := burstRule_of_parts rfl rfl
  dirReport s p u _ := burstRule_of_parts (dirReport_bridges s p u) (dirReport_plans s p u)
  flagUnit _ _ _ := burstRule_of_parts rfl rfl
  written _ _ _ _ _ _ _ _ _ _ := burstRule_of_parts rfl rfl
  freed _ _ _ _ := burstRule_of_parts rfl rfl
  purged _ := burstRule_of_parts rfl rfl
  switched s t h hs := by
    refine burstRule_adjusted fun b ended => ?_
    have phase := rest_phase h b
    have burst := rest_burst h b
    rw [phase]
    rw [burst] at ended
    exact (hs b).1 ended
  pendSwitch _ := burstRule_of_same (fun _ => rfl) (fun _ => rfl) (fun _ => rfl)
  writeRecord s b _ new _ hs := burstRule_of_same (s := s) (fun _ => rfl) (fun _ => rfl)
    (fun c => alertFrames_of_record (writeRecord_record s b c new)) hs
  copyPlan s hs := burstRule_of_same (s := s) (fun _ => rfl) (fun _ => rfl)
    (fun c => alertFrames_of_record (copyPlan_record s c)) hs
  emptyBridge s b hs := by
    intro c
    have frames : (s.emptyBridge b).alertFrames c = s.alertFrames c :=
      alertFrames_of_plans (settings_plans (settings_emptyBridge s b)) c
    unfold State.alertFrames at frames
    rw [emptyBridge_bridge, frames]
    split
    · exact ⟨fun _ => rfl, Nat.zero_le _⟩
    · exact hs c
  talk _ _ := burstRule_of_parts rfl rfl
  monitor mask gains s := burstRule_of_parts (monitor_bridges mask gains s) (monitor_plans mask gains s)
  haltMixer _ := burstRule_of_parts rfl rfl
  runMixer _ _ := burstRule_of_parts rfl rfl
  setupMixer f s := burstRule_of_parts (setupMixer_bridges f s) (setupMixer_plans f s)
  latched _ _ _ := burstRule_of_parts rfl rfl
  formSample s f slots _ _ _ hs := by
    intro b
    have frames : (s.formSample f slots).alertFrames b = s.alertFrames b :=
      alertFrames_of_plans (formSample_plans s f slots) b
    unfold State.alertFrames at frames
    rw [formSample_bridge, frames]
    exact burstWithin_countSample (hs b)
  counted s _ cs pres late _ _ hs := by
    intro b
    rw [counted_bridge]
    exact burstWithin_completed _ (hs b)

theorem burstRule_apart : KeptApart State.burstRule where
  link _ _ hs := hs
  reset b := by
    rw [bridge_reset]
    exact ⟨fun _ => rfl, Nat.zero_le _⟩

end Sys2Proof.Machine
end

section
/-! SUPPORT. The bridge arbiter (spec/05), case by case: the order of a queue, what a bid, a release and a new priority
leave in their bridge, and what they report. -/

namespace Sys2Proof.Machine

/-! ## The order of a bid queue (R74) -/

/-- x stands ahead of y: higher effective priority, or equal and not younger. -/
def State.ordered (s : State) (x y : QueueEntry) : Prop := s.effPriority y.port < s.effPriority x.port
  ∨ s.effPriority x.port = s.effPriority y.port ∧ (s.bidCounter - y.stamp).toNat ≤ (s.bidCounter - x.stamp).toNat

theorem goesAhead_eq_true_iff {s : State} {a e : QueueEntry} : s.goesAhead a e = true
    ↔ s.effPriority e.port < s.effPriority a.port ∨ s.effPriority a.port = s.effPriority e.port
      ∧ (s.bidCounter - e.stamp).toNat < (s.bidCounter - a.stamp).toNat := by
  simp only [State.goesAhead, Bool.or_eq_true, Bool.and_eq_true, decide_eq_true_iff, beq_iff_eq]
  exact Iff.rfl

theorem ordered_of_goesAhead {s : State} {a e : QueueEntry} (h : s.goesAhead a e = true) : s.ordered a e := by
  rcases goesAhead_eq_true_iff.mp h with higher | ⟨equal, older⟩
  · exact .inl higher
  · exact .inr ⟨equal, older.le⟩

theorem ordered_of_not_goesAhead {s : State} {a e : QueueEntry} (h : ¬ s.goesAhead a e = true) : s.ordered e a := by
  rw [goesAhead_eq_true_iff, not_or, not_and] at h
  obtain ⟨notHigher, notOlder⟩ := h
  rcases Nat.lt_or_eq_of_le (Nat.le_of_not_lt notHigher) with lower | equal
  · exact .inl lower
  · exact .inr ⟨equal.symm, Nat.le_of_not_lt (notOlder equal)⟩

theorem ordered_trans {s : State} {x y z : QueueEntry} (h : s.ordered x y) (h' : s.ordered y z) : s.ordered x z := by
  rcases h with higher | ⟨equal, older⟩
  · rcases h' with higher' | ⟨equal', -⟩
    · exact .inl (higher'.trans higher)
    · exact .inl (equal' ▸ higher)
  · rcases h' with higher' | ⟨equal', older'⟩
    · exact .inl (equal ▸ higher')
    · exact .inr ⟨equal.trans equal', older'.trans older⟩

theorem insertEntry_perm (s : State) (e : QueueEntry) (q : List QueueEntry) : (s.insertEntry e q).Perm (e :: q) := by
  induction q with
  | nil => exact .refl _
  | cons x xs ih =>
    unfold State.insertEntry
    split
    · exact (ih.cons x).trans (.swap e x xs)
    · exact .refl _

theorem mem_insertEntry {s : State} {e x : QueueEntry} {q : List QueueEntry} :
    x ∈ s.insertEntry e q ↔ x = e ∨ x ∈ q := by
  rw [(insertEntry_perm s e q).mem_iff, List.mem_cons]

theorem sublist_insertEntry (s : State) (e : QueueEntry) (q : List QueueEntry) : q.Sublist (s.insertEntry e q) := by
  induction q with
  | nil => exact List.nil_sublist _
  | cons x xs ih =>
    unfold State.insertEntry
    split
    · exact ih.cons_cons x
    · exact List.sublist_cons_self e _

theorem pairwise_insertEntry {s : State} (e : QueueEntry) {q : List QueueEntry} (hq : q.Pairwise s.ordered) :
    (s.insertEntry e q).Pairwise s.ordered := by
  induction q with
  | nil => exact List.pairwise_singleton _ _
  | cons x xs ih =>
    obtain ⟨first, rest⟩ := List.pairwise_cons.mp hq
    unfold State.insertEntry
    split
    · next ahead =>
      refine List.pairwise_cons.mpr ⟨fun y hy => ?_, ih rest⟩
      rcases mem_insertEntry.mp hy with rfl | later
      · exact ordered_of_goesAhead ahead
      · exact first y later
    · next behind =>
      refine List.pairwise_cons.mpr ⟨fun y hy => ?_, hq⟩
      have before := ordered_of_not_goesAhead behind
      rcases List.mem_cons.mp hy with rfl | later
      · exact before
      · exact ordered_trans before (first y later)

theorem sortQueue_perm (s : State) (q : List QueueEntry) : (s.sortQueue q).Perm q := by
  induction q with
  | nil => exact .refl _
  | cons x xs ih => exact (insertEntry_perm s x _).trans (ih.cons x)

theorem pairwise_sortQueue (s : State) (q : List QueueEntry) : (s.sortQueue q).Pairwise s.ordered := by
  induction q with
  | nil => exact .nil
  | cons x xs ih => exact pairwise_insertEntry x ih

theorem effPriority_of_dir {s t : State} {p : PortId} (port : t.port p = s.port p) (dir : t.dir = s.dir) :
    t.effPriority p = s.effPriority p :=
  effPriority_congr port (by simp only [State.overrideFor, dir])

/-- The order depends on effective priorities and the bid counter alone. -/
theorem insertEntry_congr {s t : State} (ports : t.ports = s.ports) (dir : t.dir = s.dir)
    (counter : t.bidCounter = s.bidCounter) : t.insertEntry = s.insertEntry := by
  funext e q
  induction q with
  | nil => rfl
  | cons x xs ih =>
    have same (p : PortId) : t.effPriority p = s.effPriority p := effPriority_of_dir (port_of_ports ports p) dir
    have age (stamp : Stamp) : t.stampAge stamp = s.stampAge stamp := by simp only [State.stampAge, counter]
    have ahead : t.goesAhead x e = s.goesAhead x e := by simp only [State.goesAhead, same, age]
    rw [State.insertEntry, State.insertEntry, ahead, ih]

/-- Settles O20: by induction on the queue, along the insertion. -/
theorem queueInsertionKeepsTheOrder : Obligations.QueueInsertionKeepsTheOrder :=
  fun s e q => ⟨insertEntry_perm s e q, sublist_insertEntry s e q, pairwise_insertEntry e, sortQueue_perm s q,
    pairwise_sortQueue s q⟩

/-! ## An operation on one bridge -/

/-- Bridges, flags and marks alone have changed, and of the bridges one. -/
structure State.actsOn (b : BridgeId) (s t : State) : Prop where
  frame : t = { s with bridges := t.bridges, notices := { s.notices with
    flags := t.notices.flags, marks := t.notices.marks } }
  other : ∀ c : BridgeId, c ≠ b → t.bridge c = s.bridge c

namespace State.actsOn
variable {b : BridgeId} {s t u : State}

theorem refl (b : BridgeId) (s : State) : s.actsOn b s := ⟨rfl, fun _ _ => rfl⟩

theorem trans (h : s.actsOn b t) (h' : t.actsOn b u) : s.actsOn b u where
  frame := by
    have ht := h.frame
    have hu := h'.frame
    rw [ht] at hu
    exact hu
  other c hc := (h'.other c hc).trans (h.other c hc)

theorem ports (h : s.actsOn b t) : t.ports = s.ports := by rw [h.frame]

theorem dir (h : s.actsOn b t) : t.dir = s.dir := by rw [h.frame]

theorem plans (h : s.actsOn b t) : t.plans = s.plans := by rw [h.frame]

theorem bidCounter (h : s.actsOn b t) : t.bidCounter = s.bidCounter := by rw [h.frame]

theorem bids (h : s.actsOn b t) : t.bids = s.bids := by rw [h.frame]

theorem masks (h : s.actsOn b t) : t.notices.masks = s.notices.masks := by rw [h.frame]

theorem switches (h : s.actsOn b t) : t.notices.switches = s.notices.switches := by rw [h.frame]

theorem port (h : s.actsOn b t) (p : PortId) : t.port p = s.port p := port_of_ports h.ports p

theorem effPriority (h : s.actsOn b t) (p : PortId) : t.effPriority p = s.effPriority p :=
  effPriority_of_dir (h.port p) h.dir

theorem talkerPriority (h : s.actsOn b t) (who : Talker) : t.talkerPriority who = s.talkerPriority who := by
  cases who with
  | con => rfl
  | port p => exact h.effPriority p

theorem record (h : s.actsOn b t) (c : BridgeId) : t.record c = s.record c := by simp only [State.record, h.plans]

theorem grantTimer (h : s.actsOn b t) (c : BridgeId) (who : Talker) : t.grantTimer c who = s.grantTimer c who := by
  cases who with
  | con => rfl
  | port p => simp only [State.grantTimer, State.freshTimer, h.record]

theorem memberOf (h : s.actsOn b t) (p : PortId) : t.memberOf p = s.memberOf p := by
  simp only [State.memberOf, State.activeRecords, h.plans]

theorem insertEntry (h : s.actsOn b t) : t.insertEntry = s.insertEntry :=
  insertEntry_congr h.ports h.dir h.bidCounter

end State.actsOn

theorem actsOn_reportChange (s : State) (b : BridgeId) (src : Source) : s.actsOn b (s.reportChange src) where
  frame := by unfold State.reportChange; split <;> rfl
  other c _ := bridge_reportChange s src c

theorem actsOn_updateBridge (s : State) (b : BridgeId) (f : Bridge → Bridge) : s.actsOn b (s.updateBridge b f) where
  frame := by
    unfold State.updateBridge State.reportIf
    dsimp only
    split
    · exact (actsOn_reportChange (s.setBridge b _) b _).frame
    · rfl
  other c hc := State.bridge_updateBridge_ne s f hc.symm

theorem actsOn_raise (s : State) (b : BridgeId) (src : Source) (n : Nat) : s.actsOn b (s.raise src n) where
  frame := by rw [raise_eq]
  other c _ := bridge_of_bridges (State.raise_bridges s src n) c

theorem actsOn_raiseIf (s : State) (b : BridgeId) (cond : Bool) (src : Source) (n : Nat) :
    s.actsOn b (s.raiseIf cond src n) := by
  unfold State.raiseIf
  split
  · exact actsOn_raise s b src n
  · exact .refl b s

/-! ## A bid (R78 to R82) -/

/-- What stands in stack and queue once a full stack has given up its bottom entry (R81). -/
def State.spilled (s : State) (stack : List StackEntry) (queue : List QueueEntry) :
    List StackEntry × List QueueEntry :=
  if Config.stackDepth ≤ stack.length then s.spill stack queue else (stack, queue)

/-- The holder record of a fresh grant (R79). -/
def State.grant (s : State) (b : BridgeId) (who : Talker) (stamp : Stamp) : Holder :=
  ⟨who, s.talkerPriority who, stamp, s.grantTimer b who⟩

/-- A bridge whose path has been taken from its holder of the moment (R80, R81). -/
def State.preempted (s : State) (b : BridgeId) (who : Talker) (stamp : Stamp) (r : Bridge) : Bridge :=
  { r with
    holder := some (s.grant b who stamp)
    stack := (r.holder.map pushedEntry).getD [] ++ (s.spilled r.stack r.queue).1
    queue := (s.spilled r.stack r.queue).2 }

/-- The stack of a bridge without an EMPTY entry of the bidder (R78). -/
def Bridge.ownRemoved (who : Talker) (r : Bridge) : Bridge :=
  { r with stack := r.stack.filter fun e => !(who == .port e.port && e.tag == Tag.empty) }

theorem ownRemoved_port (p : PortId) : Bridge.ownRemoved (.port p) = fun r =>
    { r with stack := r.stack.filter fun e => !(e.port == p && e.tag == Tag.empty) } := by
  funext r
  have same (e : StackEntry) : (Talker.port p == Talker.port e.port) = (e.port == p) := by
    rw [Bool.eq_iff_iff, beq_iff_eq, beq_iff_eq, Talker.port.injEq, eq_comm]
  simp only [Bridge.ownRemoved, same]

section
variable {s : State} {b : BridgeId} {who : Talker} {stamp : Stamp}

theorem preempt_eq : s.preempt b who stamp = (s.updateBridge b (fun _ => s.preempted b who stamp (s.bridge b))).raiseIf
    (decide (Config.stackDepth ≤ (s.bridge b).stack.length)) (srcBridge b) flagStackOverflow := by
  unfold State.preempt State.preempted State.spilled State.grant State.updateBridge
  rcases Nat.lt_or_ge (s.bridge b).stack.length Config.stackDepth with short | full
  · simp only [Nat.not_le.mpr short, decide_false, if_neg, not_false_eq_true]
  · simp only [full, decide_true, if_true]

theorem actsOn_preempt (s : State) (b : BridgeId) (who : Talker) (stamp : Stamp) :
    s.actsOn b (s.preempt b who stamp) := by
  rw [preempt_eq]
  exact (actsOn_updateBridge s b _).trans (actsOn_raiseIf _ b _ _ _)

@[simp] theorem bridge_raise (s : State) (src : Source) (n : Nat) (c : BridgeId) :
    (s.raise src n).bridge c = s.bridge c := bridge_of_bridges (State.raise_bridges s src n) c

@[simp] theorem bridge_raiseIf (s : State) (cond : Bool) (src : Source) (n : Nat) (c : BridgeId) :
    (s.raiseIf cond src n).bridge c = s.bridge c := bridge_of_bridges (State.raiseIf_bridges s cond src n) c

theorem preempt_bridge (s : State) (b : BridgeId) (who : Talker) (stamp : Stamp) :
    (s.preempt b who stamp).bridge b = s.preempted b who stamp (s.bridge b) := by
  rw [preempt_eq, bridge_raiseIf, State.bridge_updateBridge_same]

/-- The state in which a bid's stamp has been taken and an EMPTY entry of the bidder has left the stack. -/
def State.bidding (b : BridgeId) (who : Talker) (s : State) : State :=
  let u : State := { s with bidCounter := s.bidCounter + 1 }
  match who with
  | .port _ => u.updateBridge b (Bridge.ownRemoved who)
  | .con => u

theorem actsOn_bidding (s : State) (b : BridgeId) (who : Talker) :
    ({ s with bidCounter := s.bidCounter + 1 } : State).actsOn b (s.bidding b who) := by
  cases who with
  | con => exact .refl b _
  | port p => exact actsOn_updateBridge _ b _

theorem bidding_bridge (s : State) (b : BridgeId) (who : Talker) :
    (s.bidding b who).bridge b = (s.bridge b).ownRemoved who := by
  cases who with
  | con =>
    have all : (s.bridge b).stack.filter (fun e => !(Talker.con == .port e.port && e.tag == Tag.empty))
        = (s.bridge b).stack := List.filter_eq_self.mpr fun e _ => rfl
    rw [Bridge.ownRemoved, all]
    rfl
  | port p => exact State.bridge_updateBridge_same _ b _

theorem ownRemoved_holder (r : Bridge) (who : Talker) : (r.ownRemoved who).holder = r.holder := rfl

theorem ownRemoved_queue (r : Bridge) (who : Talker) : (r.ownRemoved who).queue = r.queue := rfl

/-- A holder that is outranked by a bidder, where the bridge lets one be preempted; the console outranks any (R80,
R82). -/
def State.outranked (s : State) (b : BridgeId) (who : Talker) (h : Holder) : Prop :=
  who = .con ∨ (s.record b).preempt = true ∧ h.priority < s.talkerPriority who

theorem State.actsOn.outranked {t : State} {c : BridgeId} (a : s.actsOn c t) (h : Holder) :
    t.outranked b who h ↔ s.outranked b who h := by
  simp only [State.outranked, a.record, a.talkerPriority]

/-- The three outcomes of a bid. -/
inductive Bids (b : BridgeId) (who : Talker) (s t : State) : Prop
  | granted (free : (s.bridge b).holder = none) (result : t = (s.bidding b who).updateBridge b fun r =>
      { r with holder := some ((s.bidding b who).grant b who (s.bidCounter + 1)) })
  | preempts (h : Holder) (held : (s.bridge b).holder = some h) (above : s.outranked b who h)
      (result : t = (s.bidding b who).preempt b who (s.bidCounter + 1))
  | queued (h : Holder) (p : PortId) (held : (s.bridge b).holder = some h) (radio : who = .port p)
      (under : ¬ s.outranked b who h) (result : t = (s.bidding b who).updateBridge b fun r =>
      { r with queue := (s.bidding b who).insertEntry ⟨p, s.bidCounter + 1⟩ r.queue })

theorem bid_eq (s : State) (b : BridgeId) (who : Talker) : s.bid b who =
    match ((s.bidding b who).bridge b).holder with
    | none => (s.bidding b who).updateBridge b fun r =>
        { r with holder := some ((s.bidding b who).grant b who (s.bidCounter + 1)) }
    | some h => match who with
      | .con => (s.bidding b .con).preempt b .con (s.bidCounter + 1)
      | .port p =>
        if ((s.bidding b (.port p)).record b).preempt && decide (h.priority < (s.bidding b (.port p)).effPriority p)
        then (s.bidding b (.port p)).preempt b (.port p) (s.bidCounter + 1)
        else (s.bidding b (.port p)).updateBridge b fun r =>
          { r with queue := (s.bidding b (.port p)).insertEntry ⟨p, s.bidCounter + 1⟩ r.queue } := by
  cases who with
  | con => rfl
  | port p =>
    simp only [State.bidding, ownRemoved_port]
    rfl

theorem bid_cases (s : State) (b : BridgeId) (who : Talker) : Bids b who s (s.bid b who) := by
  have counted : ({ s with bidCounter := s.bidCounter + 1 } : State).actsOn b
    (s.bidding b who) := actsOn_bidding s b who
  have holder : ((s.bidding b who).bridge b).holder = (s.bridge b).holder := by rw [bidding_bridge]; rfl
  have outcome := bid_eq s b who
  cases held : ((s.bidding b who).bridge b).holder with
  | none =>
    rw [held] at outcome
    exact .granted (holder.symm.trans held) outcome
  | some h =>
    rw [held] at outcome
    rw [holder] at held
    cases who with
    | con => exact .preempts h held (.inl rfl) outcome
    | port p =>
      have outranked : (((s.bidding b (.port p)).record b).preempt
          && decide (h.priority < (s.bidding b (.port p)).effPriority p)) = true ↔ s.outranked b (.port p) h := by
        rw [counted.record, counted.effPriority, Bool.and_eq_true, decide_eq_true_iff]
        exact ⟨.inr, fun above => above.resolve_left nofun⟩
      dsimp only at outcome
      split at outcome
      · next yes => exact .preempts h held (outranked.mp yes) outcome
      · next no => exact .queued h p held rfl (fun above => no (outranked.mpr above)) outcome


theorem preempted_congr {t : State} {c : BridgeId} (a : s.actsOn c t) (r : Bridge) :
    t.preempted b who stamp r = s.preempted b who stamp r := by
  simp only [State.preempted, State.grant, State.spilled, State.spill, a.talkerPriority, a.grantTimer, a.insertEntry]

theorem actsOn_bid (s : State) (b : BridgeId) (who : Talker) :
    ({ s with bidCounter := s.bidCounter + 1 } : State).actsOn b (s.bid b who) := by
  refine (actsOn_bidding s b who).trans ?_
  cases bid_cases s b who with
  | granted free result => rw [result]; exact actsOn_updateBridge _ b _
  | preempts h held above result => rw [result]; exact actsOn_preempt _ b who _
  | queued h p held radio under result => rw [result]; exact actsOn_updateBridge _ b _

theorem bid_bridge_ne {c : BridgeId} (h : c ≠ b) : (s.bid b who).bridge c = s.bridge c :=
  (actsOn_bid s b who).other c h

theorem bid_bridge_of_free (free : (s.bridge b).holder = none) : (s.bid b who).bridge b =
    { (s.bridge b).ownRemoved who with holder := some (s.grant b who (s.bidCounter + 1)) } := by
  have counted : ({ s with bidCounter := s.bidCounter + 1 } : State).actsOn b
    (s.bidding b who) := actsOn_bidding s b who
  have grant : (s.bidding b who).grant b who (s.bidCounter + 1) = s.grant b who (s.bidCounter + 1) := by
    rw [State.grant, counted.talkerPriority, counted.grantTimer]
    cases who <;> rfl
  cases bid_cases s b who with
  | granted _ result => rw [result, State.bridge_updateBridge_same, bidding_bridge, grant]
  | preempts h held => rw [free] at held; cases held
  | queued h p held => rw [free] at held; cases held

theorem bid_bridge_of_outranked {h : Holder} (held : (s.bridge b).holder = some h) (above : s.outranked b who h) :
    (s.bid b who).bridge b = ({ s with bidCounter := s.bidCounter + 1 } : State).preempted b who (s.bidCounter + 1)
      ((s.bridge b).ownRemoved who) := by
  cases bid_cases s b who with
  | granted free => rw [free] at held; cases held
  | preempts _ _ _ result => rw [result, preempt_bridge, bidding_bridge, preempted_congr (actsOn_bidding s b who)]
  | queued h' p held' radio under => rw [held] at held'; cases held'; exact absurd above under

theorem bid_bridge_of_under {h : Holder} {p : PortId} (held : (s.bridge b).holder = some h)
    (under : ¬ s.outranked b (.port p) h) : (s.bid b (.port p)).bridge b = { (s.bridge b).ownRemoved (.port p) with
      queue := ({ s with bidCounter := s.bidCounter + 1 } : State).insertEntry ⟨p, s.bidCounter + 1⟩
        (s.bridge b).queue } := by
  cases bid_cases s b (.port p) with
  | granted free => rw [free] at held; cases held
  | preempts h' held' above => rw [held] at held'; cases held'; exact absurd above under
  | queued h' q held' radio _ result =>
    cases radio
    rw [result, State.bridge_updateBridge_same, bidding_bridge, (actsOn_bidding s b (.port p)).insertEntry]
    rfl

end

/-! ## What an operation on one bridge reports (R81, R92, R174) -/

/-- The source's one flag is set where a full stack has spilled, and its notice is pending where a reportable change or
that flag has come about and is not held back. -/
def State.stackReported (spills : Bool) (b : BridgeId) (s t : State) : Prop := ∀ src : Source,
  (∀ i : Nat, t.notices.flags[src].getLsbD i = (s.notices.flags[src].getLsbD i
    || decide (src = srcBridge b ∧ i = flagStackOverflow ∧ spills = true)))
  ∧ t.notices.marks[src] = (s.notices.marks[src] || decide (src = srcBridge b
    ∧ (s.notices.switches[src] = true ∧ (s.bridge b).sameReported (t.bridge b) = false ∨ spills = true
      ∧ s.notices.flags[src].getLsbD flagStackOverflow = false
      ∧ s.notices.masks[src].getLsbD flagStackOverflow = false)))

theorem reportChange_marks (s : State) (src other : Source) : (s.reportChange src).notices.marks[other]
    = (s.notices.marks[other] || decide (other = src ∧ s.notices.switches[src] = true)) := by
  unfold State.reportChange
  split
  · next on =>
    rw [State.setPending, getElem_set_source, on]
    by_cases here : other = src <;> simp [here]
  · next off => simp [off]

theorem reportIf_marks (s : State) (changed : Bool) (src other : Source) : (s.reportIf changed src).notices.marks[other]
    = (s.notices.marks[other] || decide (other = src ∧ changed = true ∧ s.notices.switches[src] = true)) := by
  unfold State.reportIf
  split
  · next yes => rw [reportChange_marks]; simp [yes]
  · next no => simp [no]

theorem updateBridge_marks (s : State) (b : BridgeId) (f : Bridge → Bridge) (src : Source) :
    (s.updateBridge b f).notices.marks[src] = (s.notices.marks[src] || decide (src = srcBridge b
      ∧ (s.bridge b).sameReported (f (s.bridge b)) = false ∧ s.notices.switches[srcBridge b] = true)) := by
  unfold State.updateBridge
  dsimp only
  rw [reportIf_marks]
  simp only [Bool.not_eq_true']
  rfl

theorem Bridge.sameReported_refl (r : Bridge) : r.sameReported r = true :=
  Bridge.sameReported_iff.mpr ⟨rfl, rfl, rfl⟩

section
variable {s t u : State} {b : BridgeId}

theorem stackReported_refl (b : BridgeId) (s : State) : s.stackReported false b s := by
  intro src
  simp [Bridge.sameReported_refl]

theorem stackReported_updateBridge (s : State) (b : BridgeId) (f : Bridge → Bridge) :
    s.stackReported false b (s.updateBridge b f) := by
  intro src
  rw [State.updateBridge_flags, updateBridge_marks, State.bridge_updateBridge_same]
  refine ⟨fun i => by simp, ?_⟩
  congr 1
  rw [decide_eq_decide]
  constructor
  · rintro ⟨rfl, changed, on⟩
    exact ⟨rfl, .inl ⟨on, changed⟩⟩
  · rintro ⟨rfl, ⟨on, changed⟩ | ⟨⟨⟩, -⟩⟩
    exact ⟨rfl, changed, on⟩

/-- A spill beside what has been reported. -/
theorem stackReported_raiseIf (spills : Bool) (acts : s.actsOn b t) (h : s.stackReported false b t) :
    s.stackReported spills b (t.raiseIf spills (srcBridge b) flagStackOverflow) := by
  cases spills with
  | false => exact h
  | true =>
    intro src
    obtain ⟨flags, marks⟩ := h src
    have overflow : t.notices.flags[srcBridge b].getLsbD flagStackOverflow
        = s.notices.flags[srcBridge b].getLsbD flagStackOverflow := by
      rw [(h (srcBridge b)).1]; simp
    rw [bridge_raiseIf]
    simp only [State.raiseIf, if_true]
    refine ⟨fun i => ?_, ?_⟩
    · rw [getLsbD_raise_flags (by decide), flags]
      simp
    · rw [raise_marks, marks, overflow, acts.masks, Bool.or_assoc, ← Bool.decide_or]
      congr 1
      rw [decide_eq_decide]
      constructor
      · rintro (⟨rfl, change⟩ | ⟨rfl, clear, unmasked⟩)
        · exact ⟨rfl, .inl (change.resolve_right nofun)⟩
        · exact ⟨rfl, .inr ⟨trivial, clear, unmasked⟩⟩
      · rintro ⟨rfl, change | ⟨-, clear, unmasked⟩⟩
        · exact .inl ⟨rfl, .inl change⟩
        · exact .inr ⟨rfl, clear, unmasked⟩

theorem Bridge.sameReported_symm {q r : Bridge} (h : q.sameReported r = true) : r.sameReported q = true := by
  obtain ⟨holder, stack, queue⟩ := Bridge.sameReported_iff.mp h
  exact Bridge.sameReported_iff.mpr ⟨holder.symm, stack.symm, queue.symm⟩

theorem Bridge.sameReported_trans {q r x : Bridge} (h : q.sameReported r = true) (h' : r.sameReported x = true) :
    q.sameReported x = true := by
  obtain ⟨holder, stack, queue⟩ := Bridge.sameReported_iff.mp h
  obtain ⟨holder', stack', queue'⟩ := Bridge.sameReported_iff.mp h'
  exact Bridge.sameReported_iff.mpr ⟨holder.trans holder', stack.trans stack', queue.trans queue'⟩

/-- Two changes of a bridge are one, where the second does not undo the first. -/
theorem State.stackReported.trans {spills : Bool} (acts : s.actsOn b t) (h : s.stackReported false b t)
    (h' : t.stackReported spills b u) (keeps : (s.bridge b).sameReported (u.bridge b) = true →
      (s.bridge b).sameReported (t.bridge b) = true) : s.stackReported spills b u := by
  have same : (s.bridge b).sameReported (u.bridge b) = true
      ↔ (s.bridge b).sameReported (t.bridge b) = true ∧ (t.bridge b).sameReported (u.bridge b) = true :=
    ⟨fun all => ⟨keeps all, Bridge.sameReported_trans (Bridge.sameReported_symm (keeps all)) all⟩,
      fun both => Bridge.sameReported_trans both.1 both.2⟩
  intro src
  obtain ⟨flags, marks⟩ := h src
  obtain ⟨flags', marks'⟩ := h' src
  have kept (i : Nat) : t.notices.flags[src].getLsbD i = s.notices.flags[src].getLsbD i := by rw [flags]; simp
  refine ⟨fun i => by rw [flags', kept], ?_⟩
  rw [marks', marks, acts.switches, acts.masks, kept, Bool.or_assoc, ← Bool.decide_or]
  congr 1
  rw [decide_eq_decide]
  simp only [← Bool.not_eq_true, same, not_and_or]
  tauto

end

end Sys2Proof.Machine
end

section
/-! SUPPORT. A bid, a release and a new priority at one bridge, said as the rules say them (R77 to R85). -/

namespace Sys2Proof.Machine

section
variable {s : State} {b : BridgeId} {who : Talker}

/-! ## Taking the path (R80, R81) -/

theorem spilled_of_short {stack : List StackEntry} (short : stack.length < 4) (queue : List QueueEntry) :
    s.spilled stack queue = (stack, queue) :=
  if_neg (Nat.not_le.mpr short)

theorem spilled_concat {rest : List StackEntry} {bottom : StackEntry} (full : 4 ≤ (rest ++ [bottom]).length)
    (queue : List QueueEntry) : s.spilled (rest ++ [bottom]) queue =
      (rest, if bottom.tag = Tag.valid then s.insertEntry ⟨bottom.port, bottom.stamp⟩ queue else queue) := by
  have long : Config.stackDepth ≤ (rest ++ [bottom]).length := full
  rw [State.spilled, if_pos long, State.spill, List.getLast?_concat]
  simp only [List.dropLast_concat]

theorem spilled_stack_subset (s : State) (stack : List StackEntry) (queue : List QueueEntry) :
    (s.spilled stack queue).1 ⊆ stack := by
  unfold State.spilled State.spill
  split
  · split
    · exact List.dropLast_subset stack
    · exact List.Subset.refl _
  · exact List.Subset.refl _

theorem valid_of_mem_pushed {h : Holder} {e : StackEntry} (he : e ∈ pushedEntry h) : e.tag = .valid := by
  unfold pushedEntry at he
  split at he
  · rw [List.mem_singleton.mp he]
  · cases he

theorem stackReported_preempt (s : State) (b : BridgeId) (who : Talker) (stamp : Stamp) :
    s.stackReported (decide (4 ≤ (s.bridge b).stack.length)) b (s.preempt b who stamp) := by
  rw [preempt_eq]
  exact stackReported_raiseIf _ (actsOn_updateBridge s b _) (stackReported_updateBridge s b _)

theorem insertEntry_ne_self (s : State) (e : QueueEntry) (q : List QueueEntry) : s.insertEntry e q ≠ q := by
  intro same
  have longer := (insertEntry_perm s e q).length_eq
  rw [same] at longer
  simp at longer

/-! ## A bid (R78 to R82) -/

/-- A bid of one that is not the holder changes the holder or the queue. -/
theorem bid_reported (h : ∀ h, (s.bridge b).holder = some h → h.who ≠ who) :
    (s.bridge b).sameReported ((s.bid b who).bridge b) = false := by
  refine Bool.eq_false_of_not_eq_true fun same => ?_
  obtain ⟨holder, queue, -⟩ := Bridge.sameReported_iff.mp same
  cases held : (s.bridge b).holder with
  | none =>
    rw [bid_bridge_of_free held, held] at holder
    cases holder
  | some x =>
    by_cases above : s.outranked b who x
    · rw [bid_bridge_of_outranked held above, held] at holder
      exact h x held (Option.some.inj holder)
    · cases who with
      | con => exact above (.inl rfl)
      | port p =>
        rw [bid_bridge_of_under held above] at queue
        exact insertEntry_ne_self _ _ _ queue.symm

/-- What a bid reports. -/
theorem bid_stackReported (s : State) (b : BridgeId) (who : Talker) (spills : Bool)
    (h : spills = true ↔ 4 ≤ ((s.bridge b).ownRemoved who).stack.length
      ∧ ∃ h, (s.bridge b).holder = some h ∧ s.outranked b who h) : s.stackReported spills b (s.bid b who) := by
  have begun : s.stackReported false b (s.bidding b who) := by
    cases who with
    | con => exact stackReported_refl b s
    | port p => exact stackReported_updateBridge { s with bidCounter := s.bidCounter + 1 } b _
  -- the bid counter is no part of what an operation on a bridge is measured by
  have from_s {x : Bool} {t : State} (counted : ({ s with bidCounter := s.bidCounter + 1 } :
    State).stackReported x b t) :
      s.stackReported x b t := counted
  have acts := actsOn_bidding s b who
  have reports (t : State) (next : (s.bidding b who).stackReported spills b t)
      (keeps : (s.bridge b).sameReported (t.bridge b) = true →
        (s.bridge b).sameReported ((s.bridge b).ownRemoved who) = true) : s.stackReported spills b t := by
    refine from_s (State.stackReported.trans acts begun next ?_)
    rw [bidding_bridge]
    exact keeps
  cases bid_cases s b who with
  | granted free result =>
    have quiet : spills = false := by
      refine Bool.eq_false_of_not_eq_true fun yes => ?_
      obtain ⟨-, x, held, -⟩ := h.mp yes
      rw [free] at held
      cases held
    rw [quiet] at reports ⊢
    rw [result]
    refine reports _ (stackReported_updateBridge _ b _) fun same => ?_
    obtain ⟨holder, -, -⟩ := Bridge.sameReported_iff.mp same
    rw [State.bridge_updateBridge_same, free] at holder
    cases holder
  | preempts x held above result =>
    have full : spills = decide (4 ≤ ((s.bidding b who).bridge b).stack.length) := by
      rw [Bool.eq_iff_iff, h, decide_eq_true_iff, bidding_bridge]
      exact ⟨And.left, fun long => ⟨long, x, held, above⟩⟩
    rw [result]
    refine reports _ (full ▸ stackReported_preempt _ b who _) fun same => ?_
    obtain ⟨-, -, stack⟩ := Bridge.sameReported_iff.mp same
    rw [preempt_bridge, bidding_bridge] at stack
    have none_removed : (s.bridge b).ownRemoved who = s.bridge b := by
      have all : (s.bridge b).stack.filter (fun e => !(who == .port e.port && e.tag == Tag.empty))
          = (s.bridge b).stack := by
        refine List.filter_eq_self.mpr fun e he => ?_
        by_contra own
        simp only [Bool.not_eq_true', Bool.not_eq_false, Bool.and_eq_true, beq_iff_eq] at own
        have seen : (e.port, e.tag, e.stamp) ∈ stackView (s.bridge b).stack := List.mem_map.mpr ⟨e, he, rfl⟩
        rw [stack] at seen
        obtain ⟨y, hy, view⟩ := List.mem_map.mp seen
        simp only [Prod.mk.injEq] at view
        obtain ⟨port, tag, -⟩ := view
        rcases List.mem_append.mp hy with pushed | left
        · cases holder : ((s.bridge b).ownRemoved who).holder with
          | none => rw [holder] at pushed; cases pushed
          | some z =>
            rw [holder] at pushed
            have valid := valid_of_mem_pushed pushed
            rw [tag, own.2] at valid
            cases valid
        · have kept := (List.mem_filter.mp (spilled_stack_subset _ _ _ left)).2
          rw [port, tag] at kept
          simp [own.1, own.2] at kept
      rw [Bridge.ownRemoved, all]
    rw [none_removed]
    exact Bridge.sameReported_refl _
  | queued x p held radio under result =>
    have quiet : spills = false := by
      refine Bool.eq_false_of_not_eq_true fun yes => ?_
      obtain ⟨-, y, held', above⟩ := h.mp yes
      rw [held] at held'
      cases held'
      exact under above
    rw [quiet] at reports ⊢
    rw [result]
    refine reports _ (stackReported_updateBridge _ b _) fun same => ?_
    obtain ⟨-, queue, -⟩ := Bridge.sameReported_iff.mp same
    rw [State.bridge_updateBridge_same, bidding_bridge] at queue
    exact absurd queue.symm (insertEntry_ne_self _ _ _)

theorem pushed_eq {h : Holder} {pushed : List StackEntry}
    (radio : ∀ p : PortId, h.who = .port p → pushed = [⟨p, .valid, h.timer, h.stamp⟩])
    (console : h.who = .con → pushed = []) : pushed = pushedEntry h := by
  unfold pushedEntry
  split
  · next p who => exact radio p who
  · next who => exact console who

/-- Settles O21: the three outcomes of a bid, bridge by bridge, and what each reports. -/
theorem bidIsGrantedPreemptsOrQueues : Obligations.BidIsGrantedPreemptsOrQueues := by
  rintro s u t b who own timer new rfl rfl rfl console radio rfl
  have acts := actsOn_bid s b who
  have grant : (⟨who, s.talkerPriority who, s.bidCounter + 1, timer⟩ : Holder) = s.grant b who (s.bidCounter + 1) := by
    have timed : timer = s.grantTimer b who := by
      cases who with
      | con => exact console rfl
      | port p => exact radio nofun
    rw [timed]
    rfl
  rw [grant]
  refine ⟨acts.bidCounter, acts.ports, acts.other, bid_backdrop s b who, acts.frame, bid_reported,
    fun spills when => bid_stackReported s b who spills when, bid_bridge_of_free, fun h held => ⟨?_, ?_⟩⟩
  · rintro p rfl under
    refine bid_bridge_of_under held fun above => ?_
    obtain ⟨preempt, lower⟩ := above.resolve_left nofun
    rcases under with off | notBelow
    · rw [off] at preempt; cases preempt
    · exact absurd lower (Nat.not_lt.mpr notBelow)
  · intro above pushed radioPushed consolePushed
    rw [bid_bridge_of_outranked held above, pushed_eq radioPushed consolePushed]
    have counted : ({ s with bidCounter := s.bidCounter + 1 } : State).grant b who (s.bidCounter + 1)
        = s.grant b who (s.bidCounter + 1) := by cases who <;> rfl
    have left : ((s.bridge b).ownRemoved who).stack
        = (s.bridge b).stack.filter fun e => !(who == .port e.port && e.tag == .empty) := rfl
    refine ⟨fun short => ?_, fun rest bottom split full => ⟨?_, fun empty => ?_, fun valid => ?_⟩⟩
    · rw [State.preempted, left, spilled_of_short short, counted, ownRemoved_holder, held]
      rfl
    · have overflow := (bid_stackReported s b who true
        ⟨fun _ => ⟨full, h, held, above⟩, fun _ => rfl⟩ (srcBridge b)).1 flagStackOverflow
      rw [overflow]
      simp
    · rw [State.preempted, left, split, spilled_concat (split ▸ full), counted, ownRemoved_holder, held, empty]
      rfl
    · rw [State.preempted, left, split, spilled_concat (split ▸ full), counted, ownRemoved_holder, held, valid]
      rfl

/-! ## A release (R85) -/

/-- The entries of a stack from its first VALID one on. -/
def Bridge.waiting (r : Bridge) : List StackEntry := r.stack.dropWhile fun e => decide (e.tag = .empty)

/-- The three outcomes of a release: no candidate, the stack top resumes, the queue head is granted. -/
inductive Releases (s : State) (b : BridgeId) (r : Bridge) (r' : Bridge) : Prop
  | freed (stack : r.waiting = []) (queue : r.queue = [])
      (result : r' = { r with holder := none, stack := [], queue := [] })
  | resumed (e : StackEntry) (below : List StackEntry) (stack : r.waiting = e :: below)
      (first : ∀ x : QueueEntry, r.queue.head? = some x → s.effPriority x.port ≤ s.effPriority e.port)
      (result : r' = { r with
        holder := some ⟨.port e.port, s.effPriority e.port, e.stamp, e.saved⟩, stack := below })
  | granted (x : QueueEntry) (behind : List QueueEntry) (queue : r.queue = x :: behind)
      (first : ∀ e : StackEntry, r.waiting.head? = some e → s.effPriority e.port < s.effPriority x.port)
      (result : r' = { r with
        holder := some ⟨.port x.port, s.effPriority x.port, x.stamp, s.freshTimer b⟩
        stack := r.waiting, queue := behind })

theorem release_cases (s : State) (b : BridgeId) : Releases s b (s.bridge b) ((s.release b).bridge b) := by
  unfold State.release
  rw [State.bridge_updateBridge_same]
  dsimp only
  split
  · next stack queue => exact .freed stack queue (by rw [queue])
  · next e below stack queue => exact .resumed e below stack (by rw [queue]; exact nofun) rfl
  · next x behind stack queue =>
    refine .granted x behind queue ?_ (by rw [Bridge.waiting, stack])
    rw [Bridge.waiting, stack]
    exact nofun
  · next e below x behind stack queue =>
    split
    · next low => exact .resumed e below stack (fun y hy => by rw [queue] at hy; cases hy; exact low) rfl
    · next high =>
      refine .granted x behind queue (fun y hy => ?_) (by rw [Bridge.waiting, stack])
      rw [Bridge.waiting, stack] at hy
      cases hy
      exact Nat.lt_of_not_le high

theorem actsOn_release (s : State) (b : BridgeId) : s.actsOn b (s.release b) := actsOn_updateBridge s b _

theorem bridgeReported_updateBridge (s : State) (b : BridgeId) (f : Bridge → Bridge) :
    s.updateBridge b f = s.bridgeReported false b (f (s.bridge b)) := by
  unfold State.updateBridge State.bridgeReported State.reportIf State.reportChange State.marksIf
  dsimp only
  rw [Bool.false_or]
  cases same : (s.bridge b).sameReported (f (s.bridge b)) with
  | true => simp only [Bool.not_true, Bool.false_eq_true, if_false, Bool.false_and]; rfl
  | false =>
    simp only [Bool.not_false, if_true, Bool.true_and]
    cases on : s.notices.switches[srcBridge b] with
    | true =>
      have on' : (s.setBridge b (f (s.bridge b))).notices.switches[srcBridge b] = true := on
      rw [if_pos on', if_pos rfl]
      rfl
    | false =>
      have off' : ¬ (s.setBridge b (f (s.bridge b))).notices.switches[srcBridge b] = true := by
        rw [Bool.not_eq_true]; exact on
      rw [if_neg off', if_neg Bool.false_ne_true]
      rfl

/-- Settles O22: the outcomes of a release, told apart by the stack from its first VALID entry on and by the queue. -/
theorem releaseGivesThePathToTheBestWaiting : Obligations.ReleaseGivesThePathToTheBestWaiting := by
  rintro s t b waiting rfl rfl
  have outcome := release_cases s b
  refine ⟨?_, fun none_stacked none_queued => ?_, fun e below stacked first => ?_, fun x behind queued first => ?_⟩
  · have eq := bridgeReported_updateBridge s b
    unfold State.release
    rw [State.bridge_updateBridge_same]
    exact eq _
  · cases outcome with
    | freed stack queue result => exact result
    | resumed e below stack => exact absurd (none_stacked.symm.trans stack) nofun
    | granted x behind queue => rw [none_queued] at queue; cases queue
  · cases outcome with
    | freed stack => exact absurd (stacked.symm.trans stack) nofun
    | resumed e' below' stack _ result =>
      obtain ⟨rfl, rfl⟩ := List.cons.inj (stacked.symm.trans stack)
      exact result
    | granted x behind queue higher =>
      have above := higher e (by rw [Bridge.waiting, stacked]; rfl)
      have notAbove := first x (by rw [queue]; rfl)
      omega
  · cases outcome with
    | freed stack queue => rw [queued] at queue; cases queue
    | resumed e below stack notHigher =>
      have above := first e (by rw [show List.dropWhile _ _ = _ from stack]; rfl)
      have notAbove := notHigher x (by rw [queued]; rfl)
      omega
    | granted x' behind' queue _ result =>
      rw [queued] at queue
      cases queue
      exact result

/-! ## A new effective priority (R77) -/

/-- The outcomes of a new effective priority at its arbiter. -/
inductive TakesPriority (s : State) (b : BridgeId) (p : PortId) (t : State) : Prop
  | unplaced (absent : ∀ h, (s.bridge b).holder = some h → h.who ≠ .port p ∧ ∀ e ∈ (s.bridge b).queue, e.port ≠ p)
      (result : t = s)
  | holding (h : Holder) (held : (s.bridge b).holder = some h) (who : h.who = .port p)
      (result : t = s.updateBridge b fun r => { r with holder := some { h with priority := s.effPriority p } })
  | resorted (h : Holder) (e : QueueEntry) (held : (s.bridge b).holder = some h) (who : h.who ≠ .port p)
      (queued : (s.bridge b).queue.find? (·.port == p) = some e) (under : ¬ s.outranked b (.port p) h)
      (result : t = s.updateBridge b fun r => { r with queue := s.sortQueue r.queue })
  | preempts (h : Holder) (e : QueueEntry) (held : (s.bridge b).holder = some h) (who : h.who ≠ .port p)
      (queued : (s.bridge b).queue.find? (·.port == p) = some e) (above : s.outranked b (.port p) h)
      (result : t = ((s.updateBridge b fun r => { r with queue := s.sortQueue r.queue }).updateBridge b fun r =>
        { r with queue := r.queue.filter fun x => !(x.port == p) }).preempt b (.port p) e.stamp)

theorem takePriority_cases (s : State) (b : BridgeId) (p : PortId) : TakesPriority s b p (s.takePriority b p) := by
  unfold State.takePriority
  cases held : (s.bridge b).holder with
  | none => exact .unplaced (fun h some_holds => absurd (held.symm.trans some_holds) nofun) rfl
  | some h =>
    dsimp only
    split
    · next who => exact .holding h held who rfl
    · next who =>
      split
      · next absent =>
        refine .unplaced (fun h' held' => ?_) rfl
        rw [held] at held'
        cases held'
        exact ⟨who, fun e he => by simpa using List.find?_eq_none.mp absent e he⟩
      · next e queued =>
        have sorted : s.actsOn b (s.updateBridge b fun r => { r with queue := s.sortQueue r.queue }) :=
          actsOn_updateBridge s b _
        have outranked : (((s.updateBridge b fun r => { r with queue := s.sortQueue r.queue }).record b).preempt
            && decide (h.priority < (s.updateBridge b fun r => { r with queue := s.sortQueue r.queue }).effPriority p))
            = true ↔ s.outranked b (.port p) h := by
          rw [sorted.record, sorted.effPriority, Bool.and_eq_true, decide_eq_true_iff]
          exact ⟨.inr, fun above => above.resolve_left nofun⟩
        split
        · next yes => exact .preempts h e held who queued (outranked.mp yes) rfl
        · next no => exact .resorted h e held who queued (fun above => no (outranked.mpr above)) rfl

theorem actsOn_takePriority (s : State) (b : BridgeId) (p : PortId) : s.actsOn b (s.takePriority b p) := by
  cases takePriority_cases s b p with
  | unplaced _ result => rw [result]; exact .refl b s
  | holding h _ _ result => rw [result]; exact actsOn_updateBridge s b _
  | resorted h e _ _ _ _ result => rw [result]; exact actsOn_updateBridge s b _
  | preempts h e _ _ _ _ result =>
    rw [result]
    exact ((actsOn_updateBridge s b _).trans (actsOn_updateBridge _ b _)).trans (actsOn_preempt _ b _ _)

section
variable {p : PortId} {h : Holder} {e : QueueEntry}

theorem takePriority_of_unplaced (queue : ∀ e ∈ (s.bridge b).queue, e.port ≠ p)
    (holder : ∀ h, (s.bridge b).holder = some h → h.who ≠ .port p) : s.takePriority b p = s := by
  have absent (e : QueueEntry) (queued : (s.bridge b).queue.find? (·.port == p) = some e) : False :=
    queue e (List.mem_of_find?_eq_some queued) (by simpa using List.find?_some queued)
  cases takePriority_cases s b p with
  | unplaced _ result => exact result
  | holding h held who => exact absurd who (holder h held)
  | resorted h e _ _ queued => exact (absent e queued).elim
  | preempts h e _ _ queued => exact (absent e queued).elim

theorem takePriority_of_holding (held : (s.bridge b).holder = some h) (who : h.who = .port p) :
    s.takePriority b p = s.updateBridge b fun r => { r with holder := some { h with priority := s.effPriority p } } :=
      by
  cases takePriority_cases s b p with
  | unplaced absent => exact absurd who (absent h held).1
  | holding h' held' _ result => rw [held] at held'; cases held'; exact result
  | resorted h' _ held' other => rw [held] at held'; cases held'; exact absurd who other
  | preempts h' _ held' other => rw [held] at held'; cases held'; exact absurd who other

theorem takePriority_of_under (held : (s.bridge b).holder = some h) (who : h.who ≠ .port p)
    (queued : (s.bridge b).queue.find? (·.port == p) = some e) (under : ¬ s.outranked b (.port p) h) :
    s.takePriority b p = s.updateBridge b fun r => { r with queue := s.sortQueue r.queue } := by
  have present : e.port = p := by simpa using List.find?_some queued
  cases takePriority_cases s b p with
  | unplaced absent => exact absurd present ((absent h held).2 e (List.mem_of_find?_eq_some queued))
  | holding h' held' here => rw [held] at held'; cases held'; exact absurd here who
  | resorted h' e' _ _ _ _ result => exact result
  | preempts h' e' held' _ _ above => rw [held] at held'; cases held'; exact absurd above under

/-- A queued port that outranks the holder: its entry leaves the sorted queue, and it preempts under its stamp. -/
theorem takePriority_bridge_of_outranked (held : (s.bridge b).holder = some h) (who : h.who ≠ .port p)
    (queued : (s.bridge b).queue.find? (·.port == p) = some e) (above : s.outranked b (.port p) h) :
    (s.takePriority b p).bridge b = s.preempted b (.port p) e.stamp { s.bridge b with
      queue := (s.sortQueue (s.bridge b).queue).filter fun x => !(x.port == p) } := by
  have present : e.port = p := by simpa using List.find?_some queued
  cases takePriority_cases s b p with
  | unplaced absent => exact absurd present ((absent h held).2 e (List.mem_of_find?_eq_some queued))
  | holding h' held' here => rw [held] at held'; cases held'; exact absurd here who
  | resorted h' e' held' _ _ under => rw [held] at held'; cases held'; exact absurd above under
  | preempts h' e' _ _ queued' _ result =>
    rw [queued] at queued'
    cases queued'
    rw [result, preempt_bridge, State.bridge_updateBridge_same, State.bridge_updateBridge_same,
      preempted_congr ((actsOn_updateBridge s b _).trans (actsOn_updateBridge _ b _))]

/-- What a new effective priority reports. -/
theorem takePriority_stackReported (s : State) (b : BridgeId) (p : PortId) (spills : Bool)
    (h : spills = true ↔ 4 ≤ (s.bridge b).stack.length ∧ (s.record b).preempt = true
      ∧ (∃ e ∈ (s.bridge b).queue, e.port = p)
      ∧ ∃ h, (s.bridge b).holder = some h ∧ h.who ≠ .port p ∧ h.priority < s.effPriority p) :
    s.stackReported spills b (s.takePriority b p) := by
  have quiet (no : ¬ spills = true) {t : State} (reported : s.stackReported false b t) :
      s.stackReported spills b t := by
    rw [Bool.eq_false_of_not_eq_true no]
    exact reported
  cases takePriority_cases s b p with
  | unplaced absent result =>
    rw [result]
    refine quiet (fun yes => ?_) (stackReported_refl b s)
    obtain ⟨-, -, ⟨e, he, port⟩, x, held, -, -⟩ := h.mp yes
    exact (absent x held).2 e he port
  | holding x held who result =>
    rw [result]
    refine quiet (fun yes => ?_) (stackReported_updateBridge s b _)
    obtain ⟨-, -, -, y, held', other, -⟩ := h.mp yes
    rw [held] at held'
    cases held'
    exact other who
  | resorted x e held who queued under result =>
    rw [result]
    refine quiet (fun yes => ?_) (stackReported_updateBridge s b _)
    obtain ⟨-, preempt, -, y, held', -, lower⟩ := h.mp yes
    rw [held] at held'
    cases held'
    exact under (.inr ⟨preempt, lower⟩)
  | preempts x e held who queued above result =>
    obtain ⟨preempt, lower⟩ := above.resolve_left nofun
    have full : spills = decide (4 ≤ (s.bridge b).stack.length) := by
      rw [Bool.eq_iff_iff, h, decide_eq_true_iff]
      refine ⟨And.left, fun long => ⟨long, preempt, ⟨e, List.mem_of_find?_eq_some queued, ?_⟩, x, held, who, lower⟩⟩
      simpa using List.find?_some queued
    have taken : (s.bridge b).sameReported ((s.takePriority b p).bridge b) = false := by
      refine Bool.eq_false_of_not_eq_true fun same => ?_
      obtain ⟨holder, -, -⟩ := Bridge.sameReported_iff.mp same
      rw [takePriority_bridge_of_outranked held who queued above, held] at holder
      exact who (Option.some.inj holder)
    rw [result] at taken ⊢
    have sorted := actsOn_updateBridge s b fun r => { r with queue := s.sortQueue r.queue }
    refine State.stackReported.trans sorted (stackReported_updateBridge s b _)
      (State.stackReported.trans (actsOn_updateBridge _ b fun r =>
        { r with queue := r.queue.filter fun x => !(x.port == p) }) (stackReported_updateBridge _ b _) ?_ ?_) ?_
    · have reported := stackReported_preempt ((s.updateBridge b fun r =>
        { r with queue := s.sortQueue r.queue }).updateBridge b fun r =>
        { r with queue := r.queue.filter fun x => !(x.port == p) }) b (.port p) e.stamp
      rw [State.bridge_updateBridge_same, State.bridge_updateBridge_same] at reported
      rw [full]
      exact reported
    · intro same
      obtain ⟨holder, -, -⟩ := Bridge.sameReported_iff.mp same
      rw [preempt_bridge, State.bridge_updateBridge_same, held] at holder
      exact absurd (Option.some.inj holder) who
    · intro same
      rw [taken] at same
      cases same

end

/-- Settles O23: the outcomes of a new effective priority, by the port's place. -/
theorem priorityChangeActsByPlace : Obligations.PriorityChangeActsByPlace := by
  rintro s t b p rfl
  have acts := actsOn_takePriority s b p
  refine ⟨acts.ports, acts.bidCounter, acts.other, takePriority_backdrop s b p, acts.frame,
    fun spills when => takePriority_stackReported s b p spills when, fun h held who => ?_, takePriority_of_unplaced,
    fun h e held who queued => ⟨fun under => ?_, fun preempt lower => ?_⟩⟩
  · rw [takePriority_of_holding held who, State.bridge_updateBridge_same]
  · rw [takePriority_of_under held who queued, State.bridge_updateBridge_same]
    intro above
    obtain ⟨preempt, lower⟩ := above.resolve_left nofun
    rcases under with off | notBelow
    · rw [off] at preempt; cases preempt
    · exact absurd lower (Nat.not_lt.mpr notBelow)
  · have present : e.port = p := by simpa using List.find?_some queued
    have overflow (full : 4 ≤ (s.bridge b).stack.length) :
        (s.takePriority b p).notices.flags[srcBridge b].getLsbD flagStackOverflow = true := by
      have reported := takePriority_stackReported s b p true ⟨fun _ => ⟨full, preempt,
        ⟨e, List.mem_of_find?_eq_some queued, present⟩, h, held, who, lower⟩, fun _ => rfl⟩ (srcBridge b)
      rw [reported.1]
      simp
    have pushed (q : PortId) (radio : h.who = .port q) :
        ((s.bridge b).holder.map pushedEntry).getD [] = [⟨q, .valid, h.timer, h.stamp⟩] := by
      rw [held]
      simp [pushedEntry, radio]
    rw [takePriority_bridge_of_outranked held who queued (.inr ⟨preempt, lower⟩)]
    refine ⟨⟨_, rfl, rfl⟩, fun short => ?_, fun rest bottom others split full is => ?_⟩
    · dsimp only [State.preempted]
      rw [spilled_of_short short]
      exact ⟨rfl, fun q radio => by rw [pushed q radio]; rfl⟩
    · refine ⟨overflow full, ?_⟩
      dsimp only [State.preempted]
      rw [split] at full ⊢
      rw [spilled_concat full, ← is]
      exact ⟨fun q radio => by rw [pushed q radio]; rfl, fun empty => by simp [empty], fun valid => by simp [valid]⟩

end

end Sys2Proof.Machine
end

section
/-! SUPPORT. What an event hands on, walked once: a property that engagements, key states and bids keep is kept by the
key machines and by all that is handed on. And the bids: none is left over. -/

namespace Sys2Proof.Machine

/-! ## The moves of the key machines -/

/-- The moves that the key machines make of keep a property. -/
structure KeptByKeying (P : State → Prop) : Prop where
  setKey : ∀ (s : State) (p : PortId) (k : KeyState) (timing keyUp : Nat), P s → P (s.setKey p k timing keyUp)
  beginEngagement : ∀ (s : State) (barred : Bool) (p : PortId), (s.port p).engaged = false → P s →
    P (s.beginEngagement barred p)
  endEngagement : ∀ (s : State) (p : PortId), (s.port p).engaged = true → P s → P (s.endEngagement p)
  keyLimit : ∀ (s : State) (p : PortId), P s → P (s.raise (srcPort p) flagKeyLimit)
  takeHandedBids : ∀ s : State, P s → P s.takeHandedBids

namespace KeptByKeying
variable {P : State → Prop} {s : State}

theorem judgeEngagement (k : KeptByKeying P) (barred : Bool) (p : PortId) (hs : P s) :
    P (s.judgeEngagement barred p) := by
  unfold State.judgeEngagement
  dsimp only
  split
  · next begins =>
    rw [Bool.and_eq_true, Bool.not_eq_true'] at begins
    exact k.beginEngagement s barred p begins.2 hs
  · split
    · next ends =>
      rw [Bool.and_eq_true] at ends
      exact k.endEngagement s p ends.2 hs
    · exact hs

theorem enterKeyed (k : KeptByKeying P) (p : PortId) (hs : P s) : P (s.enterKeyed p) :=
  k.judgeEngagement false p (k.setKey s p .keyed 0 0 hs)

theorem enterIdle (k : KeptByKeying P) (barred : Bool) (p : PortId) (hs : P s) : P (s.enterIdle barred p) :=
  k.judgeEngagement barred p (k.setKey s p .idle 0 0 hs)

theorem enterBlank (k : KeptByKeying P) (barred : Bool) (p : PortId) (hs : P s) : P (s.enterBlank barred p) := by
  have blanked : P (s.setKey p .blank 0 0) := k.setKey s p .blank 0 0 hs
  unfold State.enterBlank
  dsimp only
  split
  · exact k.enterIdle barred p blanked
  · exact blanked

theorem enterHang (k : KeptByKeying P) (p : PortId) (hs : P s) : P (s.enterHang p) := by
  unfold State.enterHang
  dsimp only
  split
  · exact k.enterBlank false p hs
  · exact k.setKey s p .hang 0 _ hs

theorem enterDrain (k : KeptByKeying P) (p : PortId) (hs : P s) : P (s.enterDrain p) := by
  have draining : P (s.setKey p .drain 0 (s.port p).keyUp) := k.setKey s p .drain 0 _ hs
  unfold State.enterDrain
  dsimp only
  split
  · exact k.enterHang p draining
  · exact draining

theorem enterCool (k : KeptByKeying P) (p : PortId) (hs : P s) : P (s.enterCool p) :=
  k.judgeEngagement false p (k.keyLimit _ p (k.setKey s p .cool 0 0 hs))

theorem judgeKey (k : KeptByKeying P) (p : PortId) (hs : P s) : P (s.judgeKey p) := by
  have set (key : KeyState) (timing keyUp : Nat) : P (s.setKey p key timing keyUp) := k.setKey s p key timing keyUp hs
  unfold State.judgeKey
  dsimp only
  split
  · split
    · split
      · split
        · exact k.enterKeyed p hs
        · exact set _ _ _
      · exact hs
    · split
      · split
        · exact k.enterKeyed p hs
        · exact hs
      · exact set _ _ _
    · split
      · exact hs
      · exact k.enterDrain p hs
    · split
      · exact set _ _ _
      · exact hs
    · split
      · exact set _ _ _
      · exact hs
    · split
      · exact k.enterKeyed p hs
      · exact hs
    · exact hs
  · exact hs

theorem actKey (k : KeptByKeying P) (p : PortId) (hs : P s) : P (s.actKey p) :=
  k.takeHandedBids _ (k.judgeKey p hs)

theorem actAll (k : KeptByKeying P) (hs : P s) : P s.actAll := by
  unfold State.actAll
  exact KeptByOperations.foldl (f := State.actKey) (fun _ p hs => k.actKey p hs) allPorts hs

theorem resolve (k : KeptByKeying P) (n : Nat) (hs : P s) : P (State.resolve n s) := by
  induction n generalizing s with
  | zero => exact hs
  | succ n ih =>
    unfold State.resolve
    split
    · exact hs
    · exact ih (k.actAll hs)

theorem handOn (k : KeptByKeying P) (hs : P s) : P s.handOn :=
  k.resolve _ (k.takeHandedBids s hs)

theorem clearKey (k : KeptByKeying P) (p : PortId) (hs : P s) : P (s.clearKey p) := by
  have leaving : P (if (s.port p).lifecycle = .active then s.enterBlank true p else s.enterIdle true p) := by
    split
    · exact k.enterBlank true p hs
    · exact k.enterIdle true p hs
  unfold State.clearKey
  dsimp only
  split
  · exact leaving
  · exact leaving
  · exact leaving
  · exact k.enterIdle true p hs
  · exact k.enterIdle true p hs
  · exact k.setKey s p .idle 0 0 hs
  · exact hs

theorem removeDestination (k : KeptByKeying P) (old : Vector Record 8) (p : PortId) (hs : P s) :
    P (s.removeDestination old p) := by
  unfold State.removeDestination
  split
  · split
    · exact k.enterBlank false p hs
    · exact k.enterBlank false p hs
    · exact k.enterBlank false p hs
    · exact k.setKey s p .idle 0 0 hs
    all_goals exact hs
  · exact hs

/-- The count of a key machine with what it reaches, where the count itself keeps the property. -/
theorem keyReached (k : KeptByKeying P) (p : PortId) (hs : P (s.setPort p (s.port p).keyCounted)) :
    P (s.keyReached p) := by
  unfold State.keyReached
  dsimp only
  split
  · exact k.enterCool p hs
  · split
    · exact k.enterHang p hs
    · split
      · exact k.enterBlank false p hs
      · split
        · exact k.enterIdle false p hs
        · split
          · exact k.enterIdle false p hs
          · split
            · exact k.judgeEngagement false p hs
            · exact hs

end KeptByKeying

/-- Bids that are taken one by one, none of them left over, keep what one of them keeps. -/
theorem takeHandedBids_keeps {P : State → Prop} {s : State} (none_left : P s → P { s with bids := [] })
    (takeBid : ∀ s p, P s → P (s.takeBid p)) (hs : P s) : P s.takeHandedBids :=
  KeptByOperations.foldl takeBid _ (none_left hs)

/-! ## No bid is left over (R17, R111) -/

theorem takeBid_cases (s : State) (p : PortId) : s.takeBid p = s ∨ ∃ b, s.memberOf p = some b
    ∧ (s.port p).engaged = true ∧ (s.port p).bar = false ∧ (s.bridge b).hasPlace p = false
    ∧ s.takeBid p = s.bid b (.port p) := by
  unfold State.takeBid
  dsimp only
  split
  · next b member =>
    split
    · next may =>
      simp only [Bool.and_eq_true, Bool.not_eq_true'] at may
      obtain ⟨⟨engaged, bar⟩, place⟩ := may
      exact .inr ⟨b, member, engaged, bar, place, rfl⟩
    · exact .inl rfl
  · exact .inl rfl

theorem bid_bids (s : State) (b : BridgeId) (who : Talker) : (s.bid b who).bids = s.bids := (actsOn_bid s b who).bids

theorem takeBid_bids (s : State) (p : PortId) : (s.takeBid p).bids = s.bids := by
  rcases takeBid_cases s p with same | ⟨b, -, -, -, -, bid⟩
  · rw [same]
  · rw [bid, bid_bids]

@[simp] theorem takeHandedBids_bids (s : State) : s.takeHandedBids.bids = [] :=
  foldl_part State.bids takeBid_bids s.bids { s with bids := [] }

theorem resolve_bids {s : State} (n : Nat) (h : s.bids = []) : (State.resolve n s).bids = [] := by
  have acted (s : State) (hs : s.bids = []) : s.actAll.bids = [] :=
    KeptByOperations.foldl (P := fun s => s.bids = []) (fun s p _ => takeHandedBids_bids _) _ hs
  induction n generalizing s with
  | zero => exact h
  | succ n ih =>
    unfold State.resolve
    split
    · exact h
    · exact ih (acted s h)

/-- What is handed on leaves no bid on its way. -/
@[simp] theorem handOn_bids (s : State) : s.handOn.bids = [] := resolve_bids _ (takeHandedBids_bids s)

theorem leavePlace_bids (s : State) (b : BridgeId) (p : PortId) : (s.leavePlace b p).bids = s.bids := by
  unfold State.leavePlace
  split
  · exact (actsOn_release s b).bids
  · simp

theorem endEngagement_bids (s : State) (p : PortId) : (s.endEngagement p).bids = s.bids := by
  unfold State.endEngagement
  dsimp only
  split <;> simp [leavePlace_bids]

/-- A port that engages barred hands on no bid (R94). -/
theorem beginEngagement_barred_bids (s : State) (p : PortId) : (s.beginEngagement true p).bids = s.bids := by
  simp [State.beginEngagement]

theorem judgeEngagement_barred_bids (s : State) (p : PortId) : (s.judgeEngagement true p).bids = s.bids := by
  unfold State.judgeEngagement
  dsimp only
  split
  · exact beginEngagement_barred_bids s p
  · split
    · exact endEngagement_bids s p
    · rfl

theorem setKey_bids (s : State) (p : PortId) (k : KeyState) (timing keyUp : Nat) :
    (s.setKey p k timing keyUp).bids = s.bids := State.updatePort_bids ..

theorem enterIdle_barred_bids (s : State) (p : PortId) : (s.enterIdle true p).bids = s.bids := by
  rw [State.enterIdle, judgeEngagement_barred_bids, setKey_bids]

theorem enterBlank_barred_bids (s : State) (p : PortId) : (s.enterBlank true p).bids = s.bids := by
  unfold State.enterBlank
  dsimp only
  split
  · rw [enterIdle_barred_bids, setKey_bids]
  · exact setKey_bids ..

theorem clearKey_bids (s : State) (p : PortId) : (s.clearKey p).bids = s.bids := by
  have leaving : (if (s.port p).lifecycle = .active then s.enterBlank true p else s.enterIdle true p).bids
    = s.bids := by
    split
    · exact enterBlank_barred_bids s p
    · exact enterIdle_barred_bids s p
  unfold State.clearKey
  dsimp only
  split
  · exact leaving
  · exact leaving
  · exact leaving
  · exact enterIdle_barred_bids s p
  · exact enterIdle_barred_bids s p
  · exact setKey_bids ..
  · rfl

theorem clearAllBridges_bids (s : State) : s.clearAllBridges.bids = s.bids := by
  unfold State.clearAllBridges
  dsimp only
  rw [foldl_part State.bids clearKey_bids, foldl_part State.bids, foldl_part State.bids]
  · exact State.reportIf_bids ..
  · intro s b
    simp [State.emptyBridge]
  · intro s p
    unfold State.barEngaged
    split
    · exact State.updatePort_bids ..
    · rfl

/-- No bid is on its way between two pieces, whatever a piece hands on. -/
def State.noBids (s : State) : Prop := s.bids = []

theorem noBids_of_eq {s t : State} (h : t.bids = s.bids) (hs : s.noBids) : t.noBids := h.trans hs

theorem dirReport_bids (s : State) (p : PortId) (u : UnitId) : (s.dirReport p u).bids = s.bids := by
  unfold State.dirReport
  split
  · rfl
  · split
    · rfl
    · exact State.raise_bids ..

theorem noBids_priorities : KeptByPriorities State.noBids where
  same {s t} h hs := by
    have bids : t.view.bids = s.view.bids := congrArg State.bids h
    exact noBids_of_eq bids hs
  handOn s _ _ := handOn_bids s
  takePriority s b p hs _ := noBids_of_eq (actsOn_takePriority s b p).bids hs
  setup _ _ _ _ _ _ hs _ := hs
  emergency _ _ _ hs _ := noBids_of_eq (State.updatePort_bids ..) hs
  takeIdentity _ _ _ hs _ := noBids_of_eq (State.updatePort_bids ..) hs
  burstStarted s b hs _ := by
    refine noBids_of_eq ?_ hs
    unfold State.burstStarted
    dsimp only
    split
    · exact State.reportChange_bids ..
    · rfl
  dirReport s p u _ hs _ := noBids_of_eq (dirReport_bids s p u) hs
  flagUnit _ _ _ hs _ := hs
  written _ _ _ _ _ _ _ _ _ _ hs _ := hs
  freed _ _ _ _ hs _ := hs

theorem raise_noBids {s : State} (src : Source) (n : Nat) (hs : s.noBids) : (s.raise src n).noBids :=
  noBids_of_eq (State.raise_bids s src n) hs

theorem raiseClips_bids (s : State) (ports : Vector Int 12) (con : Int) (talk : Vector Int 8)
    (out : Vector Int 12) (monitor : Int) : (s.raiseClips ports con talk out monitor).bids = s.bids := by
  simp [State.raiseClips, foldl_part State.bids]

theorem noBids_pieces : KeptByPieces State.noBids (Mid := fun _ => True) where
  same := noBids_priorities.same
  raise s src n _ hs _ := raise_noBids src n hs
  handOn s _ _ := handOn_bids s
  turnLevel s b hs _ := by
    refine noBids_of_eq ?_ hs
    unfold State.turnLevel; dsimp only; split <;> rfl
  changeSegment s b hs _ := by
    refine noBids_of_eq ?_ hs
    unfold State.changeSegment; dsimp only; split <;> rfl
  burstEnded _ _ _ _ := trivial
  setReceiver _ _ _ _ hs _ := hs
  cutPlace _ _ _ _ _ _ _ := trivial
  timerCounted _ _ hs _ := hs
  keyReached _ _ _ _ := trivial
  activated _ _ _ _ _ := trivial
  departed _ _ _ _ _ _ _ := trivial
  requalified _ _ _ _ := trivial
  acceptIdent _ p u valid hs _ := noBids_priorities.acceptIdent p u valid hs
  acceptEmerg _ p u valid hs _ := noBids_priorities.acceptEmerg p u valid hs
  acceptEmergClear _ p u valid hs _ := noBids_priorities.acceptEmergClear p u valid hs
  switchPlans s _ _ := handOn_bids _
  latched _ _ _ hs _ := hs
  formSample s f slots _ _ _ hs _ := by
    refine noBids_of_eq ?_ hs
    exact raiseClips_bids _ _ _ _ _ _
  counted _ _ _ _ _ _ _ hs _ := hs

theorem noBids_requests : KeptByRequests State.noBids where
  startLost _ _ _ hs _ := noBids_of_eq (State.updatePort_bids ..) hs
  writeSetup _ p f new read h hs _ := noBids_priorities.writeSetup p read h hs
  pendSwitch _ hs _ := hs
  writeRecord _ _ _ _ _ _ _ hs _ := hs
  copyPlan _ hs _ := hs
  clearAllBridges s hs _ := noBids_of_eq (clearAllBridges_bids s) hs
  haltMixer _ hs _ := hs
  runMixer _ _ hs _ := hs
  setupMixer f s hs _ := by
    refine noBids_of_eq ?_ hs
    unfold setupMixer
    split
    · split <;> rfl
    · rfl
  monitor mask gains s hs _ := by
    refine noBids_of_eq ?_ hs
    unfold monitor
    split <;> rfl
  moveConsole s carried hs _ := by
    unfold State.moveConsole State.writeTalk
    dsimp only
    refine noBids_of_eq (State.reportIf_bids ..) ?_
    refine KeptByOperations.foldl (P := State.noBids) (fun t b ht => ?_) _
      (KeptByOperations.foldl (P := State.noBids) (fun t b ht => ?_) _ hs)
    · split
      · exact handOn_bids _
      · exact ht
    · split
      · exact handOn_bids _
      · exact ht
  entered s u agency role o w d valid range room hs _ :=
    noBids_priorities.handOverride s u (noBids_priorities.written s u agency role o w d valid range room hs)
  removed s u w found hs _ := noBids_priorities.handOverride s u (noBids_priorities.freed s u w found hs)
  purged _ hs _ := hs
  declared _ p _ hs _ := noBids_priorities.handPriority p _ (noBids_priorities.enterEmergency p none hs)
  leaveEmergency _ p hs _ := noBids_priorities.leaveEmergency p hs
  leaveUnit s u hs _ := noBids_priorities.leaveAllSourced u (noBids_priorities.flagUnit s u false hs)
  clearFlags _ _ _ hs _ := hs
  writeMask s src mask on _ _ hs _ := by
    rw [writeMask_eq]
    exact hs

theorem noBids_apart : KeptApart State.noBids where
  link _ _ hs := hs
  reset := rfl

end Sys2Proof.Machine
end

section
/-! SUPPORT. The flags that exist (R171), and the reply places of the link (R182, R185, R187). -/

namespace Sys2Proof.Machine

/-! ## Flags and mask bits (R171, R173) -/

theorem existing_iff {src : Source} {flags : FlagSet} :
    flags &&& ~~~allFlags src = 0 ↔ ∀ i : Nat, flags.getLsbD i = true → i < flagCount src := by
  rw [← not_iff_not, ← ne_eq, and_not_ne_zero_iff]
  simp only [getLsbD_allFlags, decide_eq_false_iff_not, not_forall, exists_prop]

section
variable {s t : State}

theorem flagsExist_of_same (flags : t.notices.flags = s.notices.flags) (masks : t.notices.masks = s.notices.masks)
    (switches : t.notices.switches = s.notices.switches) (hs : s.flagsExist) : t.flagsExist := by
  unfold State.flagsExist
  rw [flags, masks, switches]
  exact hs

theorem flagsExist_of_bits (flags : ∀ (src : Source) (i : Nat), t.notices.flags[src].getLsbD i = true →
      s.notices.flags[src].getLsbD i = true ∨ i < flagCount src)
    (masks : t.notices.masks = s.notices.masks) (switches : t.notices.switches = s.notices.switches)
    (hs : s.flagsExist) : t.flagsExist := by
  unfold State.flagsExist
  rw [masks, switches]
  refine ⟨fun src => ⟨existing_iff.mpr fun i on => ?_, (hs.1 src).2⟩, hs.2⟩
  exact (flags src i on).elim (existing_iff.mp (hs.1 src).1 i) id

theorem flagsExist_raise {src : Source} {n : Nat} (h : n < flagCount src) (hs : s.flagsExist) :
    (s.raise src n).flagsExist := by
  refine flagsExist_of_bits (fun other i on => ?_) (State.raise_masks s src n) (State.raise_switches s src n) hs
  rw [getLsbD_raise_flags (h.trans_le (flagCount_le_six src)), Bool.or_eq_true, decide_eq_true_iff] at on
  rcases on with was | ⟨rfl, rfl⟩
  · exact .inl was
  · exact .inr h

theorem flagsExist_raiseIf {cond : Bool} {src : Source} {n : Nat} (h : n < flagCount src) (hs : s.flagsExist) :
    (s.raiseIf cond src n).flagsExist := by
  unfold State.raiseIf
  split
  · exact flagsExist_raise h hs
  · exact hs

theorem flagsExist_updatePort (p : PortId) (f : Port → Port) (hs : s.flagsExist) : (s.updatePort p f).flagsExist :=
  flagsExist_of_same (State.updatePort_flags ..) (State.updatePort_masks ..) (State.updatePort_switches ..) hs

theorem flagsExist_updateBridge (b : BridgeId) (f : Bridge → Bridge) (hs : s.flagsExist) :
    (s.updateBridge b f).flagsExist :=
  flagsExist_of_same (State.updateBridge_flags ..) (State.updateBridge_masks ..) (State.updateBridge_switches ..) hs

theorem flagsExist_reportChange (src : Source) (hs : s.flagsExist) : (s.reportChange src).flagsExist := by
  unfold State.reportChange
  split
  · exact hs
  · exact hs

theorem flagsExist_reportIf (changed : Bool) (src : Source) (hs : s.flagsExist) :
    (s.reportIf changed src).flagsExist := by
  unfold State.reportIf
  split
  · exact flagsExist_reportChange src hs
  · exact hs

/-- An operation on one bridge sets no flag but STACK_OVERFLOW. -/
theorem State.stackReported.flagsExist {spills : Bool} {b : BridgeId} (h : s.stackReported spills b t)
    (masks : t.notices.masks = s.notices.masks) (switches : t.notices.switches = s.notices.switches)
    (hs : s.flagsExist) : t.flagsExist := by
  refine flagsExist_of_bits (fun src i on => ?_) masks switches hs
  rw [(h src).1, Bool.or_eq_true, decide_eq_true_iff] at on
  rcases on with was | ⟨rfl, rfl, -⟩
  · exact .inl was
  · exact .inr (by rw [flagCount_srcBridge]; decide)

theorem flagsExist_bid (b : BridgeId) (who : Talker) (hs : s.flagsExist) : (s.bid b who).flagsExist := by
  classical
  exact (bid_stackReported s b who (decide _) decide_eq_true_iff).flagsExist
    (actsOn_bid s b who).masks (actsOn_bid s b who).switches hs

theorem flagsExist_takePriority (b : BridgeId) (p : PortId) (hs : s.flagsExist) : (s.takePriority b p).flagsExist := by
  classical
  exact (takePriority_stackReported s b p (decide _) decide_eq_true_iff).flagsExist
    (actsOn_takePriority s b p).masks (actsOn_takePriority s b p).switches hs

theorem flagsExist_release (b : BridgeId) (hs : s.flagsExist) : (s.release b).flagsExist :=
  flagsExist_updateBridge b _ hs

theorem flagsExist_leavePlace (b : BridgeId) (p : PortId) (hs : s.flagsExist) : (s.leavePlace b p).flagsExist := by
  unfold State.leavePlace
  split
  · exact flagsExist_release b hs
  · exact flagsExist_updateBridge b _ hs

theorem flagsExist_takeBid (p : PortId) (hs : s.flagsExist) : (s.takeBid p).flagsExist := by
  rcases takeBid_cases s p with same | ⟨b, -, -, -, -, bid⟩
  · rw [same]; exact hs
  · rw [bid]; exact flagsExist_bid b _ hs

end

theorem flagsExist_endEngagement {s : State} (p : PortId) (hs : s.flagsExist) : (s.endEngagement p).flagsExist := by
  unfold State.endEngagement
  dsimp only
  refine flagsExist_updatePort p _ ?_
  split
  · exact flagsExist_leavePlace _ p (flagsExist_updatePort p _ hs)
  · exact flagsExist_updatePort p _ hs

theorem flagsExist_keying : KeptByKeying State.flagsExist where
  setKey s p k timing keyUp := flagsExist_updatePort p _
  beginEngagement s barred p _ hs := by
    unfold State.beginEngagement
    dsimp only
    split
    · exact flagsExist_updatePort p _ hs
    · exact flagsExist_of_same (s := s.updatePort p _) rfl rfl rfl (flagsExist_updatePort p _ hs)
  endEngagement s p _ := flagsExist_endEngagement p
  keyLimit s p := flagsExist_raise (by rw [flagCount_srcPort]; decide)
  takeHandedBids s := takeHandedBids_keeps (fun hs => hs) fun s p => flagsExist_takeBid p

theorem flagsExist_priorities : KeptByPriorities State.flagsExist where
  same {s t} h := by
    have flags : t.view.notices.flags = s.view.notices.flags := by rw [h]
    have masks : t.view.notices.masks = s.view.notices.masks := by rw [h]
    have switches : t.view.notices.switches = s.view.notices.switches := by rw [h]
    exact flagsExist_of_same flags masks switches
  handOn _ hs _ := flagsExist_keying.handOn hs
  takePriority _ b p hs _ := flagsExist_takePriority b p hs
  setup _ _ _ _ _ _ hs _ := hs
  emergency _ p _ hs _ := flagsExist_updatePort p _ hs
  takeIdentity _ p _ hs _ := flagsExist_updatePort p _ hs
  burstStarted s b hs _ := by
    unfold State.burstStarted
    dsimp only
    split
    · exact flagsExist_reportChange (s := s.setBridge b _) _ hs
    · exact hs
  dirReport s p u _ hs _ := by
    unfold State.dirReport
    split
    · exact hs
    · split
      · exact hs
      · exact flagsExist_raise (by decide) hs
  flagUnit _ _ _ hs _ := hs
  written _ _ _ _ _ _ _ _ _ _ hs _ := hs
  freed _ _ _ _ hs _ := hs

theorem flagsExist_barHolder {s : State} (who : Talker) (hs : s.flagsExist) : (s.barHolder who).flagsExist := by
  unfold State.barHolder
  split
  · split
    · exact flagsExist_updatePort _ _ hs
    · exact hs
  · exact hs

theorem flagsExist_removeNonMembers {s : State} (b : BridgeId) (hs : s.flagsExist) :
    (s.removeNonMembers b).flagsExist := by
  have limited := flagsExist_updateBridge b (fun r : Bridge => { r with
      holder := r.holder.map (limitHolder (s.record b).talkLimit)
      stack := r.stack.map (limitEntry (s.record b).talkLimit) })
    (flagsExist_updateBridge b (fun r : Bridge => { r with
      queue := r.queue.filter fun e => (s.record b).members.getLsbD e.port
      stack := r.stack.map fun e =>
        if (s.record b).members.getLsbD e.port then e else { e with tag := Tag.empty } }) hs)
  unfold State.removeNonMembers
  dsimp only
  split
  · split
    · split
      · exact limited
      · exact flagsExist_release b limited
    · exact limited
  · exact limited

theorem flagsExist_adjustBurst {s : State} (b : BridgeId) (hs : s.flagsExist) : (s.adjustBurst b).flagsExist := by
  unfold State.adjustBurst
  dsimp only
  split
  · exact hs
  · exact flagsExist_reportChange (s := s.setBridge b _) _ hs

theorem flagsExist_switchPlans {s : State} (hs : s.flagsExist) : s.switchPlans.flagsExist := by
  unfold State.switchPlans
  dsimp only
  refine flagsExist_keying.handOn (KeptByOperations.foldl (fun t p ht => ?_) _
    (KeptByOperations.foldl (fun t p ht => ?_) _ (KeptByOperations.foldl (f := State.adjustBurst)
      (fun t b ht => flagsExist_adjustBurst b ht) _ (KeptByOperations.foldl (f := State.removeNonMembers)
        (fun t b ht => flagsExist_removeNonMembers b ht) _ hs))))
  · split
    · exact flagsExist_takeBid p ht
    · exact ht
  · exact flagsExist_keying.takeHandedBids _ (flagsExist_keying.removeDestination _ p ht)

theorem flagsExist_raiseClips {s : State} (ports : Vector Int 12) (con : Int) (talk : Vector Int 8)
    (out : Vector Int 12) (monitor : Int) (hs : s.flagsExist) :
      (s.raiseClips ports con talk out monitor).flagsExist := by
  have port (n : Nat) (h : n < 6) (cond : PortId → Bool) (s : State) (hs : s.flagsExist) :
      (allPorts.foldl (fun s p => s.raiseIf (cond p) (srcPort p) n) s).flagsExist :=
    KeptByOperations.foldl (fun s p ht => flagsExist_raiseIf (by rw [flagCount_srcPort]; exact h) ht) _ hs
  have bridge (s : State) (hs : s.flagsExist) :
      (allBridges.foldl (fun s b => s.raiseIf (clips talk[b]) (srcBridge b) flagTalkClip) s).flagsExist :=
    KeptByOperations.foldl (fun s b ht => flagsExist_raiseIf (by rw [flagCount_srcBridge]; decide) ht) _ hs
  unfold State.raiseClips
  exact flagsExist_raiseIf (by decide) (port _ (by decide) _ _ (bridge _ (flagsExist_raiseIf (by decide)
    (port _ (by decide) _ _ hs))))

theorem flagsExist_pieces : KeptByPieces State.flagsExist where
  same := flagsExist_priorities.same
  raise _ _ _ h hs _ := flagsExist_raise h hs
  handOn _ hs _ := flagsExist_keying.handOn hs
  turnLevel s b hs _ := by
    unfold State.turnLevel; dsimp only; split <;> exact hs
  changeSegment s b hs _ := by
    unfold State.changeSegment; dsimp only; split <;> exact hs
  burstEnded s b hs _ := flagsExist_reportChange (s := s.setBridge b _) _ hs
  setReceiver _ _ _ _ hs _ := hs
  cutPlace s b h _ _ hs _ := flagsExist_raise (by rw [flagCount_srcBridge]; decide)
    (flagsExist_release b (flagsExist_barHolder h.who hs))
  timerCounted _ _ hs _ := hs
  keyReached _ p hs _ := flagsExist_keying.keyReached p hs
  activated _ p _ hs _ := flagsExist_updatePort p _ hs
  departed s p life _ _ hs _ := by
    unfold State.departed
    dsimp only
    refine flagsExist_updatePort p _ ?_
    split
    · exact flagsExist_endEngagement p (flagsExist_updatePort p _ hs)
    · exact flagsExist_updatePort p _ hs
  requalified s p hs _ := flagsExist_keying.judgeEngagement (s := s.setPort p _) false p hs
  acceptIdent _ p u valid hs _ := flagsExist_priorities.acceptIdent p u valid hs
  acceptEmerg _ p u valid hs _ := flagsExist_priorities.acceptEmerg p u valid hs
  acceptEmergClear _ p u valid hs _ := flagsExist_priorities.acceptEmergClear p u valid hs
  switchPlans _ hs _ := flagsExist_switchPlans hs
  latched _ _ _ hs _ := hs
  formSample _ _ _ _ _ _ hs _ := flagsExist_raiseClips _ _ _ _ _ hs
  counted _ _ _ _ _ _ _ hs _ := hs

theorem flagsExist_clearFlags {s : State} (src : Source) (flags : FlagSet) (hs : s.flagsExist) :
    (s.clearFlags src flags).flagsExist := by
  refine flagsExist_of_bits (s := s) (fun other i on => .inl ?_) rfl rfl hs
  unfold State.clearFlags at on
  rw [getElem_set_source] at on
  split at on
  · next here =>
    rw [BitVec.getLsbD_and, Bool.and_eq_true] at on
    rw [here]; exact on.1
  · exact on

/-- MASK_SET writes no mask bit beyond the source's flags, and no switch to the device (R178). -/
theorem flagsExist_writeMask {s : State} {src : Source} {mask : Byte} {on : Bool} (within :
    beyondFlags src mask = false)
    (device : src = srcDevice → on = false) (hs : s.flagsExist) :
    (s.writeMask src (mask.extractLsb' 0 6) on).flagsExist := by
  rw [writeMask_eq]
  refine ⟨fun other => ⟨(hs.1 other).1, ?_⟩, ?_⟩
  · dsimp only
    rw [getElem_set_source]
    split
    · next here =>
      rw [here, existing_iff]
      intro i bit
      rw [beyondFlags_eq_false_iff] at within
      by_contra beyond
      have low : mask.toNat < 2 ^ i := within.trans_le (Nat.pow_le_pow_right (by decide) (Nat.le_of_not_lt beyond))
      have clear : mask.getLsbD i = false := by
        rw [BitVec.getLsbD]
        exact Nat.testBit_lt_two_pow low
      rw [BitVec.getLsbD_extractLsb', Bool.and_eq_true, Nat.zero_add, clear] at bit
      exact Bool.false_ne_true bit.2
    · exact (hs.1 other).2
  · dsimp only
    rw [getElem_set_source]
    split
    · next here => exact device here.symm
    · exact hs.2

theorem flagsExist_requests : KeptByRequests State.flagsExist where
  startLost _ p _ hs _ := flagsExist_updatePort p _ hs
  writeSetup _ p f new read h hs _ := flagsExist_priorities.writeSetup p read h hs
  pendSwitch _ hs _ := hs
  writeRecord _ _ _ _ _ _ _ hs _ := hs
  copyPlan _ hs _ := hs
  clearAllBridges s hs _ := by
    have silent : (({ s with console := { s.console with talk := 0 } } : State).reportIf (s.console.talk != 0)
        srcConsole).flagsExist := flagsExist_reportIf (s := { s with console := { s.console with talk := 0 } }) _ _ hs
    refine KeptByOperations.foldl (f := State.clearKey) (fun t p ht => flagsExist_keying.clearKey p ht) _
      (KeptByOperations.foldl (fun t p ht => ?_) _ (KeptByOperations.foldl (fun t b ht => ?_) _ silent))
    · unfold State.barEngaged
      split
      · exact flagsExist_updatePort p _ ht
      · exact ht
    · exact flagsExist_reportIf _ _ (flagsExist_updateBridge b _ ht)
  haltMixer _ hs _ := hs
  runMixer _ _ hs _ := hs
  setupMixer f s hs _ := by
    unfold setupMixer
    split
    · split <;> exact hs
    · exact hs
  monitor mask gains s hs _ := by
    unfold monitor
    split <;> exact hs
  moveConsole s carried hs _ := by
    unfold State.moveConsole State.writeTalk
    dsimp only
    refine flagsExist_reportIf (s := { State.joinBridges _ _ with console := _ }) _ _ ?_
    refine KeptByOperations.foldl (fun t b ht => ?_) _ (KeptByOperations.foldl (fun t b ht => ?_) _ hs)
    · split
      · exact flagsExist_keying.handOn (flagsExist_bid b _ ht)
      · exact ht
    · split
      · refine flagsExist_keying.handOn ?_
        unfold State.consoleLeave
        split
        · exact flagsExist_release b ht
        · exact ht
      · exact ht
  entered s u agency role o w d valid range room hs _ :=
    flagsExist_priorities.handOverride s u (flagsExist_priorities.written s u agency role o w d valid range room hs)
  removed s u w found hs _ := flagsExist_priorities.handOverride s u (flagsExist_priorities.freed s u w found hs)
  purged _ hs _ := hs
  declared _ p _ hs _ := flagsExist_priorities.handPriority p _ (flagsExist_priorities.enterEmergency p none hs)
  leaveEmergency _ p hs _ := flagsExist_priorities.leaveEmergency p hs
  leaveUnit s u hs _ := flagsExist_priorities.leaveAllSourced u (flagsExist_priorities.flagUnit s u false hs)
  clearFlags _ src flags hs _ := flagsExist_clearFlags src flags hs
  writeMask _ _ _ _ within device hs _ := flagsExist_writeMask within device hs

theorem flagsExist_apart : KeptApart State.flagsExist where
  link _ _ hs := hs
  reset := by
    refine ⟨fun src => ?_, rfl⟩
    simp [State.reset, Notices.reset]

end Sys2Proof.Machine
end

section
/-! SUPPORT. The reply places of the link (R182, R185, R187): no event and no request writes the link, and what the link
writes keeps its places in step with the frame under reception and with a pending switch. -/

namespace Sys2Proof.Machine

/-! ## What events and requests do to the link -/

theorem raiseClips_link (s : State) (ports : Vector Int 12) (con : Int) (talk : Vector Int 8)
    (out : Vector Int 12) (monitor : Int) : (s.raiseClips ports con talk out monitor).link = s.link := by
  simp [State.raiseClips, foldl_part State.link]

theorem adjustBurst_link (s : State) (b : BridgeId) : (s.adjustBurst b).link = s.link := by
  unfold State.adjustBurst
  dsimp only
  split
  · rfl
  · exact State.reportChange_link _ _

/-- Events and requests leave the link as it is. -/
theorem link_kept (l : Link) : KeptByRest fun t => t.link = l where
  same h hs := (rest_link h).trans hs
  turnLevel s b hs := by unfold State.turnLevel; dsimp only; split <;> exact hs
  changeSegment s b hs := by unfold State.changeSegment; dsimp only; split <;> exact hs
  burstStarted s b hs := by
    unfold State.burstStarted
    dsimp only
    split
    · rw [State.reportChange_link]; exact hs
    · exact hs
  burstEnded s b hs := by
    unfold State.burstEnded
    rw [State.reportChange_link]
    exact hs
  setup _ _ _ _ _ hs := hs
  dirReport s p u _ hs := by
    unfold State.dirReport
    split
    · exact hs
    · split
      · exact hs
      · rw [State.raise_link]; exact hs
  flagUnit _ _ _ hs := hs
  written _ _ _ _ _ _ _ _ _ _ hs := hs
  freed _ _ _ _ hs := hs
  purged _ hs := hs
  switched s t h hs := (foldl_part State.link adjustBurst_link _ t).trans ((rest_link h).trans hs)
  pendSwitch _ hs := hs
  writeRecord _ _ _ _ _ hs := hs
  copyPlan _ hs := hs
  emptyBridge s b hs := by
    unfold State.emptyBridge
    dsimp only
    rw [State.reportIf_link, State.updateBridge_link]
    exact hs
  talk _ _ hs := hs
  monitor mask gains s hs := by unfold monitor; split <;> exact hs
  haltMixer _ hs := hs
  runMixer _ _ hs := hs
  setupMixer f s hs := by
    unfold setupMixer
    split
    · split <;> exact hs
    · exact hs
  latched _ _ _ hs := hs
  formSample s f slots _ _ _ hs := (raiseClips_link _ _ _ _ _ _).trans hs
  counted _ _ _ _ _ _ _ hs := hs

theorem takeDue_link (s : State) (d : Due) : (s.takeDue d).link = s.link := (link_kept s.link).pieces.takeDue d rfl

theorem action_link {act : Action} (h : Requested act) (s : State) : (act s).1.link = s.link :=
  (link_kept s.link).pieces.action (link_kept s.link).requests h rfl

theorem switchPlans_link (s : State) : s.switchPlans.link = s.link := (link_kept s.link).switchPlans rfl

theorem takeReport_plans (s : State) (p : PortId) (kind : Byte) (u : UnitId) {accept : State → State}
    (h : ∀ s, (accept s).plans = s.plans) : (s.takeReport p kind u accept).plans = s.plans := by
  unfold State.takeReport
  split
  · rw [h]; rfl
  · exact foldl_plans (fun s b => takeCharacter_plans s p b _ _) _ s

/-- No other operation than a switch writes link or plans. -/
theorem operated_link_plans {f : State → State} (h : Operated f) (s : State) :
    ((f s).link = s.link ∧ (f s).plans = s.plans) ∨ f s = s.makeSwitch ∨ ∃ t : State, f s = t.latched
      ∧ (t = s ∨ t = s.makeSwitch) := by
  have k : KeptByPieces fun t => t.link = s.link := (link_kept s.link).pieces
  have p : KeptByPriorities fun t => t.link = s.link := (link_kept s.link).priorities
  cases h with
  | switchAtFrame =>
    unfold State.switchAtFrame
    split
    · exact .inr (.inl rfl)
    · exact .inl ⟨rfl, rfl⟩
  | startFrame =>
    unfold State.startFrame
    split
    · refine .inr (.inr ⟨_, rfl, ?_⟩)
      split
      · exact .inr rfl
      · exact .inl rfl
    · exact .inl ⟨rfl, rfl⟩
  | samplePeriod slots => exact .inl ⟨k.samplePeriod slots rfl, samplePeriod_plans s slots⟩
  | endFrame cs pres late => exact .inl ⟨k.endFrame cs pres late rfl, endFrame_plans s cs pres late⟩
  | takeCharacter r data parity stop =>
    exact .inl ⟨k.takeCharacter r data parity stop rfl, takeCharacter_plans s r data parity stop⟩
  | ident r u => exact .inl ⟨k.takeReport 1 (fun valid s => p.acceptIdent r u valid) rfl,
      takeReport_plans s r 1 u fun s => acceptIdent_plans s r u⟩
  | emerg r u => exact .inl ⟨k.takeReport 2 (fun valid s => p.acceptEmerg r u valid) rfl,
      takeReport_plans s r 2 u fun s => acceptEmerg_plans s r u⟩
  | emergClear r u => exact .inl ⟨k.takeReport 3 (fun valid s => p.acceptEmergClear r u valid) rfl,
      takeReport_plans s r 3 u fun s => acceptEmergClear_plans s r u⟩
  | endDataLineWait r => exact .inl ⟨k.endDataLineWait r rfl, rfl⟩

/-- A request is answered and no switch has become pending, or it is a PLAN_SWITCH that waits unanswered (R58, R185). -/
theorem requested_answer {act : Action} (h : Requested act) (s : State) (free : s.plans.switchPending = false) :
    ((act s).2.isSome = true ∧ (act s).1.plans.switchPending = false)
    ∨ (act s).2 = none ∧ (act s).1.plans.switchPending = true := by
  have of_plans {u : State × Option Answer} (answered : u.2.isSome = true) (plans : u.1.plans = s.plans) :
      (u.2.isSome = true ∧ u.1.plans.switchPending = false) ∨ u.2 = none ∧ u.1.plans.switchPending = true :=
    .inl ⟨answered, by rw [plans]; exact free⟩
  cases h with
  | describe => exact of_plans rfl rfl
  | refuse code => exact of_plans rfl rfl
  | readPort n => exact of_plans (by unfold readPort; split <;> rfl) (by rw [readPort_fst])
  | readPlan m n => exact of_plans (by unfold readPlan; split <;> rfl) (by rw [readPlan_fst])
  | readBridge n => exact of_plans (by unfold readBridge; split <;> rfl) (by rw [readBridge_fst])
  | readWatch n => exact of_plans (by unfold readWatch; split <;> rfl) (by rw [readWatch_fst])
  | readUnit form x y =>
    refine of_plans ?_ (by rw [readUnit_fst])
    have place (set : Fin 16) (way : Fin 4) : (s.readPlace set way).2.isSome = true := by
      rw [readPlace_eq]; rfl
    unfold readUnit
    split
    · dsimp only
      split
      · rfl
      · split
        · exact place _ _
        · rfl
    · split
      · split
        · exact place _ _
        · rfl
      · rfl
  | setupPort n f =>
    exact of_plans (by unfold setupPort; split <;> (try split) <;> rfl) (setupPort_plans n f s)
  | start n => exact of_plans (by unfold start; split <;> rfl) (start_plans n s)
  | stop n => exact of_plans (by unfold stop; split <;> rfl) (stop_plans n s)
  | manual n level => exact of_plans (by unfold manual; split <;> (try split) <;> rfl) (manual_plans n level s)
  | editPlan n f =>
    have answered : (editPlan n f s).2.isSome = true := by
      unfold editPlan
      split
      · split
        · rfl
        · split <;> rfl
      all_goals rfl
    have pending : (editPlan n f s).1.plans.switchPending = s.plans.switchPending := by
      unfold editPlan
      split
      · split
        · rfl
        · split <;> rfl
      all_goals rfl
    exact .inl ⟨answered, pending.trans free⟩
  | copyPlan => exact .inl ⟨rfl, free⟩
  | switchPlan =>
    unfold switchPlan
    split
    · exact .inr ⟨rfl, rfl⟩
    · refine .inl ⟨rfl, ?_⟩
      rw [answerOk_fst, switchPlans_plans]
  | clearBridges => exact of_plans rfl (clearAllBridges_plans s)
  | enter u agency role override =>
    refine of_plans ?_ (enter_plans u agency role override s)
    unfold enter
    split
    · rfl
    · split
      · rfl
      · split <;> rfl
  | remove u =>
    refine of_plans ?_ (remove_plans u s)
    unfold remove
    split
    · rfl
    · split
      · rfl
      · split <;> rfl
  | purge => exact of_plans rfl rfl
  | setWatch n f => exact of_plans (by unfold setWatch; split <;> rfl) (setWatch_plans n f s)
  | declare n =>
    refine of_plans ?_ (declare_plans n s)
    unfold declare
    split
    · rfl
    · split <;> rfl
  | clearEmergency n =>
    refine of_plans ?_ (clearEmergency_plans n s)
    unfold clearEmergency
    split
    · rfl
    · split <;> rfl
  | talk bridges => exact of_plans (by unfold talk; split <;> rfl) (talk_plans bridges s)
  | releaseConsole => exact of_plans (by unfold releaseConsole; split <;> rfl) (releaseConsole_plans s)
  | monitor mask gains => exact of_plans (by unfold monitor; split <;> rfl) (monitor_plans mask gains s)
  | setupMixer f =>
    refine of_plans ?_ (setupMixer_plans f s)
    unfold setupMixer
    split
    · split <;> rfl
    · rfl
  | halt => exact of_plans (by unfold halt; split <;> rfl) (halt_plans s)
  | run => exact of_plans (by unfold run; split <;> rfl) (run_plans s)
  | clearFault source flags =>
    refine of_plans ?_ (clearFault_plans source flags s)
    unfold clearFault
    split
    · rfl
    · split <;> rfl
  | setMask source mask switch =>
    refine of_plans ?_ (setMask_plans source mask switch s)
    unfold setMask
    split
    · rfl
    · split
      · rfl
      · split
        · rfl
        · split <;> rfl

/-! ## The places of the reply queue (R182, R185, R187) -/

/-- The reply places are in step with the frame under reception and with a pending switch. -/
def Link.placed (l : Link) (pending : Bool) : Prop :=
  l.replies.length ≤ Config.replyPlaces
  ∧ l.replies.count .reserved = (if l.rx = .hunting then 0 else 1)
  ∧ l.replies.count .awaiting = (if pending then 1 else 0)

theorem replyRule_iff {s : State} : s.replyRule ↔ s.link.placed s.plans.switchPending := Iff.rfl

theorem replyRule_of_same {s t : State} (link : t.link = s.link) (plans : t.plans = s.plans) (hs : s.replyRule) :
    t.replyRule := by
  rw [replyRule_iff, link, plans]
  exact hs

@[simp] theorem length_fillPlace (place : Place) (replies : List Place) :
    (fillPlace place replies).length = replies.length := List.length_map ..

theorem count_reserved_fillPlace {place : Place} (h : place ≠ .reserved) (replies : List Place) :
    (fillPlace place replies).count .reserved = 0 := by
  rw [List.count_eq_zero, fillPlace, List.mem_map]
  rintro ⟨x, -, is⟩
  split at is
  · exact h is
  · next other => exact other is

theorem count_awaiting_fillPlace (place : Place) (replies : List Place) : (fillPlace place replies).count .awaiting
    = replies.count .awaiting + (if place = .awaiting then replies.count .reserved else 0) := by
  induction replies with
  | nil => simp [fillPlace]
  | cons x xs ih =>
    rw [fillPlace, List.map_cons, List.count_cons, ← fillPlace, ih, List.count_cons, List.count_cons]
    cases x <;> by_cases here : place = .awaiting <;> simp [here] <;> omega

/-- What a frame's end leaves in the places: its reply, formed or still to be formed. -/
theorem placed_formReply {l : Link} {pending pending' : Bool} {place : Place} (h :
    l.replies.length ≤ Config.replyPlaces)
    (reserved : l.replies.count .reserved = 1) (awaiting : l.replies.count .awaiting = if pending then 1 else 0)
    (hunting : l.rx = .hunting) (filled : place ≠ .reserved)
    (still : (pending' = true) ↔ (pending = true ∨ place = .awaiting)) (once : pending = true → place ≠ .awaiting) :
    Link.placed { l with replies := fillPlace place l.replies } pending' := by
  refine ⟨by rw [length_fillPlace]; exact h, ?_, ?_⟩
  · rw [count_reserved_fillPlace filled, if_pos hunting]
  · rw [count_awaiting_fillPlace, awaiting, reserved]
    cases pending with
    | true =>
      rw [if_pos rfl, if_neg (once rfl), if_pos (still.mpr (.inl rfl))]
    | false =>
      by_cases waits : place = .awaiting
      · rw [if_pos waits, if_pos (still.mpr (.inr waits))]; rfl
      · rw [if_neg waits, if_neg fun yes => (still.mp yes).elim Bool.false_ne_true waits]; rfl

/-- A frame whose place is reserved is answered, or waits for its switch (R184, R185). -/
theorem replyRule_answerFrame {s : State} {kind : Byte} {act : Action} (h : s.link.replies.length ≤ Config.replyPlaces)
    (reserved : s.link.replies.count .reserved = 1)
    (awaiting : s.link.replies.count .awaiting = if s.plans.switchPending then 1 else 0)
    (hunting : s.link.rx = .hunting) (link : (act s).1.link = s.link)
    (acts : (s.plans.switchPending = true ∧ (act s).1.plans = s.plans ∧ (act s).2.isSome = true)
      ∨ s.plans.switchPending = false ∧ (((act s).2.isSome = true ∧ (act s).1.plans.switchPending = false)
        ∨ (act s).2 = none ∧ (act s).1.plans.switchPending = true)) : (s.answerFrame kind act).replyRule := by
  unfold State.answerFrame State.formReply
  rw [replyRule_iff]
  dsimp only
  rw [link]
  refine placed_formReply h reserved awaiting hunting ?_ ?_ ?_
  · split <;> exact nofun
  · rcases acts with ⟨pending, plans, answered⟩ | ⟨free, ⟨answered, pending⟩ | ⟨unanswered, pending⟩⟩
    · obtain ⟨a, is⟩ := Option.isSome_iff_exists.mp answered
      rw [plans, is, pending]
      simp
    · obtain ⟨a, is⟩ := Option.isSome_iff_exists.mp answered
      rw [pending, is, free]
      simp
    · rw [pending, unanswered]
      simp
  · intro pending
    rcases acts with ⟨-, -, answered⟩ | ⟨free, -⟩
    · obtain ⟨a, is⟩ := Option.isSome_iff_exists.mp answered
      rw [is]
      exact nofun
    · rw [free] at pending; cases pending

/-- An abandoned frame frees its place (R182, R183). -/
theorem replyRule_abandonFrame {s : State} (hs : s.replyRule) : s.abandonFrame.replyRule := by
  obtain ⟨length, -, awaiting⟩ := replyRule_iff.mp hs
  unfold State.abandonFrame
  refine replyRule_of_same (State.raise_link _ _ _) (State.raise_plans _ _ _) (replyRule_iff.mpr ⟨?_, ?_, ?_⟩)
  · exact (List.length_filter_le _ _).trans length
  · have gone : (s.endReception.link.replies.filter (· ≠ Place.reserved)).count .reserved = 0 :=
      List.count_eq_zero.mpr fun mem => absurd rfl (of_decide_eq_true (List.mem_filter.mp mem).2)
    exact gone
  · have kept : (s.endReception.link.replies.filter (· ≠ Place.reserved)).count .awaiting
        = s.link.replies.count .awaiting := List.count_filter (by decide)
    exact kept.trans awaiting

theorem replyRule_receive {s : State} {rx : LinkRx} (under : s.link.rx ≠ .hunting) (rx_under : rx ≠ .hunting)
    (hs : s.replyRule) : (s.receive rx).replyRule := by
  obtain ⟨length, reserved, awaiting⟩ := replyRule_iff.mp hs
  refine ⟨length, ?_, awaiting⟩
  rw [if_neg under] at reserved
  exact reserved.trans (if_neg rx_under).symm

/-- A complete frame with a good check is refused while a switch is pending, and else acts as a request (R184, R185). -/
theorem judgeFrame_acts (kind : Byte) (pl : List Byte) (s : State) : (judgeFrame kind pl s).1.link = s.link
    ∧ ((s.plans.switchPending = true ∧ (judgeFrame kind pl s).1.plans = s.plans
        ∧ (judgeFrame kind pl s).2.isSome = true)
      ∨ s.plans.switchPending = false
        ∧ (((judgeFrame kind pl s).2.isSome = true ∧ (judgeFrame kind pl s).1.plans.switchPending = false)
          ∨ (judgeFrame kind pl s).2 = none ∧ (judgeFrame kind pl s).1.plans.switchPending = true)) := by
  cases pending : s.plans.switchPending with
  | true =>
    have busy : judgeFrame kind pl s = s.refuse resBusy := by simp [judgeFrame, pending]
    rw [busy]
    exact ⟨rfl, .inl ⟨rfl, rfl, rfl⟩⟩
  | false =>
    obtain ⟨act, requested, judged⟩ := judgeFrame_requested kind pl s
    rw [judged]
    exact ⟨action_link requested s, .inr ⟨rfl, requested_answer requested s pending⟩⟩

theorem replyRule_completeReception {s : State} (kind : Byte) (pl : List Byte) (check : Byte)
    (under : s.link.rx ≠ .hunting) (hs : s.replyRule) : (s.completeReception kind pl check).replyRule := by
  obtain ⟨length, reserved, awaiting⟩ := replyRule_iff.mp hs
  rw [if_neg under] at reserved
  unfold State.completeReception
  dsimp only
  split
  · obtain ⟨link, acts⟩ := judgeFrame_acts kind pl s.endReception
    exact replyRule_answerFrame length reserved awaiting rfl link acts
  · have bad : ((s.endReception.raise srcDevice flagLinkFrame).formReply kind (some (.bare resBadCheck)))
        = s.endReception.answerFrame kind fun t => (t.raise srcDevice flagLinkFrame, some (.bare resBadCheck)) := rfl
    rw [bad]
    refine replyRule_answerFrame length reserved awaiting rfl (State.raise_link _ _ _) ?_
    dsimp only
    rw [State.raise_plans]
    cases pending : s.endReception.plans.switchPending with
    | true => exact .inl ⟨rfl, rfl, rfl⟩
    | false => exact .inr ⟨rfl, .inl ⟨rfl, rfl⟩⟩

theorem replyRule_takeLinkByte {s : State} (b : Byte) (hs : s.replyRule) : (s.takeLinkByte b).replyRule := by
  unfold State.takeLinkByte
  split
  · exact hs
  · split
    · next hunting =>
      split
      · next begins =>
        obtain ⟨length, reserved, awaiting⟩ := replyRule_iff.mp hs
        rw [if_pos hunting] at reserved
        refine ⟨?_, ?_, ?_⟩
        · simpa [State.receive, State.reserve] using Nat.succ_le_of_lt begins.2
        · simp [State.receive, State.reserve, reserved]
        · have same : (s.reserve.receive .length).link.replies.count .awaiting = s.link.replies.count .awaiting := by
            simp [State.receive, State.reserve]
          exact same.trans awaiting
      · exact hs
    · next rx =>
      split
      · exact replyRule_receive (by rw [rx]; exact nofun) nofun hs
      · exact replyRule_abandonFrame hs
    · next rx => exact replyRule_receive (by rw [rx]; exact nofun) (by split <;> exact nofun) hs
    · next rx => exact replyRule_receive (by rw [rx]; exact nofun) (by split <;> exact nofun) hs
    · next rx => exact replyRule_completeReception _ _ _ (by rw [rx]; exact nofun) hs

theorem replyRule_takeFrame {s : State} (kind : Byte) (pl : List Byte) {act : Action}
    (requested : ∀ s, ∃ a, Requested a ∧ act s = a s) (hs : s.replyRule) : (s.takeFrame kind pl act).replyRule := by
  unfold State.takeFrame
  split
  · next ready =>
    obtain ⟨length, reserved, awaiting⟩ := replyRule_iff.mp hs
    simp only [Link.ready, Bool.and_eq_true, beq_iff_eq, decide_eq_true_iff] at ready
    obtain ⟨⟨⟨hunting, -⟩, free⟩, -⟩ := ready
    rw [if_pos hunting] at reserved
    have room : s.reserve.endReception.link.replies.length ≤ Config.replyPlaces := by
      simpa [State.endReception, State.reserve] using Nat.succ_le_of_lt free
    have one : s.reserve.endReception.link.replies.count .reserved = 1 := by
      simp [State.endReception, State.reserve, reserved]
    have awaiting' : s.reserve.endReception.link.replies.count .awaiting
        = if s.reserve.endReception.plans.switchPending then 1 else 0 := by
      have same : s.reserve.endReception.link.replies.count .awaiting = s.link.replies.count .awaiting := by
        simp [State.endReception, State.reserve]
      exact same.trans awaiting
    obtain ⟨a, is_requested, same⟩ := requested s.reserve.endReception
    cases pending : s.reserve.endReception.plans.switchPending with
    | true =>
      refine replyRule_answerFrame room one awaiting' rfl ?_ (.inl ⟨pending, ?_, ?_⟩)
      all_goals rw [if_pos pending]; rfl
    | false =>
      refine replyRule_answerFrame room one awaiting' rfl ?_ (.inr ⟨pending, ?_⟩)
      · rw [if_neg (by rw [pending]; exact Bool.false_ne_true), same]
        exact action_link is_requested _
      · rw [if_neg (by rw [pending]; exact Bool.false_ne_true), same]
        exact requested_answer is_requested _ pending
  · exact KeptByOperations.foldl (f := State.takeLinkByte) (fun s b hs => replyRule_takeLinkByte b hs) _ hs

/-- The reply at the head leaves the queue as it starts (R187). -/
theorem replyRule_sendReply {s : State} {bytes : List Byte} (head : s.formedHead = some bytes) (hs : s.replyRule) :
    (s.sendReply bytes).replyRule := by
  unfold State.formedHead at head
  split at head
  · next first rest replies =>
    obtain ⟨length, reserved, awaiting⟩ := replyRule_iff.mp hs
    rw [replies] at length reserved awaiting
    rw [replyRule_iff]
    simp only [State.sendReply, replies, List.tail_cons, Link.placed]
    refine ⟨(Nat.le_succ _).trans length, ?_, ?_⟩
    · rw [← reserved, List.count_cons]; rfl
    · rw [← awaiting, List.count_cons]; rfl
  all_goals cases head

theorem replyRule_linkTaken {f : State → State} (h : LinkTaken f) {s : State} (hs : s.replyRule) : (f s).replyRule := by
  cases h with
  | gap =>
    unfold State.expireGap
    split
    · exact hs
    all_goals exact replyRule_abandonFrame hs
  | reply =>
    unfold State.startReply
    split
    · next head => exact replyRule_sendReply head hs
    · exact hs
  | notice src =>
    unfold State.startNotice
    split
    · exact hs
    · exact hs
  | transmission =>
    unfold State.endTransmission State.chooseNext
    split
    · split
      · next head => exact replyRule_sendReply (s := { s with link := { s.link with tx := none } }) head hs
      · split
        · exact hs
        · exact hs
    · exact hs
  | lineWait on => exact hs

/-- The reply of a pending PLAN_SWITCH is formed as the switch is made (R58). -/
theorem replyRule_makeSwitch {s : State} (hs : s.replyRule) : s.makeSwitch.replyRule := by
  obtain ⟨length, reserved, -⟩ := replyRule_iff.mp hs
  have formed : s.makeSwitch.plans.switchPending = false := by
    have plans : s.makeSwitch.plans = s.switchPlans.plans := rfl
    rw [plans, switchPlans_plans]
  rw [replyRule_iff, formed]
  unfold State.makeSwitch State.formSwitchReply
  dsimp only
  rw [switchPlans_link]
  refine ⟨by rw [List.length_map]; exact length, ?_, ?_⟩
  · rw [← reserved]
    generalize s.link.replies = l
    induction l with
    | nil => rfl
    | cons x xs ih =>
      rw [List.map_cons, List.count_cons, List.count_cons, ih]
      cases x <;> rfl
  · rw [if_neg Bool.false_ne_true, List.count_eq_zero, List.mem_map]
    rintro ⟨x, -, is⟩
    split at is
    · cases is
    · next other => exact other is

theorem replyRule_events : KeptByEvents State.replyRule where
  pending _ _ hs := hs
  due _ _ hs := hs
  takeDue s d hs := replyRule_of_same (takeDue_link s d) (takeDue_plans s d) hs
  operated {f} form s hs := by
    rcases operated_link_plans form s with ⟨link, plans⟩ | made | ⟨t, latched, rfl | made⟩
    · exact replyRule_of_same link plans hs
    · rw [made]; exact replyRule_makeSwitch hs
    · rw [latched]; exact replyRule_of_same (s := t) rfl rfl hs
    · rw [latched, made]; exact replyRule_of_same (s := s.makeSwitch) rfl rfl (replyRule_makeSwitch hs)
  assertReset _ _ := ⟨Nat.zero_le _, rfl, rfl⟩
  releaseReset _ _ s hs := by
    unfold State.releaseReset
    split
    · exact hs
    · exact hs

theorem replyRule_step {s t : State} (h : step s = .next t) (hs : s.replyRule) : t.replyRule := by
  unfold step at h
  split at h
  · cases h; exact hs
  · next c rest _ =>
    have begun : State.replyRule { s with pending := rest } := hs
    refine replyRule_events.exec_of h begun (fun form s => replyRule_linkTaken form) ?_ ?_
    · intro kind pl act _ taken requested
      rw [taken] at h
      exact replyRule_events.operate (fun s => replyRule_takeFrame kind pl requested) h begun
    · rintro b rfl
      exact replyRule_events.operate (fun s => replyRule_takeLinkByte b) h begun

/-- Settles O60: bursts and the mixer by the pieces that write them, flags by what raises one, reply places by what the
link writes. -/
theorem everyStepKeepsNoticesLinkAndMixer : Obligations.EveryStepKeepsNoticesLinkAndMixer :=
  fun _ _ h => ⟨burstRule_kept.step burstRule_apart h, flagsExist_pieces.step flagsExist_requests flagsExist_apart h,
    replyRule_step h, mixerRule_kept.step mixerRule_apart h⟩

end Sys2Proof.Machine
end

section
/-! SUPPORT. A property of the places in the bridges: what the arbiter's operations keep, every step keeps. -/

namespace Sys2Proof.Machine

/-! ## What a property of the places speaks of -/

/-- Holder, stack and queue of every bridge, and the console's talk set. -/
def State.places (s : State) : Vector (Option Holder × List StackEntry × List QueueEntry) 8 × BridgeSet :=
  (s.bridges.map fun r => (r.holder, r.stack, r.queue), s.console.talk)

section
variable {s t : State}

theorem places_of_parts (bridges : t.bridges = s.bridges) (console : t.console = s.console) : t.places = s.places := by
  simp only [State.places, bridges, console]

theorem places_bridge (h : t.places = s.places) (b : BridgeId) : (t.bridge b).holder = (s.bridge b).holder
    ∧ (t.bridge b).stack = (s.bridge b).stack ∧ (t.bridge b).queue = (s.bridge b).queue := by
  have bridges := congrArg Prod.fst h
  simpa [State.places, State.bridge] using
    congrArg (fun v : Vector (Option Holder × List StackEntry × List QueueEntry) 8 => v[b]) bridges

theorem places_talk (h : t.places = s.places) : t.console.talk = s.console.talk := congrArg Prod.snd h

theorem places_setBridge {b : BridgeId} {r : Bridge} (holder : r.holder = (s.bridge b).holder)
    (stack : r.stack = (s.bridge b).stack) (queue : r.queue = (s.bridge b).queue) :
    (s.setBridge b r).places = s.places := by
  simp only [State.places, State.setBridge]
  rw [map_set_eq]
  simp only [Prod.mk.injEq]
  exact ⟨holder, stack, queue⟩

@[simp] theorem places_setPort (s : State) (p : PortId) (q : Port) : (s.setPort p q).places = s.places := rfl

@[simp] theorem places_updatePort (s : State) (p : PortId) (f : Port → Port) : (s.updatePort p f).places = s.places :=
  places_of_parts (State.updatePort_bridges ..) (State.updatePort_console ..)

@[simp] theorem places_reportChange (s : State) (src : Source) : (s.reportChange src).places = s.places :=
  places_of_parts (State.reportChange_bridges ..) (State.reportChange_console ..)

@[simp] theorem places_reportIf (s : State) (changed : Bool) (src : Source) :
    (s.reportIf changed src).places = s.places :=
  places_of_parts (State.reportIf_bridges ..) (State.reportIf_console ..)

@[simp] theorem places_raise (s : State) (src : Source) (n : Nat) : (s.raise src n).places = s.places :=
  places_of_parts (State.raise_bridges ..) (State.raise_console ..)

theorem places_of_view (h : t.view = s.view) : t.places = s.places := by
  have bridges : t.view.bridges = s.view.bridges := by rw [h]
  have console : t.view.console = s.view.console := by rw [h]
  exact places_of_parts bridges console

theorem places_turnLevel (s : State) (b : BridgeId) : (s.turnLevel b).places = s.places := by
  unfold State.turnLevel
  dsimp only
  split
  · rfl
  · exact places_setBridge rfl rfl rfl

theorem places_changeSegment (s : State) (b : BridgeId) : (s.changeSegment b).places = s.places := by
  unfold State.changeSegment
  dsimp only
  split
  · exact places_setBridge rfl rfl rfl
  · rfl

theorem places_burstStarted (s : State) (b : BridgeId) : (s.burstStarted b).places = s.places := by
  unfold State.burstStarted
  dsimp only
  split
  · rw [places_reportChange]; exact places_setBridge rfl rfl rfl
  · exact places_setBridge rfl rfl rfl

theorem places_burstEnded (s : State) (b : BridgeId) : (s.burstEnded b).places = s.places := by
  unfold State.burstEnded
  rw [places_reportChange]
  exact places_setBridge rfl rfl rfl

theorem places_adjustBurst (s : State) (b : BridgeId) : (s.adjustBurst b).places = s.places := by
  unfold State.adjustBurst
  dsimp only
  split
  · rfl
  · rw [places_reportChange]; exact places_setBridge rfl rfl rfl

theorem places_barHolder (s : State) (who : Talker) : (s.barHolder who).places = s.places := by
  unfold State.barHolder
  split
  · split
    · exact places_updatePort ..
    · rfl
  · rfl

theorem places_barEngaged (s : State) (p : PortId) : (s.barEngaged p).places = s.places := by
  unfold State.barEngaged
  split
  · exact places_updatePort ..
  · rfl

theorem places_dirReport (s : State) (p : PortId) (u : UnitId) : (s.dirReport p u).places = s.places := by
  unfold State.dirReport
  split
  · rfl
  · split
    · rfl
    · exact places_raise ..

theorem places_beginEngagement (s : State) (barred : Bool) (p : PortId) :
    (s.beginEngagement barred p).places = s.places := by
  unfold State.beginEngagement
  dsimp only
  split
  · exact places_updatePort ..
  · exact places_updatePort ..

theorem places_formSample (s : State) (f : Frame) (slots : Vector Half 13) :
    (s.formSample f slots).places = s.places := by
  have talk : (s.formSample f slots).console.talk = s.console.talk := by rw [formSample_console]
  unfold State.places
  rw [talk]
  congr 1
  ext i hi : 1
  have bridge := formSample_bridge s f slots ⟨i, hi⟩
  have counted (r : Bridge) : (r.countSample.holder, r.countSample.stack, r.countSample.queue)
      = (r.holder, r.stack, r.queue) := by
    unfold Bridge.countSample
    split <;> rfl
  have here : (s.formSample f slots).bridges[i] = (s.formSample f slots).bridge ⟨i, hi⟩ := rfl
  rw [Vector.getElem_map, Vector.getElem_map, here, bridge, counted]
  rfl

theorem setupMixer_console (f : MixerFields) (s : State) : (setupMixer f s).1.console = s.console := by
  unfold setupMixer
  split
  · split <;> rfl
  · rfl

theorem monitor_talk (mask : BridgeSet) (gains : Vector Half 8) (s : State) :
    (monitor mask gains s).1.console.talk = s.console.talk := by
  unfold monitor
  split <;> rfl

end

/-! ## What the arbiter's operations keep -/

/-- The arbiter's operations keep a property of the places, where `Given` holds. -/
structure KeptByArbiter (P : State → Prop) (Given : State → Prop := fun _ => True) : Prop where
  same : ∀ {s t : State}, t.places = s.places → P s → P t
  bid : ∀ (s : State) (b : BridgeId) (p : PortId), Given s → (s.bridge b).hasPlace p = false → P s →
    P (s.bid b (.port p))
  release : ∀ (s : State) (b : BridgeId) (h : Holder), (s.bridge b).holder = some h →
    (h.timer ≠ none ∨ h.who ≠ .con) → P s → P (s.release b)
  leavePlace : ∀ (s : State) (b : BridgeId) (p : PortId), P s → P (s.leavePlace b p)
  takePriority : ∀ (s : State) (b : BridgeId) (p : PortId), Given s → P s → P (s.takePriority b p)
  timerCounted : ∀ (s : State) (b : BridgeId), P s → P (s.setBridge b (s.bridge b).timerCounted)
  counted : ∀ (s : State) (cs pres : PortSet) (late : Late), P s → P (s.counted cs pres late)
  removeNonMembers : ∀ (s : State) (b : BridgeId), P s → P (s.removeNonMembers b)
  clearAllBridges : ∀ s : State, Given s → P s → P s.clearAllBridges
  moveConsole : ∀ (s : State) (carried : BridgeSet), Given s → P s → P (s.moveConsole carried)

namespace KeptByArbiter
variable {P Given : State → Prop} {s : State}

theorem endEngagement (k : KeptByArbiter P Given) (p : PortId) (hs : P s) : P (s.endEngagement p) := by
  unfold State.endEngagement
  dsimp only
  refine k.same (places_updatePort ..) ?_
  split
  · exact k.leavePlace _ _ p (k.same (places_updatePort ..) hs)
  · exact k.same (places_updatePort ..) hs

theorem takeBid (k : KeptByArbiter P Given) (p : PortId) (given : Given s) (hs : P s) : P (s.takeBid p) := by
  rcases takeBid_cases s p with same | ⟨b, -, -, -, place, bid⟩
  · rw [same]; exact hs
  · rw [bid]; exact k.bid s b p given place hs

theorem keying (kI : KeptByRest Given) (k : KeptByArbiter P Given) : KeptByKeying fun s => Given s ∧ P s where
  setKey _ _ _ _ _ hs := ⟨kI.backdrop (setKey_backdrop ..) hs.1, k.same (places_updatePort ..) hs.2⟩
  beginEngagement _ _ _ _ hs :=
    ⟨kI.backdrop (beginEngagement_backdrop ..) hs.1, k.same (places_beginEngagement ..) hs.2⟩
  endEngagement _ p _ hs := ⟨kI.backdrop (endEngagement_backdrop ..) hs.1, k.endEngagement p hs.2⟩
  keyLimit _ _ hs := ⟨kI.backdrop (raise_backdrop ..) hs.1, k.same (places_raise ..) hs.2⟩
  takeHandedBids s := takeHandedBids_keeps (P := fun s => Given s ∧ P s)
    (fun hs => ⟨kI.backdrop (s := s) rfl hs.1, k.same (s := s) rfl hs.2⟩)
    fun s p hs => ⟨kI.backdrop (takeBid_backdrop s p) hs.1, k.takeBid p hs.1 hs.2⟩

theorem priorities (kI : KeptByRest Given) (k : KeptByArbiter P Given) : KeptByPriorities P Given where
  same h hs := k.same (places_of_view h) hs
  handOn _ hs given := ((k.keying kI).handOn ⟨given, hs⟩).2
  takePriority s b p hs given := k.takePriority s b p given hs
  setup s _ _ _ _ _ hs _ := k.same (s := s) rfl hs
  emergency _ _ _ hs _ := k.same (places_updatePort ..) hs
  takeIdentity _ _ _ hs _ := k.same (places_updatePort ..) hs
  burstStarted s b hs _ := k.same (places_burstStarted s b) hs
  dirReport s p u _ hs _ := k.same (places_dirReport s p u) hs
  flagUnit s _ _ hs _ := k.same (s := s) rfl hs
  written s _ _ _ _ _ _ _ _ _ hs _ := k.same (s := s) rfl hs
  freed s _ _ _ hs _ := k.same (s := s) rfl hs

theorem plansExchanged (k : KeptByArbiter P Given) (plans : Plans) (hs : P s) :
    P (allBridges.foldl State.adjustBurst (allBridges.foldl State.removeNonMembers { s with plans := plans })) :=
  KeptByOperations.foldl (f := State.adjustBurst) (fun t b ht => k.same (places_adjustBurst t b) ht) _
    (KeptByOperations.foldl (f := State.removeNonMembers) (fun t b ht => k.removeNonMembers t b ht) _
      (k.same (s := s) rfl hs))

theorem switchPlans (kI : KeptByRest Given) (k : KeptByArbiter P Given) (given : Given s) (hs : P s) :
    P s.switchPlans := by
  have joint := k.keying kI
  unfold State.switchPlans
  dsimp only
  refine (joint.handOn (KeptByOperations.foldl (P := fun s => Given s ∧ P s) (fun t p ht => ?_) _
    (KeptByOperations.foldl (P := fun s => Given s ∧ P s) (fun t p ht => ?_) _ ⟨kI.switched s _ ?_ given,
      k.plansExchanged _ hs⟩))).2
  · split
    · exact ⟨kI.backdrop (takeBid_backdrop t p) ht.1, k.takeBid p ht.1 ht.2⟩
    · exact ht
  · exact joint.takeHandedBids _ (joint.removeDestination _ p ht)
  · exact rest_of_backdrop (foldl_backdrop _ removeNonMembers_backdrop _ _)

theorem pieces (kI : KeptByRest Given) (k : KeptByArbiter P Given) : KeptByPieces P Given where
  same h hs := k.same (places_of_view h) hs
  raise _ _ _ _ hs _ := k.same (places_raise ..) hs
  handOn s hs given := ((k.keying kI).handOn ⟨given, hs⟩).2
  turnLevel s b hs _ := k.same (places_turnLevel s b) hs
  changeSegment s b hs _ := k.same (places_changeSegment s b) hs
  burstEnded s b hs _ := k.same (places_burstEnded s b) hs
  setReceiver s _ _ _ hs _ := k.same (s := s) rfl hs
  cutPlace s b h held last hs _ := by
    refine k.same (places_raise ..) (k.release _ b h ?_ (.inl ?_) (k.same (places_barHolder s h.who) hs))
    · rw [(places_bridge (places_barHolder s h.who) b).1]; exact held
    · intro none_runs
      simp [Bridge.timerLast, held, none_runs] at last
  timerCounted s b hs _ := k.timerCounted s b hs
  keyReached s p hs given := ((k.keying kI).keyReached p
    ⟨kI.same (rest_setPort (keyCounted_setup _)) given, k.same (s := s) rfl hs⟩).2
  activated _ _ _ hs _ := k.same (places_updatePort ..) hs
  departed s p life _ _ hs _ := by
    have left : P (s.updatePort p fun q => { q with lifecycle := life }) := k.same (places_updatePort ..) hs
    unfold State.departed
    dsimp only
    refine k.same (places_updatePort ..) ?_
    split
    · exact k.endEngagement p left
    · exact left
  requalified s p hs given := by
    refine ((k.keying kI).judgeEngagement false p ⟨kI.same (rest_setPort ?_) given, k.same (s := s) rfl hs⟩).2
    unfold Port.requalified
    dsimp only
    split_ifs <;> rfl
  acceptIdent _ p u valid hs given := ((kI.priorities.and (k.priorities kI)).acceptIdent p u valid ⟨given, hs⟩).2
  acceptEmerg _ p u valid hs given := ((kI.priorities.and (k.priorities kI)).acceptEmerg p u valid ⟨given, hs⟩).2
  acceptEmergClear _ p u valid hs given :=
    ((kI.priorities.and (k.priorities kI)).acceptEmergClear p u valid ⟨given, hs⟩).2
  switchPlans _ hs given := k.switchPlans kI given hs
  latched s _ _ hs _ := k.same (s := s) rfl hs
  formSample s f slots _ _ _ hs _ := k.same (places_formSample s f slots) hs
  counted s _ cs pres late _ _ hs _ := k.counted s cs pres late hs

theorem requests (kI : KeptByRest Given) (k : KeptByArbiter P Given) : KeptByRequests P Given where
  startLost _ _ _ hs _ := k.same (places_updatePort ..) hs
  writeSetup _ p f new read h hs given := ((kI.priorities.and (k.priorities kI)).writeSetup p read h ⟨given, hs⟩).2
  pendSwitch s hs _ := k.same (s := s) rfl hs
  writeRecord s _ _ _ _ _ _ hs _ := k.same (s := s) rfl hs
  copyPlan s hs _ := k.same (s := s) rfl hs
  clearAllBridges s hs given := k.clearAllBridges s given hs
  haltMixer s hs _ := k.same (s := s) rfl hs
  runMixer s _ hs _ := k.same (s := s) rfl hs
  setupMixer f s hs _ := k.same (places_of_parts (setupMixer_bridges f s) (setupMixer_console f s)) hs
  monitor mask gains s hs _ := by
    refine k.same ?_ hs
    unfold State.places
    rw [monitor_bridges, monitor_talk]
  moveConsole s carried hs given := k.moveConsole s carried given hs
  entered s u agency role o w d valid range room hs given := ((kI.priorities.and (k.priorities kI)).handOverride s u
    ⟨kI.written s u agency role o w d valid range room given, k.same (s := s) rfl hs⟩).2
  removed s u w found hs given := ((kI.priorities.and (k.priorities kI)).handOverride s u
    ⟨kI.freed s u w found given, k.same (s := s) rfl hs⟩).2
  purged s hs _ := k.same (s := s) rfl hs
  declared _ p _ hs given := by
    have joint := kI.priorities.and (k.priorities kI)
    exact (joint.handPriority p _ (joint.enterEmergency p none ⟨given, hs⟩)).2
  leaveEmergency _ p hs given := ((kI.priorities.and (k.priorities kI)).leaveEmergency p ⟨given, hs⟩).2
  leaveUnit s u hs given := by
    have joint := kI.priorities.and (k.priorities kI)
    exact (joint.leaveAllSourced u (joint.flagUnit s u false ⟨given, hs⟩)).2
  clearFlags s _ _ hs _ := k.same (s := s) rfl hs
  writeMask s _ _ _ _ _ hs _ := by
    rw [writeMask_eq]
    exact k.same (s := s) rfl hs

end KeptByArbiter

/-- What holds of every state is kept. -/
theorem keptByRest_true : KeptByRest fun _ => True := by
  constructor <;> intros <;> trivial

/-! ## A property of each bridge's places -/

/-- The same holder; the same ports in the stack, whatever their tags and times; and no entry in the queue that was not
there. -/
def Bridge.thins (r' r : Bridge) : Prop := r'.holder.map (·.who) = r.holder.map (·.who)
  ∧ r'.stack.map (·.port) = r.stack.map (·.port) ∧ r'.queue.Sublist r.queue

/-- The arbiter's operations keep a property of each bridge. -/
structure KeptInBridge (Q : Bridge → Prop) : Prop where
  thins : ∀ {r' r : Bridge}, r'.thins r → Q r → Q r'
  bid : ∀ (s : State) (b : BridgeId) (who : Talker), (∀ p, who = .port p → (s.bridge b).hasPlace p = false) →
    Q (s.bridge b) → Q ((s.bid b who).bridge b)
  release : ∀ (s : State) (b : BridgeId), Q (s.bridge b) → Q ((s.release b).bridge b)
  takePriority : ∀ (s : State) (b : BridgeId) (p : PortId), Q (s.bridge b) → Q ((s.takePriority b p).bridge b)
  emptied : ∀ r : Bridge, r.holder = none → r.stack = [] → r.queue = [] → Q r

theorem thins_of_same {r' r : Bridge} (holder : r'.holder = r.holder) (stack : r'.stack = r.stack)
    (queue : r'.queue = r.queue) : r'.thins r :=
  ⟨by rw [holder], by rw [stack], by rw [queue]⟩

theorem thins_timerCounted (r : Bridge) : r.timerCounted.thins r := by
  refine ⟨?_, rfl, .refl _⟩
  unfold Bridge.timerCounted
  cases r.holder <;> rfl

theorem thins_completed (late : Bool) (r : Bridge) : (r.completed late).thins r := by
  have counted (x : Bridge) (holder : x.holder = r.holder) (stack : x.stack = r.stack) (queue : x.queue = r.queue) :
      (if late || x.timerLast then x else x.timerCounted).thins r := by
    have thin := thins_timerCounted x
    split
    · exact thins_of_same holder stack queue
    · rw [Bridge.thins, holder, stack, queue] at thin
      exact thin
  unfold Bridge.completed
  dsimp only
  split
  · exact counted _ rfl rfl rfl
  · exact counted _ rfl rfl rfl

/-- What leaving a place does where the port is not the holder. -/
theorem thins_left (r : Bridge) (p : PortId) : Bridge.thins { r with
    stack := r.stack.map fun e => if e.port = p then { e with tag := Tag.empty } else e
    queue := r.queue.filter fun e => !(e.port == p) } r := by
  refine ⟨rfl, ?_, List.filter_sublist⟩
  rw [List.map_map]
  refine List.map_congr_left fun e _ => ?_
  simp only [Function.comp]
  split <;> rfl

theorem thins_nonMembers (r : Bridge) (members : PortSet) : Bridge.thins { r with
    queue := r.queue.filter fun e => members.getLsbD e.port
    stack := r.stack.map fun e => if members.getLsbD e.port then e else { e with tag := Tag.empty } } r := by
  refine ⟨rfl, ?_, List.filter_sublist⟩
  rw [List.map_map]
  refine List.map_congr_left fun e _ => ?_
  simp only [Function.comp]
  split <;> rfl

theorem limitHolder_who (limit : Nat) (h : Holder) : (limitHolder limit h).who = h.who := by
  unfold limitHolder
  split <;> rfl

theorem limitEntry_port (limit : Nat) (e : StackEntry) : (limitEntry limit e).port = e.port := by
  unfold limitEntry
  split <;> rfl

theorem limitEntry_tag (limit : Nat) (e : StackEntry) : (limitEntry limit e).tag = e.tag := by
  unfold limitEntry
  split <;> rfl

theorem thins_limited (r : Bridge) (limit : Nat) : Bridge.thins { r with
    holder := r.holder.map (limitHolder limit), stack := r.stack.map (limitEntry limit) } r := by
  refine ⟨?_, ?_, .refl _⟩
  · cases r.holder with
    | none => rfl
    | some h => simp [limitHolder_who]
  · rw [List.map_map]
    exact List.map_congr_left fun e _ => limitEntry_port limit e

namespace KeptInBridge
variable {Q : Bridge → Prop} {s : State}

theorem actsOn (_ : KeptInBridge Q) {t : State} {b : BridgeId} (acts : ∀ c, c ≠ b → t.bridge c = s.bridge c)
    (here : Q (t.bridge b)) (hs : ∀ c, Q (s.bridge c)) (c : BridgeId) : Q (t.bridge c) := by
  by_cases h : c = b
  · rw [h]; exact here
  · rw [acts c h]; exact hs c

theorem updateBridge (k : KeptInBridge Q) (b : BridgeId) (f : Bridge → Bridge) (here : Q (f (s.bridge b)))
    (hs : ∀ c, Q (s.bridge c)) : ∀ c, Q ((s.updateBridge b f).bridge c) :=
  k.actsOn (actsOn_updateBridge s b f).other (by rw [State.bridge_updateBridge_same]; exact here) hs

theorem releases (k : KeptInBridge Q) (b : BridgeId) (hs : ∀ c, Q (s.bridge c)) : ∀ c, Q ((s.release b).bridge c) :=
  k.actsOn (actsOn_release s b).other (k.release s b (hs b)) hs

theorem bids (k : KeptInBridge Q) (b : BridgeId) (who : Talker)
    (place : ∀ p, who = .port p → (s.bridge b).hasPlace p = false) (hs : ∀ c, Q (s.bridge c)) :
    ∀ c, Q ((s.bid b who).bridge c) :=
  k.actsOn (fun _ => bid_bridge_ne) (k.bid s b who place (hs b)) hs

theorem leaves (k : KeptInBridge Q) (b : BridgeId) (p : PortId) (hs : ∀ c, Q (s.bridge c)) :
    ∀ c, Q ((s.leavePlace b p).bridge c) := by
  unfold State.leavePlace
  split
  · exact k.releases b hs
  · exact k.updateBridge b _ (k.thins (thins_left _ p) (hs b)) hs

theorem removesNonMembers (k : KeptInBridge Q) (b : BridgeId) (hs : ∀ c, Q (s.bridge c)) :
    ∀ c, Q ((s.removeNonMembers b).bridge c) := by
  have thinned := k.updateBridge b (fun r : Bridge => { r with
      queue := r.queue.filter fun e => (s.record b).members.getLsbD e.port
      stack := r.stack.map fun e =>
        if (s.record b).members.getLsbD e.port then e else { e with tag := Tag.empty } })
    (k.thins (thins_nonMembers (s.bridge b) (s.record b).members) (hs b)) hs
  have limited := k.updateBridge b (fun r : Bridge => { r with
      holder := r.holder.map (limitHolder (s.record b).talkLimit)
      stack := r.stack.map (limitEntry (s.record b).talkLimit) })
    (k.thins (thins_limited _ (s.record b).talkLimit) (thinned b)) thinned
  unfold State.removeNonMembers
  dsimp only
  split
  · split
    · split
      · exact limited
      · exact k.releases b limited
    · exact limited
  · exact limited

/-- A property of each bridge that the arbiter's operations keep. -/
def all (Q : Bridge → Prop) (s : State) : Prop := ∀ b : BridgeId, Q (s.bridge b)

theorem all_of_places (k : KeptInBridge Q) {t : State} (h : t.places = s.places) (hs : all Q s) : all Q t := by
  intro b
  obtain ⟨holder, stack, queue⟩ := places_bridge h b
  exact k.thins (thins_of_same holder stack queue) (hs b)

/-- The keying of a property of each bridge. -/
theorem keying (k : KeptInBridge Q) : KeptByKeying (all Q) where
  setKey s p key timing keyUp hs := k.all_of_places (places_updatePort ..) hs
  beginEngagement s barred p _ hs := k.all_of_places (places_beginEngagement ..) hs
  endEngagement s p _ hs := by
    unfold State.endEngagement
    dsimp only
    refine k.all_of_places (places_updatePort ..) ?_
    split
    · exact k.leaves _ p (k.all_of_places (places_updatePort ..) hs)
    · exact k.all_of_places (places_updatePort ..) hs
  keyLimit s p hs := k.all_of_places (places_raise ..) hs
  takeHandedBids s := takeHandedBids_keeps (fun hs => hs) fun s p hs => by
    rcases takeBid_cases s p with same | ⟨b, -, -, -, place, bid⟩
    · rw [same]; exact hs
    · rw [bid]
      exact k.bids b _ (fun r is => by cases is; exact place) hs

theorem arbiter (k : KeptInBridge Q) : KeptByArbiter (all Q) where
  same := k.all_of_places
  bid s b p _ place hs := k.bids b _ (fun r is => by cases is; exact place) hs
  release s b _ _ _ hs := k.releases b hs
  leavePlace s b p hs := k.leaves b p hs
  takePriority s b p _ hs := k.actsOn (actsOn_takePriority s b p).other (k.takePriority s b p (hs b)) hs
  timerCounted s b hs := by
    intro c
    rw [bridge_setBridge]
    split
    · exact k.thins (thins_timerCounted _) (hs b)
    · exact hs c
  counted s cs pres late hs := by
    intro c
    rw [counted_bridge]
    exact k.thins (thins_completed _ _) (hs c)
  removeNonMembers s b hs := k.removesNonMembers b hs
  clearAllBridges s _ hs := by
    refine KeptByOperations.foldl (f := State.clearKey) (fun t p ht => k.keying.clearKey p ht) _
      (KeptByOperations.foldl (f := State.barEngaged) (fun t p ht => k.all_of_places (places_barEngaged t p) ht) _
        (KeptByOperations.foldl (f := State.emptyBridge) (fun t b ht c => ?_) _
          (k.all_of_places (places_reportIf ..) (show all Q { s with console := _ } from hs))))
    rw [emptyBridge_bridge]
    split
    · exact k.emptied _ rfl rfl rfl
    · exact ht c
  moveConsole s carried _ hs := by
    have joins (t : State) (b : BridgeId) (ht : all Q t) : all Q (t.bid b .con) := k.bids b .con nofun ht
    have leaves (t : State) (b : BridgeId) (ht : all Q t) : all Q (t.consoleLeave b) := by
      unfold State.consoleLeave
      split
      · exact k.releases b ht
      · exact ht
    have moved : all Q ((s.leaveBridges (s.console.talk &&& ~~~carried)).joinBridges
      (carried &&& ~~~s.console.talk)) := by
      refine KeptByOperations.foldl (P := all Q) (fun t b ht => ?_) _
        (KeptByOperations.foldl (P := all Q) (fun t b ht => ?_) _ hs)
      · split
        · exact k.keying.handOn (joins t b ht)
        · exact ht
      · split
        · exact k.keying.handOn (leaves t b ht)
        · exact ht
    unfold State.moveConsole State.writeTalk
    intro b
    rw [bridge_reportIf]
    exact moved b

/-- What the arbiter's operations keep in each bridge, every step keeps. -/
theorem step (k : KeptInBridge Q) {t : State} (h : step s = .next t) (hs : all Q s) : all Q t := by
  have apart : KeptApart (all Q) := ⟨fun _ _ hs => hs, fun b => by rw [bridge_reset]; exact k.emptied _ rfl rfl rfl⟩
  exact (k.arbiter.pieces keptByRest_true).step (k.arbiter.requests keptByRest_true) apart h hs

end KeptInBridge

end Sys2Proof.Machine
end

section
/-! SUPPORT. Stacks within their depth, nothing at a free path, no port named twice: kept in each bridge by what the
arbiter does to it (R71 to R74, R81). -/

namespace Sys2Proof.Machine

/-! ## Stack and queue once a full stack has spilled (R81) -/

/-- The stack is within its depth (R73). -/
def Bridge.stackBounded (r : Bridge) : Prop := r.stack.length ≤ Config.stackDepth

/-- Nothing waits at a free path (R72). -/
def Bridge.freeEmpty (r : Bridge) : Prop := r.holder = none → r.stack = [] ∧ r.queue = []

section
variable {s : State} {b : BridgeId} {who : Talker} {stamp : Stamp} {r : Bridge}

theorem spilled_length (s : State) {stack : List StackEntry} (queue : List QueueEntry)
    (bounded : stack.length ≤ Config.stackDepth) : (s.spilled stack queue).1.length + 1 ≤ Config.stackDepth := by
  rcases List.eq_nil_or_concat stack with rfl | ⟨rest, bottom, rfl⟩
  · rw [spilled_of_short (stack := []) (Nat.zero_lt_succ 3)]; exact Nat.le_of_ble_eq_true rfl
  · have depth : Config.stackDepth = 4 := rfl
    rw [List.concat_eq_append] at bounded ⊢
    rw [List.length_append] at bounded
    by_cases full : 4 ≤ (rest ++ [bottom]).length
    · rw [spilled_concat full]
      exact bounded
    · rw [spilled_of_short (Nat.lt_of_not_le full)]
      exact Nat.lt_of_not_le full

theorem pushed_length (holder : Option Holder) : ((holder.map pushedEntry).getD []).length ≤ 1 := by
  cases holder with
  | none => exact Nat.zero_le 1
  | some h =>
    have short : (pushedEntry h).length ≤ 1 := by
      unfold pushedEntry
      cases h.who with
      | port p => exact Nat.le_refl 1
      | con => exact Nat.zero_le 1
    exact short

/-- The ports of stack and queue after a spill: none is new, and none stands there more often. -/
theorem spilled_subperm (s : State) (stack : List StackEntry) (queue : List QueueEntry) :
    ((s.spilled stack queue).1.map (·.port) ++ (s.spilled stack queue).2.map (·.port)).Subperm
      (stack.map (·.port) ++ queue.map (·.port)) := by
  rcases List.eq_nil_or_concat stack with rfl | ⟨rest, bottom, rfl⟩
  · rw [spilled_of_short (by decide)]
  · rw [List.concat_eq_append]
    by_cases full : 4 ≤ (rest ++ [bottom]).length
    · rw [spilled_concat full, List.map_append, List.append_assoc]
      refine (List.subperm_append_left _).mpr ?_
      split
      · exact (((insertEntry_perm s ⟨bottom.port, bottom.stamp⟩ queue).map (·.port))).subperm
      · exact (List.sublist_append_right _ _).subperm
    · rw [spilled_of_short (Nat.lt_of_not_le full)]

theorem pushed_ports (holder : Option Holder) :
    ((holder.map pushedEntry).getD []).map (·.port) = (holder.map (·.who.ports)).getD [] := by
  cases holder with
  | none => rfl
  | some h =>
    have ports : (pushedEntry h).map (·.port) = h.who.ports := by
      unfold pushedEntry
      cases h.who <;> rfl
    exact ports

/-- Whom a bridge names after its path has been taken: the bidder, and none twice who was not. -/
theorem preempted_named (s : State) (b : BridgeId) (who : Talker) (stamp : Stamp) (r : Bridge) :
    (s.preempted b who stamp r).named.Subperm (who.ports ++ r.named) := by
  simp only [Bridge.named, State.preempted, State.grant, Option.map_some, Option.getD_some, List.map_append,
    pushed_ports,
    List.append_assoc]
  exact (List.subperm_append_left _).mpr ((List.subperm_append_left _).mpr (spilled_subperm s _ _))

theorem nodup_of_subperm {α : Type} {l l' : List α} (h : l.Subperm l') (nodup : l'.Nodup) : l.Nodup := by
  obtain ⟨m, perm, sub⟩ := h
  exact perm.nodup_iff.mp (nodup.sublist sub)

theorem waiting_sublist (r : Bridge) : r.waiting.Sublist r.stack := List.dropWhile_sublist _

/-! ## The three properties, each kept in each bridge -/

theorem stackBounded_preempted (bounded : r.stackBounded) : (s.preempted b who stamp r).stackBounded := by
  have below := spilled_length s r.queue bounded
  have one := pushed_length r.holder
  simp only [Bridge.stackBounded, State.preempted, List.length_append]
  omega

theorem stackBounded_ownRemoved (bounded : r.stackBounded) : (r.ownRemoved who).stackBounded :=
  (List.length_filter_le ..).trans bounded

theorem keptInBridge_stackBounded : KeptInBridge Bridge.stackBounded where
  thins := by
    rintro r' r ⟨-, ports, -⟩ bounded
    have length := congrArg List.length ports
    simp only [List.length_map] at length
    exact length.trans_le bounded
  bid s b who _ bounded := by
    cases held : (s.bridge b).holder with
    | none => rw [bid_bridge_of_free held]; exact stackBounded_ownRemoved bounded
    | some h =>
      by_cases above : s.outranked b who h
      · rw [bid_bridge_of_outranked held above]
        exact stackBounded_preempted (stackBounded_ownRemoved bounded)
      · cases who with
        | con => exact absurd (.inl rfl) above
        | port p => rw [bid_bridge_of_under held above]; exact stackBounded_ownRemoved bounded
  release s b bounded := by
    have waiting : (s.bridge b).waiting.length ≤ Config.stackDepth := (waiting_sublist _).length_le.trans bounded
    cases release_cases s b with
    | freed _ _ result => rw [result]; exact Nat.zero_le _
    | resumed e below stack _ result =>
      rw [stack, List.length_cons] at waiting
      rw [result]
      exact (Nat.le_succ _).trans waiting
    | granted x behind _ _ result => rw [result]; exact waiting
  takePriority s b p bounded := by
    cases takePriority_cases s b p with
    | unplaced _ result => rw [result]; exact bounded
    | holding h _ _ result => rw [result, State.bridge_updateBridge_same]; exact bounded
    | resorted h e _ _ _ _ result => rw [result, State.bridge_updateBridge_same]; exact bounded
    | preempts h e held who queued above =>
      rw [takePriority_bridge_of_outranked held who queued above]
      exact stackBounded_preempted bounded
  emptied r _ stack _ := by rw [Bridge.stackBounded, stack]; exact Nat.zero_le _

theorem freeEmpty_of_held {h : Holder} (held : r.holder = some h) : r.freeEmpty := fun free => by
  rw [held] at free; cases free

theorem keptInBridge_freeEmpty : KeptInBridge Bridge.freeEmpty where
  thins := by
    rintro r' r ⟨who, ports, queue⟩ empty free
    rw [free, Option.map_none] at who
    obtain ⟨none_stacked, none_queued⟩ := empty (Option.map_eq_none_iff.mp who.symm)
    rw [none_stacked, List.map_nil] at ports
    rw [none_queued] at queue
    exact ⟨List.map_eq_nil_iff.mp ports, List.sublist_nil.mp queue⟩
  bid s b who _ empty := by
    cases held : (s.bridge b).holder with
    | none => rw [bid_bridge_of_free held]; exact freeEmpty_of_held rfl
    | some h =>
      by_cases above : s.outranked b who h
      · rw [bid_bridge_of_outranked held above]; exact freeEmpty_of_held rfl
      · cases who with
        | con => exact absurd (.inl rfl) above
        | port p => rw [bid_bridge_of_under held above]; exact freeEmpty_of_held held
  release s b empty := by
    cases release_cases s b with
    | freed _ _ result => rw [result]; exact fun _ => ⟨rfl, rfl⟩
    | resumed e below stack _ result => rw [result]; exact freeEmpty_of_held rfl
    | granted x behind _ _ result => rw [result]; exact freeEmpty_of_held rfl
  takePriority s b p empty := by
    cases takePriority_cases s b p with
    | unplaced _ result => rw [result]; exact empty
    | holding h _ _ result => rw [result, State.bridge_updateBridge_same]; exact freeEmpty_of_held rfl
    | resorted h e held _ _ _ result =>
      rw [result, State.bridge_updateBridge_same]; exact freeEmpty_of_held held
    | preempts h e held who queued above =>
      rw [takePriority_bridge_of_outranked held who queued above]; exact freeEmpty_of_held rfl
  emptied r _ stack queue _ := ⟨stack, queue⟩

/-- A port without a place that has no EMPTY entry either is not named. -/
theorem not_mem_named_ownRemoved {p : PortId} (place : r.hasPlace p = false) :
    p ∉ (r.ownRemoved (.port p)).named := by
  simp only [Bridge.hasPlace, Bool.or_eq_false_iff] at place
  obtain ⟨⟨holder, stack⟩, queue⟩ := place
  simp only [Bridge.named, Bridge.ownRemoved, List.mem_append, not_or]
  refine ⟨⟨fun held => ?_, fun stacked => ?_⟩, fun queued => ?_⟩
  · cases h : r.holder with
    | none => rw [h] at held; cases held
    | some x =>
      rw [h] at held holder
      cases who : x.who with
      | con => rw [Option.map_some, Option.getD_some, who] at held; cases held
      | port q =>
        rw [Option.map_some, Option.getD_some, who] at held
        simp [who, List.mem_singleton.mp held] at holder
  · obtain ⟨e, he, rfl⟩ := List.mem_map.mp stacked
    obtain ⟨there, kept⟩ := List.mem_filter.mp he
    have notValid := List.any_eq_false.mp stack e there
    cases tag : e.tag <;> simp [tag] at kept notValid
  · obtain ⟨e, he, rfl⟩ := List.mem_map.mp queued
    simpa using List.any_eq_false.mp queue e he

theorem named_ownRemoved_sublist (r : Bridge) (who : Talker) : (r.ownRemoved who).named.Sublist r.named :=
  (List.Sublist.append_left (List.filter_sublist.map _) _).append_right _

/-- A bidder that is not named may come to be, once. -/
theorem nodup_bidder (nodup : r.named.Nodup) (place : ∀ p, who = .port p → r.hasPlace p = false) :
    (who.ports ++ (r.ownRemoved who).named).Nodup := by
  have left := nodup.sublist (named_ownRemoved_sublist r who)
  cases who with
  | con => exact left
  | port p => exact List.nodup_cons.mpr ⟨not_mem_named_ownRemoved (place p rfl), left⟩

theorem named_insertEntry (s : State) (e : QueueEntry) (r : Bridge) (queue : List QueueEntry) :
    (Bridge.named { r with queue := s.insertEntry e queue }).Perm (e.port :: Bridge.named { r with queue := queue }) :=
  (((insertEntry_perm s e queue).map (·.port)).append_left _).trans List.perm_middle

/-- A queued port that takes the path leaves the queue first. -/
theorem nodup_requeued {p : PortId} {e : QueueEntry} (s : State) (nodup : r.named.Nodup) (he : e ∈ r.queue)
    (port : e.port = p) : (p :: Bridge.named { r with
      queue := (s.sortQueue r.queue).filter fun x => !(x.port == p) }).Nodup := by
  have queued : p ∈ r.queue.map (·.port) := List.mem_map.mpr ⟨e, he, port⟩
  have sub : (((s.sortQueue r.queue).filter fun x => !(x.port == p)).map (·.port)).Subperm (r.queue.map (·.port)) :=
    (List.filter_sublist.map _).subperm.trans ((sortQueue_perm s r.queue).map _).subperm
  refine List.nodup_cons.mpr ⟨fun named => ?_, nodup_of_subperm ((List.subperm_append_left _).mpr sub) nodup⟩
  rcases List.mem_append.mp named with before | behind
  · exact (List.nodup_append.mp nodup).2.2 p before p queued rfl
  · obtain ⟨x, hx, there⟩ := List.mem_map.mp behind
    have other := (List.mem_filter.mp hx).2
    simp [there] at other

theorem keptInBridge_named : KeptInBridge (fun r => r.named.Nodup) where
  thins := by
    rintro r' r ⟨who, ports, queue⟩ nodup
    refine nodup.sublist ?_
    have holder : r'.holder.map (fun h => h.who.ports) = r.holder.map (fun h => h.who.ports) := by
      have both := congrArg (Option.map Talker.ports) who
      rw [Option.map_map, Option.map_map] at both
      exact both
    unfold Bridge.named
    rw [holder, ports]
    exact List.Sublist.append_left (queue.map _) _
  bid s b who place nodup := by
    have bidder := nodup_bidder nodup place
    cases held : (s.bridge b).holder with
    | none =>
      have named : ((s.bridge b).ownRemoved who).named
          = ((s.bridge b).ownRemoved who).stack.map (·.port) ++ (s.bridge b).queue.map (·.port) := by
        rw [Bridge.named, ownRemoved_holder, held]
        rfl
      rw [bid_bridge_of_free held, Bridge.named, List.append_assoc]
      rw [named] at bidder
      exact bidder
    | some h =>
      by_cases above : s.outranked b who h
      · rw [bid_bridge_of_outranked held above]
        exact nodup_of_subperm (preempted_named _ b who _ _) bidder
      · cases who with
        | con => exact absurd (.inl rfl) above
        | port p =>
          rw [bid_bridge_of_under held above]
          exact (named_insertEntry _ _ _ _).nodup_iff.mpr bidder
  release s b nodup := by
    have waiting : ((s.bridge b).waiting.map (·.port) ++ (s.bridge b).queue.map (·.port)).Nodup :=
      nodup.sublist ((((waiting_sublist _).map _).trans (List.sublist_append_right _ _)).append_right _)
    cases release_cases s b with
    | freed _ _ result => rw [result]; exact List.nodup_nil
    | resumed e below stack _ result =>
      rw [stack] at waiting
      rw [result]
      exact waiting
    | granted x behind queue _ result =>
      rw [queue, List.map_cons] at waiting
      rw [result]
      exact List.perm_middle.nodup_iff.mp waiting
  takePriority s b p nodup := by
    cases takePriority_cases s b p with
    | unplaced _ result => rw [result]; exact nodup
    | holding h held who result =>
      rw [result, State.bridge_updateBridge_same]
      have same : Bridge.named { s.bridge b with holder := some { h with priority := s.effPriority p } }
          = (s.bridge b).named := by rw [Bridge.named, Bridge.named, held]; rfl
      rw [same]
      exact nodup
    | resorted h e _ _ _ _ result =>
      rw [result, State.bridge_updateBridge_same]
      exact ((((sortQueue_perm s _).map (·.port)).append_left _).nodup_iff).mpr nodup
    | preempts h e held who queued above =>
      rw [takePriority_bridge_of_outranked held who queued above]
      refine nodup_of_subperm (preempted_named ..) (nodup_requeued s nodup (List.mem_of_find?_eq_some queued) ?_)
      simpa using List.find?_some queued
  emptied r holder stack queue := by
    rw [Bridge.named, holder, stack, queue]
    exact List.nodup_nil

end

/-! ## Every step keeps them -/

theorem stacksBounded_kept {s t : State} (h : step s = .next t) (hs : s.stacksBounded) : t.stacksBounded :=
  keptInBridge_stackBounded.step h hs

theorem freeBridgesEmpty_kept {s t : State} (h : step s = .next t) (hs : s.freeBridgesEmpty) : t.freeBridgesEmpty :=
  keptInBridge_freeEmpty.step h hs

theorem namedOnce_kept {s t : State} (h : step s = .next t) (hs : s.namedOnce) : t.namedOnce :=
  keptInBridge_named.step h hs

end Sys2Proof.Machine
end

section
/-! SUPPORT. Where the console holds (R72, R79, R83, R148 to R150). -/

namespace Sys2Proof.Machine

/-! ## The console at one bridge -/

/-- The console holds or does not, and where it does, at 5 and without a talk timer. -/
def Bridge.consoleIs (r : Bridge) (on : Bool) : Prop := r.holder.any (·.who == .con) = on
  ∧ ∀ h : Holder, r.holder = some h → h.who = .con → h.priority = 5 ∧ h.timer = none

section
variable {s : State} {b : BridgeId} {r r' : Bridge} {on : Bool} {p : PortId}

theorem consoleIs_of_holder (same : r'.holder = r.holder) (h : r.consoleIs on) : r'.consoleIs on := by
  unfold Bridge.consoleIs
  rw [same]
  exact h

theorem consoleIs_of_free (free : r.holder = none) : r.consoleIs false := by
  constructor
  · rw [free]; rfl
  · intro h held
    rw [free] at held
    cases held

theorem consoleIs_of_radio {h : Holder} (held : r.holder = some h) (radio : h.who ≠ .con) : r.consoleIs false := by
  constructor
  · rw [held]; exact beq_eq_false_iff_ne.mpr radio
  · intro h' held' who
    rw [held] at held'
    cases held'
    exact absurd who radio

theorem Bridge.consoleIs.unique {off : Bool} (h : r.consoleIs on) (h' : r.consoleIs off) : on = off :=
  h.1.symm.trans h'.1

/-- A radio holder stays one. -/
theorem consoleIs_of_radio_both {h h' : Holder} (held : r.holder = some h) (radio : h.who ≠ .con)
    (held' : r'.holder = some h') (radio' : h'.who ≠ .con) (hr : r.consoleIs on) : r'.consoleIs on := by
  rw [hr.unique (consoleIs_of_radio held radio)]
  exact consoleIs_of_radio held' radio'

theorem consoleIs_release (s : State) (b : BridgeId) : ((s.release b).bridge b).consoleIs false := by
  cases release_cases s b with
  | freed _ _ result => rw [result]; exact consoleIs_of_free rfl
  | resumed e below _ _ result => rw [result]; exact consoleIs_of_radio rfl nofun
  | granted x behind _ _ result => rw [result]; exact consoleIs_of_radio rfl nofun

theorem consoleIs_conBid (s : State) (b : BridgeId) : ((s.bid b .con).bridge b).consoleIs true := by
  have granted (r : Bridge) (stamp : Stamp) (held : r.holder = some ⟨.con, 5, stamp, none⟩) : r.consoleIs true := by
    constructor
    · rw [held]; rfl
    · intro h held' _
      rw [held] at held'
      cases held'
      exact ⟨rfl, rfl⟩
  cases held : (s.bridge b).holder with
  | none => rw [bid_bridge_of_free held]; exact granted _ _ rfl
  | some h => rw [bid_bridge_of_outranked held (.inl rfl)]; exact granted _ _ rfl

/-- No port outranks the console. -/
theorem radio_of_outranked {h : Holder} (range : s.settingsInRange) (hr : (s.bridge b).consoleIs on)
    (held : (s.bridge b).holder = some h) (above : s.outranked b (.port p) h) : h.who ≠ .con := by
  intro con
  obtain ⟨five, -⟩ := hr.2 h held con
  obtain ⟨-, lower⟩ := above.resolve_left nofun
  have highest : s.talkerPriority (.port p) ≤ 4 := effPriority_le_four range p
  omega

theorem consoleIs_bid (range : s.settingsInRange) (p : PortId) (hr : (s.bridge b).consoleIs on) :
    ((s.bid b (.port p)).bridge b).consoleIs on := by
  cases held : (s.bridge b).holder with
  | none =>
    rw [bid_bridge_of_free held, hr.unique (consoleIs_of_free held)]
    exact consoleIs_of_radio rfl nofun
  | some h =>
    by_cases above : s.outranked b (.port p) h
    · rw [bid_bridge_of_outranked held above]
      exact consoleIs_of_radio_both held (radio_of_outranked range hr held above) rfl nofun hr
    · rw [bid_bridge_of_under held above]
      exact consoleIs_of_holder rfl hr

theorem consoleIs_takePriority (range : s.settingsInRange) (p : PortId) (hr : (s.bridge b).consoleIs on) :
    ((s.takePriority b p).bridge b).consoleIs on := by
  cases takePriority_cases s b p with
  | unplaced _ result => rw [result]; exact hr
  | holding h held who result =>
    have radio : h.who ≠ .con := by rw [who]; exact nofun
    rw [result, State.bridge_updateBridge_same]
    exact consoleIs_of_radio_both held radio rfl radio hr
  | resorted h e _ _ _ _ result =>
    rw [result, State.bridge_updateBridge_same]
    exact consoleIs_of_holder rfl hr
  | preempts h e held who queued above =>
    rw [takePriority_bridge_of_outranked held who queued above]
    exact consoleIs_of_radio_both held (radio_of_outranked range hr held above) rfl nofun hr

/-- A change of the talk timer that leaves the console's as it is. -/
theorem consoleIs_of_retimed {f : Holder → Holder} (who : ∀ h, (f h).who = h.who)
    (priority : ∀ h, (f h).priority = h.priority) (unset : ∀ h, h.who = .con → h.timer = none → (f h).timer = none)
    (same : r'.holder = r.holder.map f) (hr : r.consoleIs on) : r'.consoleIs on := by
  cases held : r.holder with
  | none => rw [held] at same; exact consoleIs_of_holder (same.trans held.symm) hr
  | some h =>
    rw [held] at same
    constructor
    · rw [same, ← hr.1, held]
      simp [who]
    · intro h' held' con
      rw [same] at held'
      cases held'
      rw [who] at con
      obtain ⟨five, untimed⟩ := hr.2 h held con
      exact ⟨(priority h).trans five, unset h con untimed⟩

theorem consoleIs_timerCounted (hr : r.consoleIs on) : r.timerCounted.consoleIs on :=
  consoleIs_of_retimed (f := fun h => { h with timer := h.timer.map (· - 1) }) (fun _ => rfl) (fun _ => rfl)
    (fun _ _ untimed => by rw [untimed]; rfl) rfl hr

theorem consoleIs_completed (late : Bool) (hr : r.consoleIs on) : (r.completed late).consoleIs on := by
  have counted (x : Bridge) (holder : x.holder = r.holder) :
      (if late || x.timerLast then x else x.timerCounted).consoleIs on := by
    split
    · exact consoleIs_of_holder holder hr
    · exact consoleIs_timerCounted (consoleIs_of_holder holder hr)
  unfold Bridge.completed
  dsimp only
  split
  · exact counted _ rfl
  · exact counted _ rfl

theorem consoleIs_limited (limit : Nat) (hr : r.consoleIs on)
    (same : r'.holder = r.holder.map (limitHolder limit)) : r'.consoleIs on := by
  refine consoleIs_of_retimed (limitHolder_who limit) (fun h => ?_) (fun h con untimed => ?_) same hr
  · unfold limitHolder
    split <;> rfl
  · unfold limitHolder
    rw [con]
    exact untimed

end

/-! ## The console at all bridges -/

/-- The console holds where `held` says. -/
def State.consoleIn (held : BridgeId → Bool) (s : State) : Prop := ∀ b : BridgeId, (s.bridge b).consoleIs (held b)

/-- What the console holds is its talk set. -/
theorem consoleRule_iff (s : State) : s.consoleRule ↔ s.consoleIn fun b => s.console.talk.getLsbD b := Iff.rfl

section
variable {s t : State} {held : BridgeId → Bool} {b : BridgeId}

theorem consoleIn_of_places (h : t.places = s.places) (hs : s.consoleIn held) : t.consoleIn held :=
  fun b => consoleIs_of_holder (places_bridge h b).1 (hs b)

theorem consoleIn_of_other (other : ∀ c, c ≠ b → t.bridge c = s.bridge c) (here : (t.bridge b).consoleIs (held b))
    (hs : s.consoleIn held) : t.consoleIn held := by
  intro c
  by_cases h : c = b
  · rw [h]; exact here
  · rw [other c h]; exact hs c

/-- A bridge that the console did not hold, released. -/
theorem consoleIn_release (off : held b = false) (hs : s.consoleIn held) : (s.release b).consoleIn held :=
  consoleIn_of_other (actsOn_release s b).other (by rw [off]; exact consoleIs_release s b) hs

theorem consoleIn_off {h : Holder} (holds : (s.bridge b).holder = some h) (radio : h.who ≠ .con)
    (hs : s.consoleIn held) : held b = false := (hs b).unique (consoleIs_of_radio holds radio)

theorem consoleIn_leavePlace (b : BridgeId) (p : PortId) (hs : s.consoleIn held) :
    (s.leavePlace b p).consoleIn held := by
  unfold State.leavePlace
  split
  · next holds =>
    cases there : (s.bridge b).holder with
    | none => rw [there] at holds; cases holds
    | some h =>
      rw [there] at holds
      refine consoleIn_release (consoleIn_off there ?_ hs) hs
      rw [show h.who = .port p from beq_iff_eq.mp holds]
      exact nofun
  · exact consoleIn_of_other (actsOn_updateBridge s b _).other
      (by rw [State.bridge_updateBridge_same]; exact consoleIs_of_holder rfl (hs b)) hs

theorem consoleIn_removeNonMembers (b : BridgeId) (hs : s.consoleIn held) :
    (s.removeNonMembers b).consoleIn held := by
  have update (t : State) (f : Bridge → Bridge) (here : (f (t.bridge b)).consoleIs (held b)) (ht : t.consoleIn held) :
      (t.updateBridge b f).consoleIn held :=
    consoleIn_of_other (actsOn_updateBridge t b f).other (by rw [State.bridge_updateBridge_same]; exact here) ht
  have thinned := update s (fun r : Bridge => { r with
      queue := r.queue.filter fun e => (s.record b).members.getLsbD e.port
      stack := r.stack.map fun e =>
        if (s.record b).members.getLsbD e.port then e else { e with tag := Tag.empty } })
    (consoleIs_of_holder rfl (hs b)) hs
  have limited := update _ (fun r : Bridge => { r with
      holder := r.holder.map (limitHolder (s.record b).talkLimit)
      stack := r.stack.map (limitEntry (s.record b).talkLimit) })
    (consoleIs_limited (s.record b).talkLimit (thinned b) rfl) thinned
  unfold State.removeNonMembers
  dsimp only
  split
  · next h holds =>
    split
    · next p who =>
      split
      · exact limited
      · exact consoleIn_release (consoleIn_off holds (by rw [who]; exact nofun) limited) limited
    · exact limited
  · exact limited

theorem consoleIn_takeBid (range : s.settingsInRange) (p : PortId) (hs : s.consoleIn held) :
    (s.takeBid p).consoleIn held := by
  rcases takeBid_cases s p with same | ⟨b, -, -, -, place, bid⟩
  · rw [same]; exact hs
  · rw [bid]; exact consoleIn_of_other (fun _ => bid_bridge_ne) (consoleIs_bid range p (hs b)) hs

/-- Where the console holds, the key machines leave it. -/
theorem consoleIn_keying (held : BridgeId → Bool) : KeptByKeying fun s => s.settingsInRange ∧ s.consoleIn held where
  setKey s p key timing keyUp hs :=
    ⟨settingsInRange_kept.backdrop (setKey_backdrop ..) hs.1, consoleIn_of_places (places_updatePort ..) hs.2⟩
  beginEngagement s barred p _ hs := ⟨settingsInRange_kept.backdrop (beginEngagement_backdrop ..) hs.1,
    consoleIn_of_places (places_beginEngagement ..) hs.2⟩
  endEngagement s p _ hs := by
    refine ⟨settingsInRange_kept.backdrop (endEngagement_backdrop ..) hs.1, ?_⟩
    unfold State.endEngagement
    dsimp only
    refine consoleIn_of_places (places_updatePort ..) ?_
    split
    · exact consoleIn_leavePlace _ p (consoleIn_of_places (places_updatePort ..) hs.2)
    · exact consoleIn_of_places (places_updatePort ..) hs.2
  keyLimit s p hs :=
    ⟨settingsInRange_kept.backdrop (raise_backdrop ..) hs.1, consoleIn_of_places (places_raise ..) hs.2⟩
  takeHandedBids s := takeHandedBids_keeps (P := fun s => s.settingsInRange ∧ s.consoleIn held)
    (fun hs => ⟨settingsInRange_kept.backdrop (s := s) rfl hs.1, hs.2⟩)
    fun s p hs => ⟨settingsInRange_kept.backdrop (takeBid_backdrop s p) hs.1, consoleIn_takeBid hs.1 p hs.2⟩

/-! ## The console moves (R148 to R150) -/

theorem consoleIn_congr {held' : BridgeId → Bool} (same : ∀ b, held b = held' b) (hs : s.consoleIn held) :
    s.consoleIn held' := fun b => same b ▸ hs b

theorem consoleIn_consoleLeave (b : BridgeId) (hs : s.consoleIn held) :
    (s.consoleLeave b).consoleIn fun c => if c = b then false else held c := by
  unfold State.consoleLeave
  split
  · intro c
    by_cases h : c = b
    · subst h
      simpa using consoleIs_release s c
    · simpa [h, (actsOn_release s b).other c h] using hs c
  · next silent =>
    have no := (hs b).1.symm.trans (Bool.eq_false_of_not_eq_true silent)
    refine consoleIn_congr (fun c => ?_) hs
    split
    · next h => rw [h]; exact no
    · rfl

theorem consoleIn_conBid (b : BridgeId) (hs : s.consoleIn held) :
    (s.bid b .con).consoleIn fun c => if c = b then true else held c := by
  intro c
  by_cases h : c = b
  · subst h
    simpa using consoleIs_conBid s c
  · simpa [h, bid_bridge_ne h] using hs c

/-- The console comes to hold, or to hold no longer, each bridge of a set in turn. -/
theorem consoleIn_foldl {op : State → BridgeId → State} {on : Bool} (only : BridgeSet)
    (acts : ∀ (t : State) (b : BridgeId) (held : BridgeId → Bool), t.settingsInRange → t.consoleIn held →
      (op t b).settingsInRange ∧ (op t b).consoleIn fun c => if c = b then on else held c)
    (range : s.settingsInRange) (hs : s.consoleIn held) :
    (allBridges.foldl (fun t (b : BridgeId) => if only.getLsbD b then op t b else t) s).settingsInRange
    ∧ (allBridges.foldl (fun t (b : BridgeId) => if only.getLsbD b then op t b else t) s).consoleIn
      fun c => if only.getLsbD c then on else held c := by
  have fold (bs : List BridgeId) (t : State) (held : BridgeId → Bool) (range : t.settingsInRange)
      (ht : t.consoleIn held) :
      (bs.foldl (fun t (b : BridgeId) => if only.getLsbD b then op t b else t) t).settingsInRange
      ∧ (bs.foldl (fun t (b : BridgeId) => if only.getLsbD b then op t b else t) t).consoleIn
        fun c => if only.getLsbD c = true ∧ c ∈ bs then on else held c := by
    induction bs generalizing t held with
    | nil => simpa using ⟨range, ht⟩
    | cons b bs ih =>
      rw [List.foldl_cons]
      split
      · next chosen =>
        obtain ⟨range, there⟩ := acts t b held range ht
        obtain ⟨range, folded⟩ := ih _ _ range there
        refine ⟨range, consoleIn_congr (fun c => ?_) folded⟩
        by_cases h : c = b
        · subst h; simp [chosen]
        · simp [h]
      · next passed =>
        obtain ⟨range, folded⟩ := ih t held range ht
        refine ⟨range, consoleIn_congr (fun c => ?_) folded⟩
        by_cases h : c = b
        · subst h; rw [if_neg (fun yes => passed yes.1), if_neg (fun yes => passed yes.1)]
        · simp [h]
  obtain ⟨range, folded⟩ := fold allBridges s held range hs
  exact ⟨range, consoleIn_congr (fun c => by simp [mem_allBridges]) folded⟩

theorem consoleIn_leaveBridges (leaving : BridgeSet) (range : s.settingsInRange) (hs : s.consoleIn held) :
    (s.leaveBridges leaving).settingsInRange
      ∧ (s.leaveBridges leaving).consoleIn fun c => if leaving.getLsbD c then false else held c :=
  consoleIn_foldl (op := fun t b => (t.consoleLeave b).handOn) leaving (fun t b _ range ht =>
    (consoleIn_keying _).handOn ⟨settingsInRange_kept.backdrop (consoleLeave_backdrop t b) range,
      consoleIn_consoleLeave b ht⟩) range hs

theorem consoleIn_joinBridges (joining : BridgeSet) (range : s.settingsInRange) (hs : s.consoleIn held) :
    (s.joinBridges joining).settingsInRange
      ∧ (s.joinBridges joining).consoleIn fun c => if joining.getLsbD c then true else held c :=
  consoleIn_foldl (op := fun t b => (t.bid b .con).handOn) joining (fun t b _ range ht =>
    (consoleIn_keying _).handOn ⟨settingsInRange_kept.backdrop (bid_backdrop t b .con) range,
      consoleIn_conBid b ht⟩) range hs

theorem consoleRule_moveConsole (carried : BridgeSet) (range : s.settingsInRange) (hs : s.consoleRule) :
    (s.moveConsole carried).consoleRule := by
  obtain ⟨range, left⟩ := consoleIn_leaveBridges (s.console.talk &&& ~~~carried) range hs
  obtain ⟨-, joined⟩ := consoleIn_joinBridges (carried &&& ~~~s.console.talk) range left
  intro c
  have talk : (s.moveConsole carried).console.talk = carried := by
    unfold State.moveConsole State.writeTalk
    rw [State.reportIf_console]
  have held : (if (carried &&& ~~~s.console.talk).getLsbD c then true
      else if (s.console.talk &&& ~~~carried).getLsbD c then false else s.console.talk.getLsbD c)
      = carried.getLsbD c := by
    have inside : decide ((c : Nat) < 8) = true := decide_eq_true c.isLt
    simp only [BitVec.getLsbD_and, BitVec.getLsbD_not, inside, Bool.true_and]
    cases s.console.talk.getLsbD c <;> cases carried.getLsbD c <;> rfl
  rw [talk, ← held]
  unfold State.moveConsole State.writeTalk
  rw [bridge_reportIf]
  exact joined c

theorem foldl_emptyBridge_holder (t : State) (bs : List BridgeId) (c : BridgeId)
    (h : c ∈ bs ∨ (t.bridge c).holder = none) : ((bs.foldl State.emptyBridge t).bridge c).holder = none := by
  induction bs generalizing t with
  | nil => exact h.resolve_left nofun
  | cons b bs ih =>
    refine ih _ ?_
    rw [emptyBridge_bridge]
    by_cases here : c = b
    · exact .inr (by rw [if_pos here])
    · rw [if_neg here]
      exact h.imp_left fun mem => (List.mem_cons.mp mem).resolve_left here

theorem emptyBridge_console (s : State) (b : BridgeId) : (s.emptyBridge b).console = s.console := by
  unfold State.emptyBridge
  dsimp only
  rw [State.reportIf_console, State.updateBridge_console]

theorem barEngaged_console (s : State) (p : PortId) : (s.barEngaged p).console = s.console := by
  unfold State.barEngaged
  split
  · exact State.updatePort_console ..
  · rfl

theorem clearAllBridges_console (s : State) : s.clearAllBridges.console = { s.console with talk := 0 } := by
  unfold State.clearAllBridges
  dsimp only
  rw [foldl_part State.console (f := State.clearKey) fun t p => console_of_backdrop (clearKey_backdrop t p),
    foldl_part State.console (f := State.barEngaged) barEngaged_console,
    foldl_part State.console (f := State.emptyBridge) emptyBridge_console, State.reportIf_console]

theorem consoleRule_clearAllBridges (range : s.settingsInRange) : s.clearAllBridges.consoleRule := by
  rw [consoleRule_iff, clearAllBridges_console]
  refine consoleIn_congr (held := fun _ => false) (fun b => by simp) ?_
  have silent : (({ s with console := { s.console with talk := 0 } } : State).reportIf (s.console.talk != 0)
      srcConsole).settingsInRange := settingsInRange_kept.same (rest_reportIf _ _ _)
        (settingsInRange_kept.talk s 0 range)
  have emptied := KeptByOperations.foldl settingsInRange_kept.emptyBridge allBridges silent
  have free (b : BridgeId) := foldl_emptyBridge_holder (({ s with console := { s.console with talk := 0 } } :
    State).reportIf
    (s.console.talk != 0) srcConsole) allBridges b (.inl (mem_allBridges b))
  refine (KeptByOperations.foldl (P := fun s => s.settingsInRange ∧ s.consoleIn fun _ => false) (f := State.clearKey)
    (fun t p ht => (consoleIn_keying _).clearKey p ht) _ (KeptByOperations.foldl
      (P := fun s => s.settingsInRange ∧ s.consoleIn fun _ => false) (f := State.barEngaged) (fun t p ht => ?_) _
      ⟨emptied, fun b => consoleIs_of_free (free b)⟩)).2
  refine ⟨?_, consoleIn_of_places (places_barEngaged t p) ht.2⟩
  unfold State.barEngaged
  split
  · exact settingsInRange_kept.updatePort rfl ht.1
  · exact ht.1

theorem consoleRule_of_console (console : t.console = s.console)
    (ht : s.consoleRule → t.consoleIn fun b => s.console.talk.getLsbD b) (hs : s.consoleRule) : t.consoleRule := by
  rw [consoleRule_iff, console]
  exact ht hs

/-- The console rule, under settings in range, is kept by the arbiter. -/
theorem consoleRule_arbiter : KeptByArbiter State.consoleRule State.settingsInRange where
  same h hs b := by rw [places_talk h]; exact consoleIn_of_places h hs b
  bid s b p range _ := consoleRule_of_console (console_of_backdrop (bid_backdrop s b (.port p))) fun hs =>
    consoleIn_of_other (fun _ => bid_bridge_ne) (consoleIs_bid range p (hs b)) hs
  release s b h held radio := consoleRule_of_console (console_of_backdrop (release_backdrop s b)) fun hs =>
    consoleIn_release (consoleIn_off held (radio.elim (fun timed con => timed ((hs b).2 h held con).2) id) hs) hs
  leavePlace s b p := consoleRule_of_console (console_of_backdrop (leavePlace_backdrop s b p)) fun hs =>
    consoleIn_leavePlace b p hs
  takePriority s b p range := consoleRule_of_console (console_of_backdrop (takePriority_backdrop s b p)) fun hs =>
    consoleIn_of_other (actsOn_takePriority s b p).other (consoleIs_takePriority range p (hs b)) hs
  timerCounted s b hs c := by
    rw [bridge_setBridge]
    split
    · next h => subst h; exact consoleIs_timerCounted (hs c)
    · exact hs c
  counted s cs pres late hs c := by
    rw [counted_bridge]
    exact consoleIs_completed _ (hs c)
  removeNonMembers s b := consoleRule_of_console (console_of_backdrop (removeNonMembers_backdrop s b)) fun hs =>
    consoleIn_removeNonMembers b hs
  clearAllBridges s range _ := consoleRule_clearAllBridges range
  moveConsole s carried range hs := consoleRule_moveConsole carried range hs

end

/-- Settles O59: settings in range and the console's rule, by what every piece of a step keeps. -/
theorem everyStepKeepsSettingsAndConsole : Obligations.EveryStepKeepsSettingsAndConsole := by
  intro s t h range
  refine ⟨settingsInRange_kept.step settingsInRange_apart h range, fun rule => ?_⟩
  have apart : KeptApart State.consoleRule := ⟨fun _ _ hs => hs, by
    intro b
    have silent : State.reset.console.talk.getLsbD b = false := BitVec.getLsbD_zero
    rw [bridge_reset, silent]
    exact consoleIs_of_free (r := Bridge.reset) rfl⟩
  exact ((settingsInRange_kept.pieces.and (consoleRule_arbiter.pieces settingsInRange_kept)).step
    (settingsInRange_kept.requests.and (consoleRule_arbiter.requests settingsInRange_kept))
    (settingsInRange_apart.and apart) h ⟨range, rule⟩).2

end Sys2Proof.Machine
end

section
/-! SUPPORT. What every step keeps of one port: its engagement, its key machine and its counts. Each operation is said
  once
by what it makes of the port; a property of ports then needs one fact for each such change. -/

namespace Sys2Proof.Machine

/-! ## The part of a port that engagement, keying and counting read -/

/-- A port without what its conditions, its key machine and its counts do not depend on. -/
def Port.core (q : Port) : Port :=
  { q with manualKey := false, present := false, presenceCount := 0, voxSum := 0, voxLevel := 0, bar := false,
           unit := none, pendingId := none, emergency := .none, lineWait := false }

/-- Engaged exactly as the three conditions stand (R16). -/
def Port.judged (q : Port) : Port := { q with engaged := q.mayEngage }

/-- Entry to a key state with both counts at 0, and engagement judged (R104, R107, R119). -/
def Port.entered (k : KeyState) (q : Port) : Port := Port.judged { q with key := k, timing := 0, keyUp := 0 }

/-- A port back in ACTIVE (R6). -/
def Port.activated (high : Bool) (q : Port) : Port := { q with
  lifecycle := .active
  carrier := false, carrierCount := 0, vox := false, quietCount := 0
  engaged := false, bar := false
  key := .idle, timing := 0, keyUp := 0
  receiver := if q.setup.dataLine then .hunting else .idle
  lineWait := q.setup.dataLine && !high }

/-- Of the cores of the ports one alone has changed, to this port's. -/
def State.portMoves (p : PortId) (q : Port) (s t : State) : Prop :=
  ∀ r : PortId, (t.port r).core = if r = p then q.core else (s.port r).core

/-- The cores of the ports are the same. -/
def State.sameCores (s t : State) : Prop := ∀ r : PortId, (t.port r).core = (s.port r).core

section
variable {s t u : State} {p : PortId} {q q' : Port}

theorem mayEngage_of_core (h : q'.core = q.core) : q'.mayEngage = q.mayEngage := by
  have same := congrArg Port.mayEngage h
  exact same

theorem judged_core (h : q'.core = q.core) : q'.judged.core = q.judged.core := by
  have same := congrArg (fun c => c.judged.core) h
  exact same

/-- A count of the key machine changes its counts alone. -/
theorem keyCounted_keeps (q : Port) :
    q.keyCounted = { q with timing := q.keyCounted.timing, keyUp := q.keyCounted.keyUp } := by
  unfold Port.keyCounted
  dsimp only
  split <;> rfl

theorem keyCounted_key (q : Port) : q.keyCounted.key = q.key := by rw [keyCounted_keeps]

theorem entered_keyCounted (k : KeyState) (q : Port) : q.keyCounted.entered k
    = q.entered k := by rw [keyCounted_keeps]; rfl

theorem keyEventNext_completed (q : Port) (rate : SampleRate) (csHigh presHigh : Bool) :
    (q.completed rate csHigh presHigh).keyEventNext = q.keyEventNext := by
  obtain ⟨_, _, _, _, _, _, _, _, _, _, _, _, _, _, _, _, _, _, key, _, _⟩ := q
  cases key <;> rfl

theorem entered_core (k : KeyState) (h : q'.core = q.core) : (q'.entered k).core = (q.entered k).core := by
  have same := congrArg (fun c => (c.entered k).core) h
  exact same

theorem sameCores_of_ports (h : t.ports = s.ports) : s.sameCores t := fun r => by rw [port_of_ports h]

theorem State.sameCores.trans (h : s.sameCores t) (h' : t.sameCores u) : s.sameCores u :=
  fun r => (h' r).trans (h r)

theorem State.portMoves.core (h : s.portMoves p q t) : (t.port p).core = q.core := by
  rw [h p, if_pos rfl]

theorem State.portMoves.congr (h : s.portMoves p q t) (same : q'.core = q.core) : s.portMoves p q' t :=
  fun r => by rw [h r, same]

theorem State.portMoves.same (h : s.portMoves p q t) (same : t.sameCores u) : s.portMoves p q u :=
  fun r => (same r).trans (h r)

theorem State.sameCores.moves (same : s.sameCores t) (h : t.portMoves p q u) : s.portMoves p q u := by
  intro r
  rw [h r]
  split
  · rfl
  · exact same r

theorem State.portMoves.trans (h : s.portMoves p q t) (h' : t.portMoves p q' u) : s.portMoves p q' u := by
  intro r
  rw [h' r]
  split
  · rfl
  · next other => rw [h r, if_neg other]

theorem portMoves_refl (s : State) (p : PortId) : s.portMoves p (s.port p) s := by
  intro r
  split
  · next h => rw [h]
  · rfl

theorem portMoves_setPort (s : State) (p : PortId) (q : Port) : s.portMoves p q (s.setPort p q) := by
  intro r
  rw [port_setPort]
  split <;> rfl

theorem portMoves_updatePort (s : State) (p : PortId) (f : Port → Port) :
    s.portMoves p (f (s.port p)) (s.updatePort p f) := by
  intro r
  rw [port_updatePort]
  split <;> rfl

/-- A change of one port that leaves its core. -/
theorem State.portMoves.unchanged (h : s.portMoves p q t) (same : q.core = (s.port p).core) : s.sameCores t := by
  intro r
  rw [h r]
  split
  · next here => rw [here, same]
  · rfl

theorem sameCores_of_view (h : t.view = s.view) : s.sameCores t := by
  intro r
  have ports : s.view.ports = t.view.ports := by rw [h]
  have views : (t.port r).view = (s.port r).view := by
    have there := congrArg (fun v : Vector Port 12 => v[r]) ports
    simpa [State.view, State.port] using there.symm
  have cores := congrArg Port.core views
  exact cores

/-! ## What each operation makes of the port -/

theorem leavePlace_ports (s : State) (b : BridgeId) (p : PortId) : (s.leavePlace b p).ports = s.ports := by
  unfold State.leavePlace
  split
  · exact (actsOn_release s b).ports
  · exact State.updateBridge_ports ..

theorem takeBid_ports (s : State) (p : PortId) : (s.takeBid p).ports = s.ports := by
  rcases takeBid_cases s p with same | ⟨b, -, -, -, -, bid⟩
  · rw [same]
  · rw [bid]; exact (actsOn_bid s b (.port p)).ports

theorem takeHandedBids_ports (s : State) : s.takeHandedBids.ports = s.ports :=
  foldl_part State.ports (f := fun t p => State.takeBid p t) takeBid_ports _ _

theorem portMoves_beginEngagement (s : State) (barred : Bool) (p : PortId) :
    s.portMoves p { s.port p with engaged := true } (s.beginEngagement barred p) := by
  have moved := portMoves_updatePort s p fun q => { q with
    engaged := true
    bar := barred || (s.port p).bar
    unit := match q.pendingId with
      | some i => some i.unit
      | none => q.unit
    pendingId := none }
  unfold State.beginEngagement
  dsimp only
  split
  · exact moved.congr rfl
  · exact (moved.congr rfl).same (sameCores_of_ports rfl)

theorem portMoves_endEngagement (s : State) (p : PortId) :
    s.portMoves p { s.port p with engaged := false } (s.endEngagement p) := by
  have left : s.portMoves p { s.port p with engaged := false } (match (s.updatePort p fun q =>
        { q with engaged := false }).memberOf p with
      | some b => (s.updatePort p fun q => { q with engaged := false }).leavePlace b p
      | none => s.updatePort p fun q => { q with engaged := false }) := by
    refine (portMoves_updatePort s p fun q => { q with engaged := false }).same ?_
    split
    · exact sameCores_of_ports (leavePlace_ports ..)
    · exact sameCores_of_ports rfl
  exact (left.trans (portMoves_updatePort _ p fun q => { q with bar := false, unit := none })).congr left.core.symm

theorem portMoves_judgeEngagement (s : State) (barred : Bool) (p : PortId) :
    s.portMoves p (s.port p).judged (s.judgeEngagement barred p) := by
  unfold State.judgeEngagement Port.judged
  dsimp only
  split
  · next begins =>
    rw [Bool.and_eq_true] at begins
    rw [begins.1]
    exact portMoves_beginEngagement s barred p
  · next notBegins =>
    split
    · next ends =>
      rw [Bool.and_eq_true, Bool.not_eq_true'] at ends
      rw [ends.1]
      exact portMoves_endEngagement s p
    · next notEnds =>
      have same : (s.port p).mayEngage = (s.port p).engaged := by
        cases may : (s.port p).mayEngage <;> cases engaged :
          (s.port p).engaged <;> simp [may, engaged] at notBegins notEnds
        · rfl
        · rfl
      rw [same]
      exact portMoves_refl s p

theorem portMoves_setKey (s : State) (p : PortId) (k : KeyState) (timing keyUp : Nat) :
    s.portMoves p { s.port p with key := k, timing := timing, keyUp := keyUp } (s.setKey p k timing keyUp) :=
  portMoves_updatePort s p _

theorem portMoves_judged (h : s.portMoves p q t) (barred : Bool) :
    s.portMoves p q.judged (t.judgeEngagement barred p) :=
  (h.trans (portMoves_judgeEngagement t barred p)).congr (judged_core h.core).symm

theorem portMoves_enterKeyed (s : State) (p : PortId) : s.portMoves p ((s.port p).entered .keyed) (s.enterKeyed p) :=
  portMoves_judged (portMoves_setKey s p .keyed 0 0) false

theorem portMoves_enterIdle (s : State) (barred : Bool) (p : PortId) :
    s.portMoves p ((s.port p).entered .idle) (s.enterIdle barred p) :=
  portMoves_judged (portMoves_setKey s p .idle 0 0) barred

theorem portMoves_enterCool (s : State) (p : PortId) : s.portMoves p ((s.port p).entered .cool) (s.enterCool p) :=
  portMoves_judged ((portMoves_setKey s p .cool 0 0).same (sameCores_of_ports (State.raise_ports ..))) false

/-- What entry to BLANK makes of a port (R107, R109). -/
def Port.blank (q : Port) : Port :=
  if q.setup.blank = 0 then q.entered .idle else { q with key := .blank, timing := 0, keyUp := 0 }

theorem portMoves_enterBlank (s : State) (barred : Bool) (p : PortId) :
    s.portMoves p (s.port p).blank (s.enterBlank barred p) := by
  have blanked := portMoves_setKey s p .blank 0 0
  unfold State.enterBlank Port.blank
  dsimp only
  split
  · exact (blanked.trans (portMoves_enterIdle _ barred p)).congr (entered_core .idle blanked.core).symm
  · exact blanked

/-- What entry to HANG makes of a port (R105, R106, R109). -/
def Port.hang (q : Port) : Port :=
  if q.setup.hang = 0 then q.blank else { q with key := .hang, timing := 0 }

theorem portMoves_enterHang (s : State) (p : PortId) : s.portMoves p (s.port p).hang (s.enterHang p) := by
  unfold State.enterHang Port.hang
  dsimp only
  split
  · exact portMoves_enterBlank s false p
  · exact portMoves_setKey s p .hang 0 _

/-- What entry to DRAIN makes of a port (R104, R105, R109). -/
def Port.drain (q : Port) : Port :=
  if q.setup.lead = 0 then Port.hang { q with key := .drain, timing := 0 } else { q with key := .drain, timing := 0 }

theorem hang_core (h : q'.core = q.core) : q'.hang.core = q.hang.core := by
  have here (q : Port) : q.core.hang.core = q.hang.core := by
    have setup : q.core.setup = q.setup := rfl
    unfold Port.hang Port.blank
    rw [setup]
    split_ifs <;> rfl
  rw [← here, ← here q, h]

theorem portMoves_enterDrain (s : State) (p : PortId) : s.portMoves p (s.port p).drain (s.enterDrain p) := by
  have draining := portMoves_setKey s p .drain 0 (s.port p).keyUp
  unfold State.enterDrain Port.drain
  dsimp only
  split
  · exact (draining.trans (portMoves_enterHang _ p)).congr (hang_core draining.core).symm
  · exact draining

end

/-! ## A property of each port -/

/-- Each change that the operations make of a port keeps a property of it. -/
structure KeptInPort (Q : Port → Prop) : Prop where
  same : ∀ {q q' : Port}, q'.core = q.core → Q q → Q q'
  entered : ∀ (q : Port) (k : KeyState), k = .idle ∨ q.lifecycle = .active ∨ q.key ≠ .idle → Q q → Q (q.entered k)
  rekeyed : ∀ (q : Port) (k : KeyState), q.key.asserted = true → k.asserted = true → Q q →
    Q { q with key := k, timing := 0 }
  blanked : ∀ q : Port, q.key.asserted = true → Q q → Q { q with key := .blank, timing := 0, keyUp := 0 }
  rested : ∀ (q : Port) (k : KeyState), q.key = .idle ∨ q.key = .deferred → k = .idle ∨ k = .deferred →
    k = .idle ∨ q.lifecycle = .active → Q q → Q { q with key := k, timing := 0, keyUp := 0 }
  counted : ∀ q : Port, q.keyCounted.limitReached = false → (q.key = .cool → q.keyCounted.coolBlankOver = false) →
    Q q → Q q.keyCounted
  cooled : ∀ q : Port, q.key = .cool → Q q → Q q.keyCounted.judged
  requalified : ∀ q : Port, Q q → Q q.requalified.judged
  completed : ∀ (q : Port) (rate : SampleRate) (csHigh presHigh : Bool), Q q → Q (q.completed rate csHigh presHigh)
  setup : ∀ (q : Port) (new : Setup), q.lifecycle = .off ∨ sameButLive q.setup new = true → Q q →
    Q { q with setup := new }
  received : ∀ (q : Port) (r : Receiver), q.receiver ≠ .idle → Q q → Q { q with receiver := r }
  activated : ∀ (q : Port) (high : Bool), q.lifecycle ≠ .active → Q q → Q (q.activated high)
  departed : ∀ (q : Port) (life : Lifecycle), life ≠ .active → Q q →
    Q (Port.dropped { q with lifecycle := life, engaged := false })
  lost : ∀ q : Port, q.lifecycle = .off → Q q → Q { q with lifecycle := .lost }

/-- A property of every port. -/
def State.everyPort (Q : Port → Prop) (s : State) : Prop := ∀ p : PortId, Q (s.port p)

namespace KeptInPort
variable {Q : Port → Prop} {s t : State}

theorem of_sameCores (k : KeptInPort Q) (h : s.sameCores t) (hs : s.everyPort Q) : t.everyPort Q :=
  fun p => k.same (h p) (hs p)

theorem of_ports (k : KeptInPort Q) (h : t.ports = s.ports) (hs : s.everyPort Q) : t.everyPort Q :=
  k.of_sameCores (sameCores_of_ports h) hs

theorem of_moves (k : KeptInPort Q) {p : PortId} {q : Port} (h : s.portMoves p q t) (hq : Q q) (hs : s.everyPort Q) :
    t.everyPort Q := by
  intro r
  have moved := h r
  split at moved
  · exact k.same moved hq
  · exact k.same moved (hs r)

theorem of_updated (k : KeptInPort Q) (p : PortId) {f : Port → Port} (same : (f (s.port p)).core = (s.port p).core)
    (hs : s.everyPort Q) : (s.updatePort p f).everyPort Q :=
  k.of_sameCores ((portMoves_updatePort s p f).unchanged same) hs

/-! ### The key machines -/

theorem blank (k : KeptInPort Q) (q : Port) (asserted : q.key.asserted = true) (hq : Q q) : Q q.blank := by
  unfold Port.blank
  split
  · exact k.entered q .idle (.inl rfl) hq
  · exact k.blanked q asserted hq

theorem hang (k : KeptInPort Q) (q : Port) (asserted : q.key.asserted = true) (hq : Q q) : Q q.hang := by
  unfold Port.hang
  split
  · exact k.blank q asserted hq
  · exact k.rekeyed q .hang asserted rfl hq

theorem drain (k : KeptInPort Q) (q : Port) (asserted : q.key.asserted = true) (hq : Q q) : Q q.drain := by
  have draining := k.rekeyed q .drain asserted rfl hq
  unfold Port.drain
  split
  · exact k.hang _ rfl draining
  · exact draining

theorem judgeKey (k : KeptInPort Q) (p : PortId) (hs : s.everyPort Q) : (s.judgeKey p).everyPort Q := by
  unfold State.judgeKey
  dsimp only
  split
  · next active =>
    have keyed : (s.enterKeyed p).everyPort Q :=
      k.of_moves (portMoves_enterKeyed s p) (k.entered _ _ (.inr (.inl active)) (hs p)) hs
    have rested (key : KeyState) (from_rest : (s.port p).key = .idle ∨ (s.port p).key = .deferred)
        (to_rest : key = .idle ∨ key = .deferred) : (s.setKey p key 0 0).everyPort Q :=
      k.of_moves (portMoves_setKey s p key 0 0) (k.rested _ key from_rest to_rest (.inr active) (hs p)) hs
    have back (asserted : (s.port p).key.asserted = true) : (s.setKey p .keyed 0 (s.port p).keyUp).everyPort Q :=
      k.of_moves (portMoves_setKey s p .keyed 0 _) (k.rekeyed _ .keyed asserted rfl (hs p)) hs
    split
    · next key =>
      split
      · split
        · exact keyed
        · exact rested _ (.inl key) (.inr rfl)
      · exact hs
    · next key =>
      split
      · split
        · exact keyed
        · exact hs
      · exact rested _ (.inr key) (.inl rfl)
    · next key =>
      split
      · exact hs
      · exact k.of_moves (portMoves_enterDrain s p) (k.drain _ (by rw [key]; rfl) (hs p)) hs
    · next key =>
      split
      · exact back (by rw [key]; rfl)
      · exact hs
    · next key =>
      split
      · exact back (by rw [key]; rfl)
      · exact hs
    · split
      · exact keyed
      · exact hs
    · exact hs
  · exact hs

theorem actKey (k : KeptInPort Q) (p : PortId) (hs : s.everyPort Q) : (s.actKey p).everyPort Q :=
  k.of_ports (takeHandedBids_ports _) (k.judgeKey p hs)

theorem resolve (k : KeptInPort Q) (n : Nat) (hs : s.everyPort Q) : (State.resolve n s).everyPort Q := by
  induction n generalizing s with
  | zero => exact hs
  | succ n ih =>
    unfold State.resolve
    split
    · exact hs
    · exact ih (KeptByOperations.foldl (f := State.actKey) (fun _ p ht => k.actKey p ht) allPorts hs)

theorem handOn (k : KeptInPort Q) (hs : s.everyPort Q) : s.handOn.everyPort Q :=
  k.resolve _ (k.of_ports (takeHandedBids_ports s) hs)

theorem clearKey (k : KeptInPort Q) (p : PortId) (hs : s.everyPort Q) : (s.clearKey p).everyPort Q := by
  have idle : (s.enterIdle true p).everyPort Q :=
    k.of_moves (portMoves_enterIdle s true p) (k.entered _ _ (.inl rfl) (hs p)) hs
  have leaving (asserted : (s.port p).key.asserted = true) :
      (if (s.port p).lifecycle = .active then s.enterBlank true p else s.enterIdle true p).everyPort Q := by
    split
    · exact k.of_moves (portMoves_enterBlank s true p) (k.blank _ asserted (hs p)) hs
    · exact idle
  unfold State.clearKey
  dsimp only
  split
  · next key => exact leaving (by rw [key]; rfl)
  · next key => exact leaving (by rw [key]; rfl)
  · next key => exact leaving (by rw [key]; rfl)
  · exact idle
  · exact idle
  · next key =>
    exact k.of_moves (portMoves_setKey s p .idle 0 0) (k.rested _ .idle (.inr key) (.inl rfl) (.inl rfl) (hs p)) hs
  · exact hs

theorem removeDestination (k : KeptInPort Q) (old : Vector Record 8) (p : PortId) (hs : s.everyPort Q) :
    (s.removeDestination old p).everyPort Q := by
  have blank (asserted : (s.port p).key.asserted = true) : (s.enterBlank false p).everyPort Q :=
    k.of_moves (portMoves_enterBlank s false p) (k.blank _ asserted (hs p)) hs
  unfold State.removeDestination
  split
  · split
    · next key => exact blank (by rw [key]; rfl)
    · next key => exact blank (by rw [key]; rfl)
    · next key => exact blank (by rw [key]; rfl)
    · next key =>
      exact k.of_moves (portMoves_setKey s p .idle 0 0) (k.rested _ .idle (.inr key) (.inl rfl) (.inl rfl) (hs p)) hs
    all_goals exact hs
  · exact hs

theorem keyReached (k : KeptInPort Q) (p : PortId) (hs : s.everyPort Q) : (s.keyReached p).everyPort Q := by
  have written := portMoves_setPort s p (s.port p).keyCounted
  have there : (s.setPort p (s.port p).keyCounted).port p = (s.port p).keyCounted := by
    rw [port_setPort, if_pos rfl]
  have idle : ((s.setPort p (s.port p).keyCounted).enterIdle false p).everyPort Q :=
    k.of_moves (written.trans (portMoves_enterIdle _ false p)) (by
      rw [there, entered_keyCounted]; exact k.entered _ _ (.inl rfl) (hs p)) hs
  have key : (s.port p).keyCounted.key = (s.port p).key := keyCounted_key _
  unfold State.keyReached
  dsimp only
  split
  · next limit =>
    have asserted : (s.port p).key ≠ .idle := by
      intro idle
      simp [Port.limitReached, key, idle, KeyState.asserted] at limit
    exact k.of_moves (written.trans (portMoves_enterCool _ p)) (by
      rw [there, entered_keyCounted]; exact k.entered _ _ (.inr (.inr asserted)) (hs p)) hs
  · next below =>
    have below := Bool.eq_false_of_not_eq_true below
    have counted (warm : (s.port p).key ≠ .cool) : Q (s.port p).keyCounted :=
      k.counted _ below (fun cool => absurd cool warm) (hs p)
    split
    · next over_ =>
      have drain : (s.port p).key = .drain := by simpa [Port.drainOver, key] using (Bool.and_eq_true_iff.mp over_).1
      exact k.of_moves (written.trans (portMoves_enterHang _ p)) (by
        rw [there]; exact k.hang _ (by rw [key, drain]; rfl) (counted (by rw [drain]; exact nofun))) hs
    · split
      · next over_ =>
        have hang : (s.port p).key = .hang := by simpa [Port.hangOver, key] using (Bool.and_eq_true_iff.mp over_).1
        exact k.of_moves (written.trans (portMoves_enterBlank _ false p)) (by
          rw [there]; exact k.blank _ (by rw [key, hang]; rfl) (counted (by rw [hang]; exact nofun))) hs
      · split
        · exact idle
        · split
          · exact idle
          · split
            · next cool =>
              exact k.of_moves (written.trans (portMoves_judgeEngagement _ false p)) (by
                rw [there]; exact k.cooled _ (key.symm.trans cool) (hs p)) hs
            · next warm => exact k.of_moves written (counted fun cool => warm (key.trans cool)) hs

/-! ### The pieces -/

theorem priorities (k : KeptInPort Q) : KeptByPriorities (State.everyPort Q) where
  same h hs := k.of_sameCores (sameCores_of_view h) hs
  handOn _ hs _ := k.handOn hs
  takePriority s b p hs _ := k.of_ports (actsOn_takePriority s b p).ports hs
  setup s p _ new _ live hs _ := k.of_moves (portMoves_setPort s p _) (k.setup _ new live (hs p)) hs
  emergency _ p _ hs _ := k.of_updated p rfl hs
  takeIdentity s p u hs _ := k.of_updated p (by split <;> rfl) hs
  burstStarted s b hs _ := k.of_ports (by
    unfold State.burstStarted
    dsimp only
    split
    · rw [State.reportChange_ports]; rfl
    · rfl) hs
  dirReport s p u _ hs _ := k.of_ports (by
    unfold State.dirReport
    split
    · rfl
    · split
      · rfl
      · exact State.raise_ports ..) hs
  flagUnit _ _ _ hs _ := hs
  written _ _ _ _ _ _ _ _ _ _ hs _ := hs
  freed _ _ _ _ hs _ := hs

theorem barHolder (k : KeptInPort Q) (who : Talker) (hs : s.everyPort Q) : (s.barHolder who).everyPort Q := by
  unfold State.barHolder
  split
  · split
    · exact k.of_updated _ rfl hs
    · exact hs
  · exact hs

theorem departs (k : KeptInPort Q) (p : PortId) (life : Lifecycle) (out : life ≠ .active) (hs : s.everyPort Q) :
    (s.departed p life).everyPort Q := by
  have left := portMoves_updatePort s p fun q => { q with lifecycle := life }
  have ended : s.portMoves p { s.port p with lifecycle := life, engaged := false }
      (if ((s.updatePort p fun q => { q with lifecycle := life }).port p).engaged
        then (s.updatePort p fun q => { q with lifecycle := life }).endEngagement p
        else s.updatePort p fun q => { q with lifecycle := life }) := by
    split
    · refine (left.trans (portMoves_endEngagement _ p)).congr ?_
      rw [State.port_updatePort_same]
    · next silent =>
      refine left.congr ?_
      rw [State.port_updatePort_same] at silent
      have off : (s.port p).engaged = false := Bool.eq_false_of_not_eq_true silent
      rw [Port.core, Port.core, ← off]
  refine k.of_moves ((ended.trans (portMoves_updatePort _ p Port.dropped)).congr ?_) (k.departed _ life out (hs p)) hs
  have cores := congrArg (fun c => c.dropped.core) ended.core
  exact cores.symm

theorem removeNonMembers_ports (s : State) (b : BridgeId) : (s.removeNonMembers b).ports = s.ports := by
  unfold State.removeNonMembers
  dsimp only
  split
  · split
    · split
      · simp only [State.updateBridge_ports]
      · rw [(actsOn_release _ b).ports]; simp only [State.updateBridge_ports]
    · simp only [State.updateBridge_ports]
  · simp only [State.updateBridge_ports]

theorem adjustBurst_ports (s : State) (b : BridgeId) : (s.adjustBurst b).ports = s.ports := by
  unfold State.adjustBurst
  dsimp only
  split
  · rfl
  · rw [State.reportChange_ports]; rfl

theorem switchPlans (k : KeptInPort Q) (hs : s.everyPort Q) : s.switchPlans.everyPort Q := by
  unfold State.switchPlans
  dsimp only
  refine k.handOn (KeptByOperations.foldl (fun t p ht => ?_) _ (KeptByOperations.foldl (fun t p ht => ?_) _
    (KeptByOperations.foldl (f := State.adjustBurst) (fun t b ht => k.of_ports (adjustBurst_ports t b) ht) _
      (KeptByOperations.foldl (f := State.removeNonMembers) (fun t b ht => k.of_ports (removeNonMembers_ports t b) ht) _
        (k.of_ports (s := s) rfl hs)))))
  · split
    · exact k.of_ports (takeBid_ports t p) ht
    · exact ht
  · exact k.of_ports (takeHandedBids_ports _) (k.removeDestination _ p ht)

theorem pieces (k : KeptInPort Q) : KeptByPieces (State.everyPort Q) where
  same h hs := k.of_sameCores (sameCores_of_view h) hs
  raise s src n _ hs _ := k.of_ports (State.raise_ports s src n) hs
  handOn _ hs _ := k.handOn hs
  turnLevel s b hs _ := k.of_ports (by unfold State.turnLevel; dsimp only; split <;> rfl) hs
  changeSegment s b hs _ := k.of_ports (by unfold State.changeSegment; dsimp only; split <;> rfl) hs
  burstEnded s b hs _ := k.of_ports (by unfold State.burstEnded; rw [State.reportChange_ports]; rfl) hs
  setReceiver s p r out hs _ := k.of_moves (portMoves_setPort s p _) (k.received _ r out (hs p)) hs
  cutPlace _ b h _ _ hs _ := k.of_ports (State.raise_ports ..) (k.of_ports (actsOn_release _ b).ports
    (k.barHolder h.who hs))
  timerCounted _ _ hs _ := hs
  keyReached _ p hs _ := k.keyReached p hs
  activated s p out hs _ := k.of_moves (portMoves_updatePort s p _)
    (k.activated _ (s.dataLines.getLsbD p) out (hs p)) hs
  departed _ p life out _ hs _ := k.departs p life out hs
  requalified s p hs _ := by
    have written := portMoves_setPort s p (s.port p).requalified
    exact k.of_moves (portMoves_judged written false) (k.requalified _ (hs p)) hs
  acceptIdent _ p u valid hs _ := k.priorities.acceptIdent p u valid hs
  acceptEmerg _ p u valid hs _ := k.priorities.acceptEmerg p u valid hs
  acceptEmergClear _ p u valid hs _ := k.priorities.acceptEmergClear p u valid hs
  switchPlans _ hs _ := k.switchPlans hs
  latched _ _ _ hs _ := hs
  formSample s f slots _ _ _ hs _ := k.of_sameCores (fun r => by rw [formSample_port]; rfl) hs
  counted s _ cs pres late _ _ hs _ := by
    intro p
    have completed := k.completed _ s.mixer.rate (cs.getLsbD p) (pres.getLsbD p) (hs p)
    rw [counted_port]
    split
    · exact completed
    · next taken =>
      have none_next : (s.port p).keyEventNext = false := by
        cases next_ : (s.port p).keyEventNext with
        | false => rfl
        | true => exact absurd (by rw [keyLeft, next_, Bool.or_true]) taken
      rw [← keyEventNext_completed _ s.mixer.rate (cs.getLsbD p) (pres.getLsbD p)] at none_next
      simp only [Port.keyEventNext, Bool.or_eq_false_iff] at none_next
      exact k.counted _ none_next.1.1.1.1.1 (fun _ => none_next.2) completed

theorem requests (k : KeptInPort Q) : KeptByRequests (State.everyPort Q) where
  startLost s p off hs _ := k.of_moves (portMoves_updatePort s p _) (k.lost _ off (hs p)) hs
  writeSetup _ p f new read h hs _ := k.priorities.writeSetup p read h hs
  pendSwitch _ hs _ := hs
  writeRecord _ _ _ _ _ _ _ hs _ := hs
  copyPlan _ hs _ := hs
  clearAllBridges s hs _ := by
    have emptied (t : State) (b : BridgeId) : (t.emptyBridge b).ports = t.ports := by
      unfold State.emptyBridge
      dsimp only
      rw [State.reportIf_ports, State.updateBridge_ports]
    have barred (t : State) (p : PortId) (ht : t.everyPort Q) : (t.barEngaged p).everyPort Q := by
      unfold State.barEngaged
      split
      · exact k.of_updated p rfl ht
      · exact ht
    exact KeptByOperations.foldl (f := State.clearKey) (fun t p ht => k.clearKey p ht) _
      (KeptByOperations.foldl (f := State.barEngaged) barred _
        (KeptByOperations.foldl (f := State.emptyBridge) (fun t b ht => k.of_ports (emptied t b) ht) _
          (k.of_ports (State.reportIf_ports ..) hs)))
  haltMixer s hs _ := k.of_sameCores (s := s) (fun r => by simp [State.haltMixer, State.port, Port.core]) hs
  runMixer _ _ hs _ := hs
  setupMixer f s hs _ := k.of_ports (by unfold setupMixer; split <;> [split <;> rfl; rfl]) hs
  monitor mask gains s hs _ := k.of_ports (by unfold monitor; split <;> rfl) hs
  moveConsole s carried hs _ := by
    unfold State.moveConsole State.writeTalk
    dsimp only
    refine k.of_ports (State.reportIf_ports ..) (k.of_ports (s := ((s.leaveBridges _).joinBridges _)) rfl
      (KeptByOperations.foldl (P := State.everyPort Q) (fun t b ht => ?_) _
      (KeptByOperations.foldl (P := State.everyPort Q) (fun t b ht => ?_) _ hs)))
    · split
      · exact k.handOn (k.of_ports (actsOn_bid t b .con).ports ht)
      · exact ht
    · split
      · refine k.handOn (k.of_ports ?_ ht)
        unfold State.consoleLeave
        split
        · exact (actsOn_release t b).ports
        · rfl
      · exact ht
  entered s u _ _ _ _ _ _ _ _ hs _ := k.priorities.handOverride s u hs
  removed s u _ _ hs _ := k.priorities.handOverride s u hs
  purged _ hs _ := hs
  declared _ p _ hs _ := k.priorities.handPriority p _ (k.priorities.enterEmergency p none hs)
  leaveEmergency _ p hs _ := k.priorities.leaveEmergency p hs
  leaveUnit _ u hs _ := k.priorities.leaveAllSourced u hs
  clearFlags _ _ _ hs _ := hs
  writeMask s _ _ _ _ _ hs _ := by
    rw [writeMask_eq]
    exact hs

/-- What each change of a port keeps, every step keeps. -/
theorem step (k : KeptInPort Q) (reset : Q Port.reset) (h : step s = .next t) (hs : s.everyPort Q) :
    t.everyPort Q := by
  refine k.pieces.step k.requests ⟨fun _ _ hs => hs, fun p => ?_⟩ h hs
  have there : State.reset.port p = Port.reset := by simp [State.reset, State.port]
  rw [there]
  exact reset

end KeptInPort

end Sys2Proof.Machine
end

section
/-! SUPPORT. Engagement, the held ports and the counts of the key machines, each kept port by port (R5, R16, R96, R98,
R102 to R108, R118). -/

namespace Sys2Proof.Machine

/-- Engaged exactly while the three conditions stand (R16). -/
def Port.engagedRightly (q : Port) : Prop := q.engaged = q.mayEngage

/-- Not ACTIVE, a port is held at rest (R5, R7, R23, R96). -/
def Port.heldInactive (q : Port) : Prop := q.lifecycle ≠ .active →
  q.key = .idle ∧ q.timing = 0 ∧ q.keyUp = 0 ∧ q.carrier = false ∧ q.carrierCount = 0
  ∧ q.vox = false ∧ q.quietCount = 0 ∧ q.receiver = .idle

/-- The key-up count is below the key limit (R118). -/
def Port.withinKeyLimit (q : Port) : Prop :=
  if q.setup.keyLimit = 0 then q.keyUp = 0 else q.keyUp < q.setup.keyLimit * Config.framesPerSecond

/-- Counts in states that do not count are 0 (R102, R103, R104, R107, R108). -/
def Port.restingCounts (q : Port) : Prop :=
  (q.key = .idle ∨ q.key = .deferred → q.timing = 0 ∧ q.keyUp = 0) ∧ (q.key = .keyed → q.timing = 0)
  ∧ (q.key = .blank ∨ q.key = .cool → q.keyUp = 0)

/-! ## Engagement -/

theorem blanked_of_asserted {q : Port} (h : q.key.asserted = true) : q.blanked = true := by
  unfold Port.blanked
  cases key : q.key <;> simp [key, KeyState.asserted] at h ⊢

theorem engaged_of_blanked {q : Port} (h : q.blanked = true) (hq : q.engagedRightly) : q.engaged = false := by
  rw [hq, Port.mayEngage, h, Bool.not_true, Bool.and_false, Bool.false_and]

theorem engagedRightly_judged (q : Port) : q.judged.engagedRightly := rfl

theorem engagedRightly_of_silent {q : Port} (off : q.engaged = false) (blanked : q.blanked = true) :
    q.engagedRightly := by
  rw [Port.engagedRightly, off, Port.mayEngage, blanked, Bool.not_true, Bool.and_false, Bool.false_and]

theorem engagedRightly_of_inactive {q : Port} (off : q.engaged = false) (out : q.lifecycle ≠ .active) :
    q.engagedRightly := by
  rw [Port.engagedRightly, off, Port.mayEngage, beq_eq_false_iff_ne.mpr out, Bool.false_and, Bool.false_and]

theorem engaged_of_inactive {q : Port} (out : q.lifecycle ≠ .active) (hq : q.engagedRightly) : q.engaged = false := by
  rw [hq, Port.mayEngage, beq_eq_false_iff_ne.mpr out, Bool.false_and, Bool.false_and]

/-- Where the conditions are unchanged, so is what engagement should be. -/
theorem engagedRightly_of_same {q q' : Port} (engaged : q'.engaged = q.engaged) (may : q'.mayEngage = q.mayEngage)
    (hq : q.engagedRightly) : q'.engagedRightly := by
  rw [Port.engagedRightly, engaged, may]
  exact hq

theorem setup_of_sameButLive {a b : Setup} (h : sameButLive a b = true) : b.qualify = a.qualify ∧ b.blank = a.blank
    ∧ b.keyLimit = a.keyLimit := by
  have same := of_decide_eq_true h
  rw [← same]
  exact ⟨rfl, rfl, rfl⟩

theorem blanked_counted {q : Port} (h : q.key = .cool → q.keyCounted.coolBlankOver = false) :
    q.keyCounted.blanked = q.blanked := by
  by_cases cool : q.key = .cool
  · have counted : q.keyCounted = { q with timing := q.timing + 1 } := by unfold Port.keyCounted; rw [cool]
    have notHere : q.timing + 1 ≠ q.setup.blank := by
      have over_ := h cool
      rw [counted] at over_
      simpa [Port.coolBlankOver, cool] using over_
    rw [counted]
    simp only [Port.blanked, cool, decide_eq_decide]
    omega
  · rw [keyCounted_keeps]
    unfold Port.blanked
    dsimp only
    cases key : q.key <;> first | rfl | exact absurd key cool

theorem keptInPort_engaged : KeptInPort Port.engagedRightly where
  same h hq := engagedRightly_of_same (by have same := congrArg Port.engaged h; exact same) (mayEngage_of_core h) hq
  entered q k _ _ := engagedRightly_judged _
  rekeyed q k asserted asserted' hq :=
    engagedRightly_of_silent (engaged_of_blanked (q := q) (blanked_of_asserted (q := q) asserted) hq)
      (blanked_of_asserted asserted')
  blanked q asserted hq := engagedRightly_of_silent (engaged_of_blanked (q := q) (blanked_of_asserted
    (q := q) asserted) hq) rfl
  rested q k key key' _ hq := by
    refine engagedRightly_of_same (q := q) rfl ?_ hq
    have clear : q.blanked = false := by unfold Port.blanked; rcases key with key | key <;> rw [key]
    have clear' : Port.blanked { q with key := k, timing := 0, keyUp := 0 } = false := by
      rcases key' with rfl | rfl <;> rfl
    unfold Port.mayEngage
    rw [clear, clear']
    rfl
  counted q _ cool hq := by
    have may : q.keyCounted.mayEngage = q.mayEngage := by
      rw [Port.mayEngage, blanked_counted cool, keyCounted_keeps]
      rfl
    exact engagedRightly_of_same (by rw [keyCounted_keeps]) may hq
  cooled q _ _ := engagedRightly_judged _
  requalified q _ := engagedRightly_judged _
  completed q rate csHigh presHigh hq := engagedRightly_of_same (q := q) rfl rfl hq
  setup q new live hq := by
    rcases live with off | same
    · have out : q.lifecycle ≠ .active := by rw [off]; exact nofun
      exact engagedRightly_of_inactive (engaged_of_inactive (q := q) out hq) out
    · obtain ⟨qualify, blank, -⟩ := setup_of_sameButLive same
      refine engagedRightly_of_same (q := q) rfl ?_ hq
      simp only [Port.mayEngage, Port.blanked, Port.qualified, qualify, blank]
  received q r _ hq := engagedRightly_of_same (q := q) rfl rfl hq
  activated q high _ _ := by
    have unqualified : (q.activated high).qualified = false := by
      unfold Port.qualified
      split <;> rfl
    rw [Port.engagedRightly, Port.mayEngage, unqualified, Bool.and_false]
    rfl
  departed q life out _ := engagedRightly_of_inactive rfl out
  lost q off hq := engagedRightly_of_inactive (engaged_of_inactive (q := q) (by rw [off]; exact nofun) hq) nofun

/-! ## At rest while not ACTIVE -/

theorem heldInactive_of_active {q : Port} (h : q.lifecycle = .active) : q.heldInactive := fun out => absurd h out

theorem active_of_key {q : Port} (hq : q.heldInactive) (h : q.key ≠ .idle) : q.lifecycle = .active := by
  by_contra out
  exact h (hq out).1

/-- A change of an ACTIVE port, or to IDLE with both counts at 0 of another. -/
theorem heldInactive_idled {q : Port} {k : KeyState} (hq : q.heldInactive)
    (h : k = .idle ∨ q.lifecycle = .active ∨ q.key ≠ .idle) (engaged : Bool) :
    Port.heldInactive { q with key := k, timing := 0, keyUp := 0, engaged := engaged } := by
  intro out
  have idle := h.resolve_right (not_or.mpr ⟨out, fun busy => out (active_of_key (q := q) hq busy)⟩)
  obtain ⟨-, -, -, rest⟩ := hq out
  exact ⟨idle, rfl, rfl, rest⟩

theorem ne_idle_of_asserted {k : KeyState} (h : k.asserted = true) : k ≠ .idle := by
  rintro rfl
  cases h

theorem keptInPort_held : KeptInPort Port.heldInactive where
  same h hq out := by
    have held := congrArg (fun c : Port => c.heldInactive) h
    have there : Port.heldInactive _ := cast held.symm hq
    exact there out
  entered q k live hq := heldInactive_idled hq live _
  rekeyed q k asserted _ hq := heldInactive_of_active (active_of_key (q := q) hq (ne_idle_of_asserted asserted))
  blanked q asserted hq := heldInactive_of_active (active_of_key (q := q) hq (ne_idle_of_asserted asserted))
  rested q k _ _ live hq := heldInactive_idled hq (live.imp_right .inl) q.engaged
  counted q _ _ hq := by
    intro out
    rw [keyCounted_keeps] at out
    have idle := (hq out).1
    have same : q.keyCounted = q := by unfold Port.keyCounted; rw [idle]
    rw [same]
    exact hq out
  cooled q cool hq := by
    refine heldInactive_of_active ?_
    have active := active_of_key (q := q) hq (by rw [cool]; exact nofun)
    unfold Port.judged
    rw [keyCounted_keeps]
    exact active
  requalified q hq := by
    by_cases active : q.lifecycle = .active
    · refine heldInactive_of_active ?_
      unfold Port.judged Port.requalified
      dsimp only
      split_ifs <;> exact active
    · obtain ⟨key, timing, keyUp, carrier, carrierCount, vox, quietCount, receiver⟩ := hq active
      have same : q.requalified = q := by
        have noCarrier : q.carrierReached = false := by simp [Port.carrierReached, carrierCount]
        have noQuiet : q.quietReached = false := by simp [Port.quietReached, quietCount]
        have notLoud : q.voxLoud = false := by simp [Port.voxLoud, active]
        simp [Port.requalified, noCarrier, noQuiet, notLoud]
      rw [same]
      exact fun _ => ⟨key, timing, keyUp, carrier, carrierCount, vox, quietCount, receiver⟩
  completed q rate csHigh presHigh hq out := by
    obtain ⟨key, timing, keyUp, carrier, carrierCount, vox, quietCount, receiver⟩ := hq out
    have notSampling : q.sampling presHigh = false := by
      have off : q.lifecycle ≠ .active := out
      simp [Port.sampling, off]
    simp only [Port.completed, notSampling, receiver]
    exact ⟨key, timing, keyUp, carrier, carrierCount, vox, quietCount, rfl⟩
  setup q new _ hq := hq
  received q r busy hq := heldInactive_of_active <| by
    by_contra out
    exact busy (hq out).2.2.2.2.2.2.2
  activated q high _ _ := heldInactive_of_active rfl
  departed q life _ _ _ := ⟨rfl, rfl, rfl, rfl, rfl, rfl, rfl, rfl⟩
  lost q off hq _ := hq (by rw [off]; exact nofun)

/-! ## The key limit -/

theorem withinKeyLimit_zero {q : Port} (h : q.keyUp = 0) : q.withinKeyLimit := by
  unfold Port.withinKeyLimit
  split
  · exact h
  · next limited =>
    rw [h]
    exact Nat.mul_pos (Nat.pos_of_ne_zero limited) (by decide)

theorem withinKeyLimit_of_same {q q' : Port} (limit : q'.setup.keyLimit = q.setup.keyLimit) (keyUp : q'.keyUp = q.keyUp)
    (hq : q.withinKeyLimit) : q'.withinKeyLimit := by
  unfold Port.withinKeyLimit
  rw [limit, keyUp]
  exact hq

theorem withinKeyLimit_counted {q : Port} (below : q.keyCounted.limitReached = false) (hq : q.withinKeyLimit) :
    q.keyCounted.withinKeyLimit := by
  have same (h : q.keyCounted.keyUp = q.keyUp) : q.keyCounted.withinKeyLimit :=
    withinKeyLimit_of_same (by rw [keyCounted_keeps]) h hq
  have up (asserted : q.key.asserted = true) : q.keyCounted.withinKeyLimit := by
    have setup : q.keyCounted.setup = q.setup := by rw [keyCounted_keeps]
    have counted : q.keyCounted.keyUp = if q.setup.keyLimit = 0 then q.keyUp else q.keyUp + 1 := by
      unfold Port.keyCounted
      cases key : q.key <;> first | rfl | (rw [key] at asserted; cases asserted)
    unfold Port.withinKeyLimit at hq ⊢
    rw [setup, counted]
    split
    · next unlimited => rwa [if_pos unlimited] at hq
    · next limited =>
      rw [Port.limitReached, keyCounted_key, asserted, setup, counted, if_neg limited] at below
      simpa [limited] using below
  cases key : q.key with
  | keyed => exact up (by rw [key]; rfl)
  | drain => exact up (by rw [key]; rfl)
  | hang => exact up (by rw [key]; rfl)
  | idle => exact same (by unfold Port.keyCounted; rw [key])
  | deferred => exact same (by unfold Port.keyCounted; rw [key])
  | blank => exact same (by unfold Port.keyCounted; rw [key])
  | cool => exact same (by unfold Port.keyCounted; rw [key])

theorem keyUp_cooled {q : Port} (cool : q.key = .cool) : q.keyCounted.keyUp = q.keyUp := by
  unfold Port.keyCounted
  rw [cool]

theorem requalified_keeps (q : Port) : q.requalified.setup = q.setup ∧ q.requalified.keyUp = q.keyUp
    ∧ q.requalified.timing = q.timing ∧ q.requalified.key = q.key := by
  unfold Port.requalified
  dsimp only
  split_ifs <;> exact ⟨rfl, rfl, rfl, rfl⟩

/-- An OFF port has no key-up count, so that a new key limit finds it within. -/
theorem keptInPort_limit : KeptInPort fun q => q.heldInactive ∧ q.withinKeyLimit where
  same {q q'} h hq := ⟨keptInPort_held.same h hq.1, withinKeyLimit_of_same
    (by have same := congrArg (fun c : Port => c.setup.keyLimit) h; exact same)
    (by have same := congrArg Port.keyUp h; exact same) hq.2⟩
  entered q k live hq := ⟨keptInPort_held.entered q k live hq.1, withinKeyLimit_zero rfl⟩
  rekeyed q k h h' hq := ⟨keptInPort_held.rekeyed q k h h' hq.1, withinKeyLimit_of_same rfl rfl hq.2⟩
  blanked q h hq := ⟨keptInPort_held.blanked q h hq.1, withinKeyLimit_zero rfl⟩
  rested q k h h' live hq := ⟨keptInPort_held.rested q k h h' live hq.1, withinKeyLimit_zero rfl⟩
  counted q below cool hq := ⟨keptInPort_held.counted q below cool hq.1, withinKeyLimit_counted below hq.2⟩
  cooled q cool hq := ⟨keptInPort_held.cooled q cool hq.1,
    withinKeyLimit_of_same (q := q) (by rw [Port.judged, keyCounted_keeps]) (keyUp_cooled cool) hq.2⟩
  requalified q hq := ⟨keptInPort_held.requalified q hq.1, withinKeyLimit_of_same
    (by rw [Port.judged, (requalified_keeps q).1]) (requalified_keeps q).2.1 hq.2⟩
  completed q rate csHigh presHigh hq := ⟨keptInPort_held.completed q rate csHigh presHigh hq.1,
    withinKeyLimit_of_same (q := q) rfl rfl hq.2⟩
  setup q new live hq := by
    refine ⟨keptInPort_held.setup q new live hq.1, ?_⟩
    rcases live with off | same
    · exact withinKeyLimit_zero (hq.1 (by rw [off]; exact nofun)).2.2.1
    · exact withinKeyLimit_of_same (q := q) (setup_of_sameButLive same).2.2 rfl hq.2
  received q r busy hq := ⟨keptInPort_held.received q r busy hq.1, withinKeyLimit_of_same (q := q) rfl rfl hq.2⟩
  activated q high out hq := ⟨keptInPort_held.activated q high out hq.1, withinKeyLimit_zero rfl⟩
  departed q life out hq := ⟨keptInPort_held.departed q life out hq.1, withinKeyLimit_zero rfl⟩
  lost q off hq := ⟨keptInPort_held.lost q off hq.1, withinKeyLimit_of_same (q := q) rfl rfl hq.2⟩

/-! ## Counts at rest -/

theorem restingCounts_zero {q : Port} (timing : q.timing = 0) (keyUp : q.keyUp = 0) : q.restingCounts :=
  ⟨fun _ => ⟨timing, keyUp⟩, fun _ => timing, fun _ => keyUp⟩

theorem restingCounts_of_same {q q' : Port} (key : q'.key = q.key) (timing : q'.timing = q.timing)
    (keyUp : q'.keyUp = q.keyUp) (hq : q.restingCounts) : q'.restingCounts := by
  unfold Port.restingCounts
  rw [key, timing, keyUp]
  exact hq

/-- The key-up line is asserted: both counts may stand but the timing of KEYED. -/
theorem restingCounts_of_asserted {q : Port} (asserted : q.key.asserted = true) (timing :
    q.key = .keyed → q.timing = 0) :
    q.restingCounts := by
  refine ⟨fun resting => ?_, timing, fun resting => ?_⟩ <;>
    rcases resting with key | key <;> rw [key] at asserted <;> cases asserted

theorem restingCounts_counted {q : Port} (hq : q.restingCounts) : q.keyCounted.restingCounts := by
  obtain ⟨resting, keyed, blanked⟩ := hq
  cases key : q.key with
  | idle => rw [show q.keyCounted = q by unfold Port.keyCounted; rw [key]]; exact ⟨resting, keyed, blanked⟩
  | deferred => rw [show q.keyCounted = q by unfold Port.keyCounted; rw [key]]; exact ⟨resting, keyed, blanked⟩
  | keyed =>
    refine restingCounts_of_asserted (by rw [keyCounted_key, key]; rfl) fun _ => ?_
    rw [← keyed key]
    unfold Port.keyCounted
    rw [key]
  | drain =>
    exact restingCounts_of_asserted (by rw [keyCounted_key, key]; rfl) (by rw [keyCounted_key, key]; exact nofun)
  | hang =>
    exact restingCounts_of_asserted (by rw [keyCounted_key, key]; rfl) (by rw [keyCounted_key, key]; exact nofun)
  | blank =>
    refine ⟨by rw [keyCounted_key, key]; exact nofun, by rw [keyCounted_key, key]; exact nofun, fun _ => ?_⟩
    rw [← blanked (.inl key)]
    unfold Port.keyCounted
    rw [key]
  | cool =>
    refine ⟨by rw [keyCounted_key, key]; exact nofun, by rw [keyCounted_key, key]; exact nofun, fun _ => ?_⟩
    rw [← blanked (.inr key)]
    unfold Port.keyCounted
    rw [key]

theorem keptInPort_counts : KeptInPort Port.restingCounts where
  same h hq := restingCounts_of_same (by have same := congrArg Port.key h; exact same)
    (by have same := congrArg Port.timing h; exact same) (by have same := congrArg Port.keyUp h; exact same) hq
  entered q k _ _ := restingCounts_zero rfl rfl
  rekeyed q k _ asserted _ := restingCounts_of_asserted asserted fun _ => rfl
  blanked q _ _ := restingCounts_zero rfl rfl
  rested q k _ _ _ _ := restingCounts_zero rfl rfl
  counted q _ _ hq := restingCounts_counted hq
  cooled q _ hq := restingCounts_of_same rfl rfl rfl (restingCounts_counted hq)
  requalified q hq := restingCounts_of_same (requalified_keeps q).2.2.2 (requalified_keeps q).2.2.1
    (requalified_keeps q).2.1 hq
  completed q _ _ _ hq := restingCounts_of_same (q := q) rfl rfl rfl hq
  setup q _ _ hq := restingCounts_of_same (q := q) rfl rfl rfl hq
  received q _ _ hq := restingCounts_of_same (q := q) rfl rfl rfl hq
  activated q _ _ _ := restingCounts_zero rfl rfl
  departed q _ _ _ := restingCounts_zero rfl rfl
  lost q _ hq := restingCounts_of_same (q := q) rfl rfl rfl hq

/-! ## Every step -/

theorem engagementRule_kept {s t : State} (h : step s = .next t) (hs : s.engagementRule) : t.engagementRule :=
  keptInPort_engaged.step rfl h hs

theorem neverKeyedOver_of_engagementRule {s : State} (hs : s.engagementRule) : s.neverKeyedOver :=
  fun p asserted => engaged_of_blanked (blanked_of_asserted asserted) (hs p)

theorem heldInactive_reset : Port.reset.heldInactive := fun _ => ⟨rfl, rfl, rfl, rfl, rfl, rfl, rfl, rfl⟩

/-- Settles O56: port by port, by what each change that a step makes of a port keeps. -/
theorem everyStepKeepsThePorts : Obligations.EveryStepKeepsThePorts := fun _ _ h =>
  ⟨fun hs => ⟨engagementRule_kept h hs, neverKeyedOver_of_engagementRule (engagementRule_kept h hs)⟩,
    fun held => keptInPort_held.step heldInactive_reset h held,
    fun held limit p => (keptInPort_limit.step ⟨heldInactive_reset, withinKeyLimit_zero rfl⟩ h
      (fun p => ⟨held p, limit p⟩) p).2,
    fun hs => keptInPort_counts.step (restingCounts_zero rfl rfl) h hs⟩

end Sys2Proof.Machine
end

section
/-! SUPPORT. Membership, key demand and the override key by the records of a plan that keeps the membership rule (R50,
R51, R100, R101). -/

namespace Sys2Proof.Machine

section
variable {records : Vector Record 8} {s : State} {p : PortId} {b : BridgeId}

/-- Sets of ports without a common port. -/
theorem getLsbD_of_disjoint {x y : PortSet} (h : x &&& y = 0) (hx : x.getLsbD p = true) : y.getLsbD p = false := by
  have both := congrArg (fun z : PortSet => z.getLsbD p) h
  simpa [hx] using both

/-- The first bridge whose set names a port, where no two name the same. -/
theorem find_bridge_iff {part : BridgeId → PortSet}
    (apart : ∀ b c : BridgeId, (part b).getLsbD p = true → (part c).getLsbD p = true → b = c) :
    allBridges.find? (fun b => (part b).getLsbD p) = some b ↔ (part b).getLsbD p = true := by
  constructor
  · exact fun found => List.find?_some (p := fun b : BridgeId => (part b).getLsbD p) found
  · intro here
    cases found : allBridges.find? (fun b => (part b).getLsbD p) with
    | none => exact absurd here (by simpa using List.find?_eq_none.mp found b (mem_allBridges b))
    | some c =>
      have there : (part c).getLsbD p = true := List.find?_some (p := fun b : BridgeId => (part b).getLsbD p) found
      rw [apart c b there here]

theorem members_apart (h : memberRule records) (b c : BridgeId) (hb : records[b].members.getLsbD p = true)
    (hc : records[c].members.getLsbD p = true) : b = c := by
  by_contra distinct
  rw [getLsbD_of_disjoint (h.2 b c distinct) hb] at hc
  cases hc

theorem memberIn_iff (h : memberRule records) : memberIn records p = some b ↔ records[b].members.getLsbD p = true :=
  find_bridge_iff (part := fun b => records[b].members) (members_apart h)

theorem member_of_destination (h : memberRule records) (here : records[b].destinations.getLsbD p = true) :
    records[b].members.getLsbD p = true := by
  have nested := h.1 b
  simp only [recordNested, Bool.and_eq_true, beq_iff_eq] at nested
  have within : (records[b].destinations &&& records[b].members).getLsbD p = records[b].destinations.getLsbD p :=
    congrArg (fun z : PortSet => z.getLsbD p) nested.1
  rwa [BitVec.getLsbD_and, here, Bool.true_and] at within

theorem destinationIn_iff (h : memberRule records) :
    destinationIn records p = some b ↔ records[b].destinations.getLsbD p = true :=
  find_bridge_iff (part := fun b => records[b].destinations) fun b c hb hc =>
    members_apart h b c (member_of_destination h hb) (member_of_destination h hc)

theorem memberOf_iff (h : s.planRule) : s.memberOf p = some b ↔ (s.record b).members.getLsbD p = true :=
  memberIn_iff (planRule_iff.mp h s.plans.active)

theorem destinationOf_iff (h : s.planRule) : s.destinationOf p = some b ↔ (s.record b).destinations.getLsbD p = true :=
  destinationIn_iff (planRule_iff.mp h s.plans.active)

theorem demand_iff (s : State) (p : PortId) : s.demand p = true ↔ ∃ b : BridgeId, s.destinationOf p = some b
    ∧ ((∃ h : Holder, (s.bridge b).holder = some h ∧ h.who ≠ .port p) ∨ (s.bridge b).burst ≠ 0) := by
  unfold State.demand
  cases s.destinationOf p with
  | none => simp
  | some b => simp [Option.any_eq_true, Nat.pos_iff_ne_zero]

theorem overrideKey_iff (s : State) (p : PortId) : s.overrideKey p = true ↔ ∃ b : BridgeId, s.destinationOf p = some b
    ∧ (s.record b).override = true
    ∧ ∃ h : Holder, (s.bridge b).holder = some h ∧ h.who ≠ .port p ∧ 4 ≤ h.priority := by
  unfold State.overrideKey
  cases s.destinationOf p with
  | none => simp
  | some b => simp [Option.any_eq_true, and_comm]

theorem demand_of_overrideKey (h : s.overrideKey p = true) : s.demand p = true := by
  obtain ⟨b, there, -, x, held, other, -⟩ := (overrideKey_iff s p).mp h
  exact (demand_iff s p).mpr ⟨b, there, .inl ⟨x, held, other⟩⟩

end

/-- Settles O26: a port is named by one record at most, so that the search for its bridge finds that one. -/
theorem demandAndOverrideKey : Obligations.DemandAndOverrideKey := by
  intro s p rule
  refine ⟨fun b => ⟨rfl, memberOf_iff rule, destinationOf_iff rule, fun n => destinationIn_iff
    (planRule_iff.mp rule n)⟩,
    rfl, ?_, ?_, demand_of_overrideKey⟩
  · simp only [demand_iff, destinationOf_iff rule]
  · simp only [overrideKey_iff, destinationOf_iff rule]

end Sys2Proof.Machine
end

section
/-! SUPPORT. Who has a place in a bridge (R71), after each operation of the arbiter. -/

namespace Sys2Proof.Machine

/-! ## Places -/

/-- The port waits: a VALID stack entry or a queue entry. -/
def Bridge.waits (r : Bridge) (q : PortId) : Prop :=
  (∃ e ∈ r.stack, e.port = q ∧ e.tag = .valid) ∨ ∃ e ∈ r.queue, e.port = q

/-- The port holds. -/
def Bridge.heldBy (r : Bridge) (q : PortId) : Prop := ∃ h : Holder, r.holder = some h ∧ h.who = .port q

theorem hasPlace_iff (r : Bridge) (q : PortId) : r.hasPlace q = true ↔ r.heldBy q ∨ r.waits q := by
  simp only [Bridge.hasPlace, Bridge.heldBy, Bridge.waits, Bool.or_eq_true, Option.any_eq_true, List.any_eq_true,
    Bool.and_eq_true, beq_iff_eq, or_assoc]

section
variable {s t : State} {b c : BridgeId} {r r' : Bridge} {p q : PortId} {who : Talker} {stamp : Stamp}

theorem mem_named_of_waits (h : r.waits q) : q ∈ r.stack.map (·.port) ++ r.queue.map (·.port) := by
  rcases h with ⟨e, he, rfl, -⟩ | ⟨e, he, rfl⟩
  · exact List.mem_append_left _ (List.mem_map_of_mem he)
  · exact List.mem_append_right _ (List.mem_map_of_mem he)

/-- A bridge that names no port twice: its holder does not wait. -/
theorem not_waits_of_heldBy (nodup : r.named.Nodup) (held : r.heldBy q) : ¬ r.waits q := by
  obtain ⟨h, holds, who⟩ := held
  intro waits
  rw [Bridge.named, holds, Option.map_some, Option.getD_some, who, List.append_assoc] at nodup
  exact (List.nodup_cons.mp nodup).1 (mem_named_of_waits waits)

/-- Places are told by talker, ports and tags, whatever the times and the order. -/
theorem hasPlace_congr (holder : r'.holder.map (·.who) = r.holder.map (·.who))
    (waits : r'.waits q ↔ r.waits q) : r'.hasPlace q = true ↔ r.hasPlace q = true := by
  have heldBy (x : Bridge) : x.heldBy q ↔ x.holder.map (·.who) = some (.port q) := by
    simp [Bridge.heldBy]
  rw [hasPlace_iff, hasPlace_iff, waits, heldBy, heldBy, holder]

theorem waits_spilled (s : State) (r : Bridge) : Bridge.waits { r with
    stack := (s.spilled r.stack r.queue).1, queue := (s.spilled r.stack r.queue).2 } q ↔ r.waits q := by
  rcases List.eq_nil_or_concat r.stack with empty | ⟨rest, bottom, split⟩
  · rw [empty, spilled_of_short (stack := []) (Nat.zero_lt_succ 3), Bridge.waits, Bridge.waits, empty]
  · rw [List.concat_eq_append] at split
    by_cases full : 4 ≤ (rest ++ [bottom]).length
    · simp only [Bridge.waits, split, spilled_concat full]
      cases tag : bottom.tag with
      | valid =>
        simp only [if_true, mem_insertEntry, List.mem_append, List.mem_singleton, or_and_right, exists_or,
          exists_eq_left, tag, and_true, or_assoc]
      | empty =>
        rw [if_neg nofun]
        simp only [List.mem_append, List.mem_singleton, or_and_right, exists_or, exists_eq_left, tag]
        simp
    · rw [split, spilled_of_short (Nat.lt_of_not_le full), Bridge.waits, Bridge.waits, split]

theorem mem_pushed_iff (holder : Option Holder) : (∃ e ∈ (holder.map pushedEntry).getD [], e.port = q ∧ e.tag = .valid)
    ↔ ∃ h : Holder, holder = some h ∧ h.who = .port q := by
  cases holder with
  | none => simp
  | some h =>
    unfold pushedEntry
    cases who : h.who <;> simp [who]

theorem hasPlace_preempted (s : State) (b : BridgeId) (who : Talker) (stamp : Stamp) (r : Bridge) :
    (s.preempted b who stamp r).hasPlace q = true ↔ who = .port q ∨ r.hasPlace q = true := by
  have holds : (s.preempted b who stamp r).heldBy q ↔ who = .port q := by
    simp [Bridge.heldBy, State.preempted, State.grant]
  have waits : (s.preempted b who stamp r).waits q ↔ r.heldBy q ∨ r.waits q := by
    rw [← waits_spilled s r]
    simp only [Bridge.waits, State.preempted, List.mem_append, or_and_right, exists_or, mem_pushed_iff, Bridge.heldBy,
      or_assoc]
  rw [hasPlace_iff, hasPlace_iff, holds, waits]

theorem hasPlace_ownRemoved (r : Bridge) (who : Talker) : (r.ownRemoved who).hasPlace q = true ↔ r.hasPlace q
    = true := by
  refine hasPlace_congr rfl (or_congr ?_ .rfl)
  constructor
  · rintro ⟨e, he, is⟩
    exact ⟨e, (List.mem_filter.mp he).1, is⟩
  · rintro ⟨e, he, port, tag⟩
    exact ⟨e, List.mem_filter.mpr ⟨he, by simp [tag]⟩, port, tag⟩

/-- A bidder comes to have a place, and all others keep theirs. -/
theorem hasPlace_bid (s : State) (b : BridgeId) (who : Talker) :
    ((s.bid b who).bridge b).hasPlace q = true ↔ who = .port q ∨ (s.bridge b).hasPlace q = true := by
  cases held : (s.bridge b).holder with
  | none =>
    rw [bid_bridge_of_free held, ← hasPlace_ownRemoved (s.bridge b) who, hasPlace_iff, hasPlace_iff]
    have none_held : ¬ ((s.bridge b).ownRemoved who).heldBy q := by simp [Bridge.heldBy, Bridge.ownRemoved, held]
    have holds : Bridge.heldBy { (s.bridge b).ownRemoved who with
        holder := some (s.grant b who (s.bidCounter + 1)) } q ↔ who = .port q := by
      simp [Bridge.heldBy, State.grant]
    rw [holds, iff_false_intro none_held, false_or]
    rfl
  | some h =>
    by_cases above : s.outranked b who h
    · rw [bid_bridge_of_outranked held above, hasPlace_preempted, hasPlace_ownRemoved]
    · cases who with
      | con => exact absurd (.inl rfl) above
      | port p =>
        rw [bid_bridge_of_under held above, ← hasPlace_ownRemoved (s.bridge b) (.port p), hasPlace_iff, hasPlace_iff]
        simp only [Bridge.heldBy, Bridge.waits, mem_insertEntry, or_and_right, exists_or, exists_eq_left,
          ownRemoved_queue, Talker.port.injEq]
        have moved (x y z w : Prop) : (x ∨ y ∨ z ∨ w) ↔ z ∨ x ∨ y ∨ w := by tauto
        exact moved _ _ _ _

theorem mem_waiting (e : StackEntry) (valid : e.tag = .valid) : e ∈ r.waiting ↔ e ∈ r.stack := by
  refine ⟨fun he => (waiting_sublist r).subset he, fun he => ?_⟩
  rw [← List.takeWhile_append_dropWhile (p := fun e : StackEntry => decide (e.tag = .empty)) (l := r.stack)] at he
  rcases List.mem_append.mp he with passed | left
  · have empty := List.mem_takeWhile_imp passed
    rw [decide_eq_true_eq, valid] at empty
    cases empty
  · exact left

theorem waits_iff (r : Bridge) : r.waits q ↔ (∃ e ∈ r.waiting, e.port = q
    ∧ e.tag = .valid) ∨ ∃ e ∈ r.queue, e.port = q := by
  refine or_congr ?_ .rfl
  constructor
  · rintro ⟨e, he, port, tag⟩
    exact ⟨e, (mem_waiting e tag).mpr he, port, tag⟩
  · rintro ⟨e, he, port, tag⟩
    exact ⟨e, (mem_waiting e tag).mp he, port, tag⟩

theorem valid_of_waiting {e : StackEntry} {below : List StackEntry} (h : r.waiting = e :: below) : e.tag = .valid := by
  have head : r.waiting.head? = some e := by rw [h]; rfl
  have notEmpty := List.head?_dropWhile_not (fun e : StackEntry => decide (e.tag = .empty)) r.stack
  rw [show (r.stack.dropWhile _).head? = some e from head] at notEmpty
  cases tag : e.tag with
  | valid => rfl
  | empty => simp [tag] at notEmpty

/-- A release leaves a place to those that wait, whoever comes to hold. -/
theorem hasPlace_release (s : State) (b : BridgeId) :
    ((s.release b).bridge b).hasPlace q = true ↔ (s.bridge b).waits q := by
  rw [hasPlace_iff, waits_iff (s.bridge b)]
  cases release_cases s b with
  | freed stack queue result =>
    rw [result, stack, queue]
    simp [Bridge.heldBy, Bridge.waits]
  | resumed e below stack _ result =>
    have valid := valid_of_waiting stack
    rw [result, stack]
    simp only [Bridge.heldBy, Bridge.waits, Option.some.injEq, exists_eq_left', Talker.port.injEq, List.mem_cons,
      or_and_right, exists_or, exists_eq_left, valid, and_true, or_assoc]
  | granted x behind queue _ result =>
    rw [result, queue]
    simp only [Bridge.heldBy, Bridge.waits, Option.some.injEq, exists_eq_left', Talker.port.injEq, List.mem_cons,
      or_and_right, exists_or, exists_eq_left]
    exact or_left_comm

/-- A port that leaves has no place, and all others keep theirs. -/
theorem hasPlace_leavePlace (nodup : (s.bridge b).named.Nodup) :
    ((s.leavePlace b p).bridge b).hasPlace q = true ↔ (s.bridge b).hasPlace q = true ∧ q ≠ p := by
  unfold State.leavePlace
  split
  · next holds =>
    have heldBy : (s.bridge b).heldBy p := by simpa [Option.any_eq_true, Bridge.heldBy] using holds
    rw [hasPlace_release, hasPlace_iff]
    constructor
    · intro waits
      exact ⟨.inr waits, fun same => not_waits_of_heldBy nodup heldBy (same ▸ waits)⟩
    · rintro ⟨held | waits, other⟩
      · obtain ⟨h, is, who⟩ := held
        obtain ⟨h', is', who'⟩ := heldBy
        rw [is] at is'
        cases is'
        rw [who] at who'
        exact absurd (Talker.port.inj who') other
      · exact waits
  · next notHolds =>
    have notHeld : ¬ (s.bridge b).heldBy p := by simpa [Option.any_eq_true, Bridge.heldBy] using notHolds
    rw [State.bridge_updateBridge_same, hasPlace_iff, hasPlace_iff]
    constructor
    · rintro (held | ⟨e, he, port, tag⟩ | ⟨e, he, port⟩)
      · exact ⟨.inl held, fun same => notHeld (same ▸ held)⟩
      · obtain ⟨x, hx, rfl⟩ := List.mem_map.mp he
        by_cases leaves : x.port = p
        · rw [if_pos leaves] at tag; cases tag
        · rw [if_neg leaves] at port tag
          exact ⟨.inr (.inl ⟨x, hx, port, tag⟩), fun same => leaves (port.trans same)⟩
      · obtain ⟨there, kept⟩ := List.mem_filter.mp he
        exact ⟨.inr (.inr ⟨e, there, port⟩), fun same => by simp [port, same] at kept⟩
    · rintro ⟨held | ⟨e, he, port, tag⟩ | ⟨e, he, port⟩, other⟩
      · exact .inl held
      · refine .inr (.inl ⟨e, List.mem_map.mpr ⟨e, he, if_neg fun leaves => other (port.symm.trans leaves)⟩, port, tag⟩)
      · exact .inr (.inr ⟨e, List.mem_filter.mpr ⟨he, by simpa [port] using other⟩, port⟩)

/-- A new effective priority moves a port within its bridge: all keep their places. -/
theorem hasPlace_takePriority (s : State) (b : BridgeId) (p : PortId) :
    ((s.takePriority b p).bridge b).hasPlace q = true ↔ (s.bridge b).hasPlace q = true := by
  cases takePriority_cases s b p with
  | unplaced _ result => rw [result]
  | holding h held _ result =>
    rw [result, State.bridge_updateBridge_same]
    exact hasPlace_congr (by rw [held]; rfl) .rfl
  | resorted h e _ _ _ _ result =>
    rw [result, State.bridge_updateBridge_same]
    refine hasPlace_congr rfl (or_congr .rfl ?_)
    simp only [(sortQueue_perm s _).mem_iff]
  | preempts h e held who queued above =>
    have port : e.port = p := by simpa using List.find?_some queued
    have there := List.mem_of_find?_eq_some queued
    rw [takePriority_bridge_of_outranked held who queued above, hasPlace_preempted, hasPlace_iff, hasPlace_iff]
    simp only [Bridge.heldBy, Bridge.waits, List.mem_filter, (sortQueue_perm s _).mem_iff, Talker.port.injEq]
    constructor
    · rintro (rfl | holds | stacked | ⟨x, ⟨hx, -⟩, is⟩)
      · exact .inr (.inr ⟨e, there, port⟩)
      · exact .inl holds
      · exact .inr (.inl stacked)
      · exact .inr (.inr ⟨x, hx, is⟩)
    · rintro (holds | stacked | ⟨x, hx, is⟩)
      · exact .inr (.inl holds)
      · exact .inr (.inr (.inl stacked))
      · by_cases same : p = q
        · exact .inl same
        · exact .inr (.inr (.inr ⟨x, ⟨hx, by simpa [is] using Ne.symm same⟩, is⟩))

/-- What the removal of non-members makes of a bridge before its holder is judged (R60, R61). -/
def Bridge.membersOnly (members : PortSet) (limit : Nat) (r : Bridge) : Bridge := { r with
  holder := r.holder.map (limitHolder limit)
  stack := (r.stack.map fun e => if members.getLsbD e.port then e else { e with tag := Tag.empty }).map
    (limitEntry limit)
  queue := r.queue.filter fun e => members.getLsbD e.port }

theorem waits_membersOnly (members : PortSet) (limit : Nat) (r : Bridge) :
    (r.membersOnly members limit).waits q ↔ r.waits q ∧ members.getLsbD q = true := by
  constructor
  · rintro (⟨e, he, port, tag⟩ | ⟨e, he, port⟩)
    · obtain ⟨x, hx, rfl⟩ := List.mem_map.mp he
      obtain ⟨y, hy, rfl⟩ := List.mem_map.mp hx
      rw [limitEntry_port] at port
      rw [limitEntry_tag] at tag
      by_cases member : members.getLsbD y.port = true
      · rw [if_pos member] at port tag
        exact ⟨.inl ⟨y, hy, port, tag⟩, port ▸ member⟩
      · rw [if_neg member] at tag; cases tag
    · obtain ⟨there, member⟩ := List.mem_filter.mp he
      exact ⟨.inr ⟨e, there, port⟩, port ▸ member⟩
  · rintro ⟨⟨e, he, rfl, tag⟩ | ⟨e, he, rfl⟩, member⟩
    · refine .inl ⟨limitEntry limit e, List.mem_map_of_mem (List.mem_map.mpr ⟨e, he, if_pos member⟩), ?_, ?_⟩
      · exact limitEntry_port limit e
      · rw [limitEntry_tag, tag]
    · exact .inr ⟨e, List.mem_filter.mpr ⟨he, member⟩, rfl⟩

/-- The two rewritings of a bridge in a switch, as one. -/
def State.membersKept (b : BridgeId) (s : State) : State :=
  (s.updateBridge b fun r : Bridge => { r with
      queue := r.queue.filter fun e => (s.record b).members.getLsbD e.port
      stack := r.stack.map fun e =>
        if (s.record b).members.getLsbD e.port then e else { e with tag := Tag.empty } }).updateBridge b
    fun r : Bridge => { r with
      holder := r.holder.map (limitHolder (s.record b).talkLimit)
      stack := r.stack.map (limitEntry (s.record b).talkLimit) }

theorem actsOn_membersKept (s : State) (b : BridgeId) : s.actsOn b (s.membersKept b) :=
  (actsOn_updateBridge s b _).trans (actsOn_updateBridge _ b _)

theorem membersKept_bridge (s : State) (b : BridgeId) : (s.membersKept b).bridge b
    = (s.bridge b).membersOnly (s.record b).members (s.record b).talkLimit := by
  rw [State.membersKept, State.bridge_updateBridge_same, State.bridge_updateBridge_same]
  rfl

/-- The two outcomes of the removal of non-members: the holder stays, or a radio holder that is no member releases. -/
theorem removeNonMembers_cases (s : State) (b : BridgeId) :
    (s.removeNonMembers b = s.membersKept b
      ∧ ∀ p, (s.bridge b).heldBy p → (s.record b).members.getLsbD p = true)
    ∨ ∃ p, (s.bridge b).heldBy p ∧ (s.record b).members.getLsbD p = false
      ∧ s.removeNonMembers b = (s.membersKept b).release b := by
  have holder : ((s.membersKept b).bridge b).holder = (s.bridge b).holder.map (limitHolder (s.record b).talkLimit) := by
    rw [membersKept_bridge]; rfl
  have unfolded : s.removeNonMembers b = match ((s.membersKept b).bridge b).holder with
      | some h => match h.who with
        | .port p => if (s.record b).members.getLsbD p then s.membersKept b else (s.membersKept b).release b
        | .con => s.membersKept b
      | none => s.membersKept b := rfl
  rw [unfolded, holder]
  cases held : (s.bridge b).holder with
  | none => exact .inl ⟨rfl, fun p ⟨h, is, _⟩ => by rw [held] at is; cases is⟩
  | some h =>
    have only (p : PortId) (is : (s.bridge b).heldBy p) : h.who = .port p := by
      obtain ⟨x, there, who⟩ := is
      rw [held] at there
      cases there
      exact who
    simp only [Option.map_some, limitHolder_who]
    cases who : h.who with
    | con => exact .inl ⟨rfl, fun p is => by rw [only p is] at who; cases who⟩
    | port p =>
      cases member : (s.record b).members.getLsbD p with
      | true =>
        refine .inl ⟨by dsimp only; rw [if_pos member], fun q is => ?_⟩
        rw [only q is] at who
        cases who
        exact member
      | false => exact .inr ⟨p, ⟨h, held, who⟩, member, by dsimp only; rw [if_neg (by rw [member]; exact nofun)]⟩

theorem actsOn_removeNonMembers (s : State) (b : BridgeId) : s.actsOn b (s.removeNonMembers b) := by
  rcases removeNonMembers_cases s b with ⟨kept, -⟩ | ⟨p, -, -, released⟩
  · rw [kept]; exact actsOn_membersKept s b
  · rw [released]; exact (actsOn_membersKept s b).trans (actsOn_release _ b)

/-- Non-members lose their places, and members keep theirs. -/
theorem hasPlace_removeNonMembers (s : State) (b : BridgeId) :
    ((s.removeNonMembers b).bridge b).hasPlace q = true
      ↔ (s.bridge b).hasPlace q = true ∧ (s.record b).members.getLsbD q = true := by
  rcases removeNonMembers_cases s b with ⟨kept, member⟩ | ⟨p, held, out, released⟩
  · have holds : ((s.bridge b).membersOnly (s.record b).members (s.record b).talkLimit).heldBy q
        ↔ (s.bridge b).heldBy q := by
      unfold Bridge.heldBy Bridge.membersOnly
      cases (s.bridge b).holder <;> simp [limitHolder_who]
    rw [kept, membersKept_bridge, hasPlace_iff, hasPlace_iff, holds, waits_membersOnly, or_and_right]
    exact or_congr ⟨fun is => ⟨is, member q is⟩, And.left⟩ .rfl
  · rw [released, hasPlace_release, membersKept_bridge, waits_membersOnly, hasPlace_iff]
    constructor
    · rintro ⟨waits, member⟩
      exact ⟨.inr waits, member⟩
    · rintro ⟨holds | waits, member⟩
      · obtain ⟨h, is, who⟩ := held
        obtain ⟨h', is', who'⟩ := holds
        rw [is] at is'
        cases is'
        rw [who] at who'
        cases who'
        rw [out] at member
        cases member
      · exact ⟨waits, member⟩

end

end Sys2Proof.Machine
end

section
/-! SUPPORT. Who has a place is engaged, unbarred and a member, and who is has its place or its bid on its way
  (R71): kept
by all that a step is made of. -/

namespace Sys2Proof.Machine

/-! ## What the rule of places reads -/

/-- A bridge told by who holds, who is stacked under which tag, and who is queued. -/
def Bridge.seat (r : Bridge) : Option Talker × List (PortId × Tag) × List PortId :=
  (r.holder.map (·.who), r.stack.map fun e => (e.port, e.tag), r.queue.map (·.port))

/-- The same seats in every bridge, the same engagement and bar in every port, the same records, and the same bids on
their way. -/
structure State.sameSeats (s t : State) : Prop where
  seat : ∀ b : BridgeId, (t.bridge b).seat = (s.bridge b).seat
  port : ∀ p : PortId, (t.port p).engaged = (s.port p).engaged ∧ (t.port p).bar = (s.port p).bar
  records : t.plans.records = s.plans.records
  active : t.plans.active = s.plans.active
  bids : t.bids = s.bids

/-- The rule of places (R51, R71), where the ports of `S` may yet lack their place. -/
structure State.seated (S : PortId → Prop) (s : State) : Prop where
  plans : s.planRule
  once : s.namedOnce
  held : s.placesHeld
  taken : ∀ (p : PortId) (b : BridgeId), ¬ S p → (s.port p).engaged = true → (s.port p).bar = false →
    s.memberOf p = some b → (s.bridge b).hasPlace p = true ∨ p ∈ s.bids

section
variable {s t : State} {S S' : PortId → Prop} {p : PortId} {b : BridgeId} {r r' : Bridge}

theorem hasPlace_of_seat (h : r'.seat = r.seat) (q : PortId) : r'.hasPlace q = r.hasPlace q := by
  obtain ⟨holder, stack, queue⟩ : _ ∧ _ ∧ _ := by simpa only [Bridge.seat, Prod.mk.injEq] using h
  have stacked (x : Bridge) : (∃ e ∈ x.stack, e.port = q ∧ e.tag = .valid)
      ↔ (q, Tag.valid) ∈ x.stack.map fun e => (e.port, e.tag) := by simp [List.mem_map]
  have queued (x : Bridge) : (∃ e ∈ x.queue, e.port = q) ↔ q ∈ x.queue.map (·.port) := by simp [List.mem_map]
  rw [Bool.eq_iff_iff]
  refine hasPlace_congr holder (or_congr ?_ ?_)
  · rw [stacked, stacked, stack]
  · rw [queued, queued, queue]

theorem named_of_seat (h : r'.seat = r.seat) : r'.named = r.named := by
  obtain ⟨holder, stack, queue⟩ : _ ∧ _ ∧ _ := by simpa only [Bridge.seat, Prod.mk.injEq] using h
  have holders (x : Bridge) : (x.holder.map (·.who.ports)).getD [] = ((x.holder.map
    (·.who)).map Talker.ports).getD [] := by
    rw [Option.map_map]; rfl
  have ports (x : Bridge) : x.stack.map (·.port) = (x.stack.map fun e => (e.port, e.tag)).map Prod.fst := by
    rw [List.map_map]; rfl
  rw [Bridge.named, Bridge.named, holders, holders r, ports, ports r, holder, stack, queue]

theorem memberOf_of_records (records : t.plans.records = s.plans.records) (active : t.plans.active = s.plans.active)
    (p : PortId) : t.memberOf p = s.memberOf p := by
  simp only [State.memberOf, State.activeRecords, records, active]

theorem record_of_records (records : t.plans.records = s.plans.records) (active : t.plans.active = s.plans.active)
    (b : BridgeId) : t.record b = s.record b := by
  simp only [State.record, records, active]

theorem seated_of_sameSeats (h : s.sameSeats t) (hs : s.seated S) : t.seated S where
  plans := planRule_of_records h.records hs.plans
  once b := by rw [named_of_seat (h.seat b)]; exact hs.once b
  held b p place := by
    rw [hasPlace_of_seat (h.seat b)] at place
    rw [(h.port p).1, (h.port p).2, record_of_records h.records h.active]
    exact hs.held b p place
  taken p b out engaged bar member := by
    rw [(h.port p).1] at engaged
    rw [(h.port p).2] at bar
    rw [memberOf_of_records h.records h.active] at member
    rw [hasPlace_of_seat (h.seat b), h.bids]
    exact hs.taken p b out engaged bar member

theorem State.seated.mono (hs : s.seated S) (more : ∀ p, S p → S' p) : s.seated S' :=
  { hs with taken := fun p b out => hs.taken p b fun is => out (more p is) }

/-! ## Changes of nothing that the rule reads -/

theorem seat_of_same {r' r : Bridge} (holder : r'.holder = r.holder) (stack : r'.stack = r.stack)
    (queue : r'.queue = r.queue) : r'.seat = r.seat := by
  rw [Bridge.seat, Bridge.seat, holder, stack, queue]

theorem sameSeats_of_places (places : t.places = s.places) (ports : ∀ p : PortId,
    (t.port p).engaged = (s.port p).engaged ∧ (t.port p).bar = (s.port p).bar) (plans : t.plans = s.plans)
    (bids : t.bids = s.bids) : s.sameSeats t where
  seat b := by
    obtain ⟨holder, stack, queue⟩ := places_bridge places b
    exact seat_of_same holder stack queue
  port := ports
  records := by rw [plans]
  active := by rw [plans]
  bids := bids

theorem sameSeats_of_ports (places : t.places = s.places) (ports : t.ports = s.ports) (plans : t.plans = s.plans)
    (bids : t.bids = s.bids) : s.sameSeats t :=
  sameSeats_of_places places (fun p => by rw [port_of_ports ports]; exact ⟨rfl, rfl⟩) plans bids

theorem sameSeats_of_view (h : t.view = s.view) : s.sameSeats t := by
  refine sameSeats_of_places (places_of_view h) (fun p => ?_) ?_ ?_
  · have ports : t.view.ports = s.view.ports := by rw [h]
    have views : (t.port p).view = (s.port p).view := by
      simpa [State.view, State.port] using congrArg (fun v : Vector Port 12 => v[p]) ports
    have engaged := congrArg Port.engaged views
    have bar := congrArg Port.bar views
    exact ⟨engaged, bar⟩
  · have plans := congrArg State.plans h
    exact plans
  · have bids := congrArg State.bids h
    exact bids

theorem sameSeats_updatePort {f : Port → Port} (engaged : (f (s.port p)).engaged = (s.port p).engaged)
    (bar : (f (s.port p)).bar = (s.port p).bar) : s.sameSeats (s.updatePort p f) := by
  refine sameSeats_of_places (places_updatePort s p f) (fun r => ?_) (State.updatePort_plans ..)
    (State.updatePort_bids ..)
  rw [port_updatePort]
  split
  · next h => rw [h]; exact ⟨engaged, bar⟩
  · exact ⟨rfl, rfl⟩

theorem sameSeats_setPort {q : Port} (engaged : q.engaged = (s.port p).engaged) (bar : q.bar = (s.port p).bar) :
    s.sameSeats (s.setPort p q) := by
  refine sameSeats_of_places (places_setPort s p q) (fun r => ?_) rfl rfl
  rw [port_setPort]
  split
  · next h => rw [h]; exact ⟨engaged, bar⟩
  · exact ⟨rfl, rfl⟩

theorem sameSeats_raise (s : State) (src : Source) (n : Nat) : s.sameSeats (s.raise src n) :=
  sameSeats_of_ports (places_raise s src n) (State.raise_ports ..) (State.raise_plans ..) (State.raise_bids ..)

theorem sameSeats_reportIf (s : State) (changed : Bool) (src : Source) : s.sameSeats (s.reportIf changed src) :=
  sameSeats_of_ports (places_reportIf ..) (State.reportIf_ports ..) (State.reportIf_plans ..) (State.reportIf_bids ..)

/-! ## An operation on one bridge -/

/-- Ports, records and bids are kept, and so are the seats of the other bridges. -/
structure State.seatsOn (b : BridgeId) (s t : State) : Prop where
  other : ∀ c : BridgeId, c ≠ b → t.bridge c = s.bridge c
  ports : t.ports = s.ports
  plans : t.plans = s.plans
  bids : t.bids = s.bids

theorem State.actsOn.seatsOn (h : s.actsOn b t) : s.seatsOn b t := ⟨h.other, h.ports, h.plans, h.bids⟩

/-- A bridge in which places are as told, of which each was there or is that of an engaged, unbarred member. -/
theorem seated_of_seatsOn (h : s.seatsOn b t) (once : (t.bridge b).named.Nodup)
    (held : ∀ p, (t.bridge b).hasPlace p = true → (s.bridge b).hasPlace p = true
      ∨ (s.port p).engaged = true ∧ (s.port p).bar = false ∧ (s.record b).members.getLsbD p = true)
    (taken : ∀ p, ¬ S p → (s.port p).engaged = true → (s.port p).bar = false → s.memberOf p = some b →
      ((s.bridge b).hasPlace p = true ∨ p ∈ s.bids) → (t.bridge b).hasPlace p = true ∨ p ∈ s.bids)
    (hs : s.seated S) : t.seated S where
  plans := planRule_of_plans h.plans hs.plans
  once c := by
    by_cases here : c = b
    · rw [here]; exact once
    · rw [h.other c here]; exact hs.once c
  held c p place := by
    have record : t.record c = s.record c := by simp only [State.record, h.plans]
    rw [port_of_ports h.ports, record]
    by_cases here : c = b
    · subst here
      exact (held p place).elim (hs.held c p) id
    · rw [h.other c here] at place
      exact hs.held c p place
  taken p c out engaged bar member := by
    rw [port_of_ports h.ports] at engaged bar
    rw [show t.memberOf p = s.memberOf p by simp only [State.memberOf, State.activeRecords, h.plans]] at member
    have before := hs.taken p c out engaged bar member
    rw [h.bids]
    by_cases here : c = b
    · subst here
      exact taken p out engaged bar member before
    · rw [h.other c here]
      exact before

theorem seated_takePriority (b : BridgeId) (p : PortId) (hs : s.seated S) : (s.takePriority b p).seated S :=
  seated_of_seatsOn (actsOn_takePriority s b p).seatsOn (keptInBridge_named.takePriority s b p (hs.once b))
    (fun _ place => .inl ((hasPlace_takePriority s b p).mp place))
    (fun _ _ _ _ _ before => before.imp_left (hasPlace_takePriority s b p).mpr) hs

theorem seatsOn_bid (s : State) (b : BridgeId) (who : Talker) : s.seatsOn b (s.bid b who) where
  other _ := bid_bridge_ne
  ports := (actsOn_bid s b who).ports
  plans := (actsOn_bid s b who).plans
  bids := (actsOn_bid s b who).bids

/-- The console comes to hold: all others keep their places. -/
theorem seated_conBid (b : BridgeId) (hs : s.seated S) : (s.bid b .con).seated S :=
  seated_of_seatsOn (seatsOn_bid s b .con) (keptInBridge_named.bid s b .con nofun (hs.once b))
    (fun _ place => .inl (((hasPlace_bid s b .con).mp place).resolve_left nofun))
    (fun _ _ _ _ _ before => before.imp_left fun place => (hasPlace_bid s b .con).mpr (.inr place)) hs

/-- The bid of a port is taken, which then does not lack its place. -/
theorem seated_takeBid (p : PortId) (hs : s.seated fun r => S r ∨ r = p) : (s.takeBid p).seated S := by
  rcases takeBid_cases s p with same | ⟨b, member, engaged, bar, place, bid⟩
  · rw [same]
    refine { hs with taken := fun r b out engaged bar member => ?_ }
    by_cases here : r = p
    · subst here
      refine .inl ?_
      by_contra none_here
      have place := Bool.eq_false_of_not_eq_true none_here
      have bids : s.takeBid r = s.bid b (.port r) := by
        unfold State.takeBid
        dsimp only
        rw [member]
        simp [engaged, bar, place]
      rw [same] at bids
      have there := (hasPlace_bid (q := r) s b (.port r)).mpr (.inl rfl)
      rw [← bids, place] at there
      cases there
    · exact hs.taken r b (fun is => is.elim out here) engaged bar member
  · have all : (s.bid b (.port p)).seated fun r => S r ∨ r = p := by
      refine seated_of_seatsOn (seatsOn_bid s b _) (keptInBridge_named.bid s b _ (fun r is => by cases is; exact place)
        (hs.once b)) (fun r there => ?_) (fun _ _ _ _ _ before =>
        before.imp_left fun there => (hasPlace_bid s b _).mpr (.inr there)) hs
      rcases (hasPlace_bid s b _).mp there with is | before
      · cases is
        exact .inr ⟨engaged, bar, (memberOf_iff hs.plans).mp member⟩
      · exact .inl before
    rw [bid]
    refine { all with taken := fun r c out engaged bar member' => ?_ }
    by_cases here : r = p
    · subst here
      have same : (s.bid b (.port r)).memberOf r = s.memberOf r := (actsOn_bid s b (.port r)).memberOf r
      rw [same, member] at member'
      cases member'
      exact .inl ((hasPlace_bid s b _).mpr (.inl rfl))
    · exact all.taken r c (fun is => is.elim out here) engaged bar member'

theorem seated_foldl_takeBid (ps : List PortId) (hs : s.seated fun r => S r ∨ r ∈ ps) :
    (ps.foldl (fun s p => s.takeBid p) s).seated S := by
  induction ps generalizing s with
  | nil => exact hs.mono fun p is => is.resolve_right nofun
  | cons p ps ih =>
    refine ih (seated_takeBid p (hs.mono fun r is => ?_))
    rcases is with is | is
    · exact .inl (.inl is)
    · exact (List.mem_cons.mp is).elim .inr fun later => .inl (.inr later)

/-- The bids on their way are taken: none is left over, and no place is lacking that was not. -/
theorem seated_takeHandedBids (hs : s.seated S) : s.takeHandedBids.seated S := by
  refine seated_foldl_takeBid s.bids (s := { s with bids := [] }) { hs with
    taken := fun p b out engaged bar member => .inl ?_ }
  exact (hs.taken p b (fun is => out (.inl is)) engaged bar member).resolve_right fun later => out (.inr later)

/-! ## Releases -/

/-- A bridge released by one that then has no claim to a place. -/
theorem seated_release (b : BridgeId) (lost : ∀ p, (s.bridge b).heldBy p → S p ∨ (s.port p).engaged = false
    ∨ (s.port p).bar = true) (hs : s.seated S) : (s.release b).seated S := by
  refine seated_of_seatsOn (actsOn_release s b).seatsOn (keptInBridge_named.release s b (hs.once b))
    (fun p place => .inl ((hasPlace_iff _ p).mpr (.inr ((hasPlace_release s b).mp place))))
    (fun p out engaged bar member before => before.imp_left fun place => ?_) hs
  rcases (hasPlace_iff _ p).mp place with held | waits
  · rcases lost p held with is | off | barred
    · exact absurd is out
    · rw [engaged] at off; cases off
    · rw [bar] at barred; cases barred
  · exact (hasPlace_release s b).mpr waits

/-- A port that is no longer engaged, or is barred, once it has left its place. -/
theorem seated_setPort_out {f : Port → Port} (out : (f (s.port p)).engaged = false ∨ (f (s.port p)).bar = true)
    (unplaced : ∀ b : BridgeId, (s.bridge b).hasPlace p = false) (hs : s.seated S) : (s.updatePort p f).seated S where
  plans := planRule_of_plans (State.updatePort_plans ..) hs.plans
  once b := by rw [bridge_of_bridges (State.updatePort_bridges s p f)]; exact hs.once b
  held b r place := by
    rw [bridge_of_bridges (State.updatePort_bridges s p f)] at place
    have other : r ≠ p := by
      rintro rfl
      rw [unplaced b] at place
      cases place
    rw [port_updatePort, if_neg other, show (s.updatePort p f).record b = s.record b by
      simp only [State.record, State.updatePort_plans]]
    exact hs.held b r place
  taken r b outside engaged bar member := by
    have other : r ≠ p := by
      rintro rfl
      rw [port_updatePort, if_pos rfl] at engaged bar
      rcases out with off | barred
      · rw [engaged] at off; cases off
      · rw [bar] at barred; cases barred
    rw [port_updatePort, if_neg other] at engaged bar
    rw [show (s.updatePort p f).memberOf r = s.memberOf r by
      simp only [State.memberOf, State.activeRecords, State.updatePort_plans]] at member
    rw [bridge_of_bridges (State.updatePort_bridges s p f), State.updatePort_bids]
    exact hs.taken r b outside engaged bar member

/-- A port that is not engaged has no place. -/
theorem unplaced_of_silent (hs : s.seated S) (off : (s.port p).engaged = false) (b : BridgeId) :
    (s.bridge b).hasPlace p = false := by
  by_contra place
  obtain ⟨engaged, -⟩ := hs.held b p (Bool.eq_true_of_not_eq_false place)
  rw [off] at engaged
  cases engaged

theorem seated_silent {f : Port → Port} (off : (s.port p).engaged = false) (still : (f (s.port p)).engaged = false)
    (hs : s.seated S) : (s.updatePort p f).seated S :=
  seated_setPort_out (.inl still) (unplaced_of_silent hs off) hs

/-- A port has a place in its own bridge alone. -/
theorem memberOf_of_hasPlace (hs : s.seated S) (place : (s.bridge b).hasPlace p = true) : s.memberOf p = some b :=
  (memberOf_iff hs.plans).mpr (hs.held b p place).2.2

theorem seated_beginEngagement (barred : Bool) (off : (s.port p).engaged = false) (hs : s.seated S) :
    (s.beginEngagement barred p).seated S := by
  have begun (f : Port → Port) (engaged : (f (s.port p)).engaged = true) (bids : List PortId)
      (on_way : (f (s.port p)).bar = true ∨ p ∈ bids) (more : s.bids ⊆ bids) :
      ({ s.updatePort p f with bids := bids } : State).seated S := by
    have bridge (b : BridgeId) : ({ s.updatePort p f with bids := bids } : State).bridge b = s.bridge b :=
      bridge_of_bridges (State.updatePort_bridges s p f) b
    have port (r : PortId) : ({ s.updatePort p f with bids := bids } : State).port r
        = if r = p then f (s.port p) else s.port r := port_updatePort s p r f
    have plans : ({ s.updatePort p f with bids := bids } : State).plans = s.plans := State.updatePort_plans s p f
    refine ⟨planRule_of_plans plans hs.plans, fun b => by rw [bridge]; exact hs.once b, fun b r place => ?_,
      fun r b out engaged' bar member => ?_⟩
    · rw [bridge] at place
      have other : r ≠ p := by
        rintro rfl
        rw [unplaced_of_silent hs off b] at place
        cases place
      rw [port, if_neg other, record_of_records (s := s) (by rw [plans]) (by rw [plans])]
      exact hs.held b r place
    · rw [port] at engaged' bar
      rw [memberOf_of_records (s := s) (by rw [plans]) (by rw [plans])] at member
      rw [bridge]
      split at bar
      · next here =>
        rw [here]
        refine .inr (on_way.resolve_left fun barred => ?_)
        rw [bar] at barred
        cases barred
      · next other =>
        rw [if_neg other] at engaged'
        exact (hs.taken r b out engaged' bar member).imp_right fun there => more there
  unfold State.beginEngagement
  dsimp only
  split
  · next stopped =>
    refine seated_of_sameSeats (s := { s.updatePort p _ with bids := s.bids }) (sameSeats_of_ports rfl rfl rfl
      (State.updatePort_bids ..)) (begun _ rfl s.bids (.inl ?_) (List.Subset.refl _))
    exact stopped
  · refine begun _ rfl _ (.inr (by rw [State.updatePort_bids]; simp)) ?_
    rw [State.updatePort_bids]
    exact List.subset_append_left _ _

/-- A port leaves its place and is no longer engaged. -/
theorem seated_endEngagement (p : PortId) (hs : s.seated S) : (s.endEngagement p).seated S := by
  unfold State.endEngagement
  dsimp only
  set silent := s.updatePort p fun q => { q with engaged := false } with silent_eq
  have bridge (b : BridgeId) : silent.bridge b = s.bridge b := bridge_of_bridges (State.updatePort_bridges ..) b
  have plans : silent.plans = s.plans := State.updatePort_plans ..
  have member : silent.memberOf p = s.memberOf p := memberOf_of_records (s := s) (by rw [plans]) (by rw [plans]) p
  have port (r : PortId) (h : r ≠ p) : silent.port r = s.port r := by rw [silent_eq, port_updatePort, if_neg h]
  have off : (silent.port p).engaged = false := by rw [silent_eq, port_updatePort, if_pos rfl]
  -- what is left of the rule once `p`'s place, if it has one, is gone
  have left (t : State) (ports : t.ports = silent.ports) (same : t.plans = silent.plans) (bids : t.bids = silent.bids)
      (once : t.namedOnce) (places : ∀ (b : BridgeId) (r : PortId), (t.bridge b).hasPlace r = true
        ↔ (s.bridge b).hasPlace r = true ∧ r ≠ p) :
      (t.updatePort p fun q => { q with bar := false, unit := none }).seated S := by
    have plans' : t.plans = s.plans := same.trans plans
    refine seated_silent (by rw [port_of_ports ports]; exact off) (by
      show (t.port p).engaged = false
      rw [port_of_ports ports]; exact off) ⟨planRule_of_plans plans' hs.plans, once, fun b r place => ?_,
        fun r b out engaged bar there => ?_⟩
    · obtain ⟨before, other⟩ := (places b r).mp place
      rw [port_of_ports ports, port r other, record_of_records (s := s) (by rw [plans']) (by rw [plans'])]
      exact hs.held b r before
    · rw [port_of_ports ports] at engaged bar
      have other : r ≠ p := by
        rintro rfl
        rw [off] at engaged
        cases engaged
      rw [port r other] at engaged bar
      rw [memberOf_of_records (s := s) (by rw [plans']) (by rw [plans'])] at there
      rw [bids, State.updatePort_bids]
      exact (hs.taken r b out engaged bar there).imp_left fun place => (places b r).mpr ⟨place, other⟩
  rw [member]
  cases here : s.memberOf p with
  | none =>
    refine left silent rfl rfl rfl (fun b => by rw [bridge]; exact hs.once b) fun b r => ?_
    rw [bridge]
    refine ⟨fun place => ⟨place, ?_⟩, And.left⟩
    rintro rfl
    rw [memberOf_of_hasPlace hs place] at here
    cases here
  | some b =>
    refine left (silent.leavePlace b p) (leavePlace_ports ..) ?_ (leavePlace_bids ..)
      (keptInBridge_named.leaves b p fun c => by rw [bridge]; exact hs.once c) fun c r => ?_
    · have plans := congrArg State.plans (leavePlace_backdrop silent b p)
      exact plans
    · by_cases same : c = b
      · subst same
        rw [hasPlace_leavePlace (by rw [bridge]; exact hs.once c), bridge]
      · have other : (silent.leavePlace b p).bridge c = s.bridge c := by
          rw [← bridge c]
          unfold State.leavePlace
          split
          · exact (actsOn_release silent b).other c same
          · exact (actsOn_updateBridge silent b _).other c same
        rw [other]
        refine ⟨fun place => ⟨place, ?_⟩, And.left⟩
        rintro rfl
        rw [memberOf_of_hasPlace hs place] at here
        cases here
        exact same rfl

theorem seated_keying (S : PortId → Prop) : KeptByKeying (State.seated S) where
  setKey _ _ _ _ _ hs := seated_of_sameSeats (sameSeats_updatePort rfl rfl) hs
  beginEngagement _ barred _ off hs := seated_beginEngagement barred off hs
  endEngagement _ p _ hs := seated_endEngagement p hs
  keyLimit s _ hs := seated_of_sameSeats (sameSeats_raise s _ _) hs
  takeHandedBids _ hs := seated_takeHandedBids hs

end

end Sys2Proof.Machine
end

section
/-! SUPPORT. The rule of places over every event and request (R60, R63, R71, R88, R94). -/

namespace Sys2Proof.Machine

section
variable {s t : State} {S : PortId → Prop}

theorem seat_of_counted {r : Bridge} : r.timerCounted.seat = r.seat := by
  unfold Bridge.timerCounted Bridge.seat
  cases r.holder <;> rfl

theorem seat_of_completed (late : Bool) (r : Bridge) : (r.completed late).seat = r.seat := by
  have counted (x : Bridge) (same : x.seat = r.seat) : (if late || x.timerLast then x else x.timerCounted).seat
    = r.seat := by
    split
    · exact same
    · exact seat_of_counted.trans same
  unfold Bridge.completed
  dsimp only
  split
  · exact counted _ rfl
  · exact counted _ rfl

theorem keyCounted_engaged (q : Port) : q.keyCounted.engaged = q.engaged ∧ q.keyCounted.bar = q.bar := by
  rw [keyCounted_keeps]
  exact ⟨rfl, rfl⟩

theorem requalified_engaged (q : Port) : q.requalified.engaged = q.engaged ∧ q.requalified.bar = q.bar := by
  unfold Port.requalified
  dsimp only
  split_ifs <;> exact ⟨rfl, rfl⟩

theorem sameSeats_counted (s : State) (cs pres : PortSet) (late : Late) : s.sameSeats (s.counted cs pres late) where
  seat b := by rw [counted_bridge]; exact seat_of_completed _ _
  port p := by
    rw [counted_port]
    split
    · exact ⟨rfl, rfl⟩
    · obtain ⟨engaged, bar⟩ := keyCounted_engaged ((s.port p).completed s.mixer.rate (cs.getLsbD p) (pres.getLsbD p))
      exact ⟨engaged, bar⟩
  records := rfl
  active := rfl
  bids := rfl

theorem sameSeats_formSample (s : State) (f : Frame) (slots : Vector Half 13) :
    s.sameSeats (s.formSample f slots) := by
  refine sameSeats_of_places (places_formSample s f slots) (fun p => ?_) (formSample_plans ..) ?_
  · rw [formSample_port]
    exact ⟨rfl, rfl⟩
  · unfold State.formSample
    rw [raiseClips_bids]
    rfl

theorem sameSeats_burstStarted (s : State) (b : BridgeId) : s.sameSeats (s.burstStarted b) := by
  refine sameSeats_of_ports (places_burstStarted s b) ?_ ?_ ?_ <;>
    (unfold State.burstStarted; dsimp only; split <;> simp)

theorem sameSeats_dirReport (s : State) (p : PortId) (u : UnitId) : s.sameSeats (s.dirReport p u) := by
  refine sameSeats_of_ports (places_dirReport s p u) ?_ ?_ (dirReport_bids s p u) <;>
    (unfold State.dirReport; split <;> [rfl; (split <;> simp)])

theorem seated_priorities (S : PortId → Prop) : KeptByPriorities (State.seated S) where
  same h hs := seated_of_sameSeats (sameSeats_of_view h) hs
  handOn _ hs _ := (seated_keying S).handOn hs
  takePriority _ b p hs _ := seated_takePriority b p hs
  setup _ _ _ _ _ _ hs _ := seated_of_sameSeats (sameSeats_setPort rfl rfl) hs
  emergency _ _ _ hs _ := seated_of_sameSeats (sameSeats_updatePort rfl rfl) hs
  takeIdentity _ _ _ hs _ := seated_of_sameSeats (sameSeats_updatePort (by split <;> rfl) (by split <;> rfl)) hs
  burstStarted s b hs _ := seated_of_sameSeats (sameSeats_burstStarted s b) hs
  dirReport s p u _ hs _ := seated_of_sameSeats (sameSeats_dirReport s p u) hs
  flagUnit s _ _ hs _ := seated_of_sameSeats (s := s) (sameSeats_of_ports rfl rfl rfl rfl) hs
  written s _ _ _ _ _ _ _ _ _ hs _ := seated_of_sameSeats (s := s) (sameSeats_of_ports rfl rfl rfl rfl) hs
  freed s _ _ _ hs _ := seated_of_sameSeats (s := s) (sameSeats_of_ports rfl rfl rfl rfl) hs

/-! ## The cut of a holder (R88) -/

theorem seated_cutPlace {b : BridgeId} {h : Holder} (held : (s.bridge b).holder = some h) (hs : s.seated S) :
    (s.cutPlace b h.who).seated S := by
  have holds (q : PortId) (is : (s.bridge b).heldBy q) : h.who = .port q := by
    obtain ⟨x, there, who⟩ := is
    rw [held] at there
    cases there
    exact who
  have place (q : PortId) (is : (s.bridge b).heldBy q) : (s.bridge b).hasPlace q = true := (hasPlace_iff _ q).mpr
    (.inl is)
  unfold State.cutPlace State.barHolder
  cases who : h.who with
  | con => exact seated_release b (fun q is => by rw [holds q is] at who; cases who) hs
  | port p =>
    have here : (s.bridge b).heldBy p := ⟨h, held, who⟩
    obtain ⟨engaged, -, -⟩ := hs.held b p (place p here)
    dsimp only
    rw [if_pos engaged]
    -- the bar and the release together: between them the barred holder still stands in its place
    have barred : (s.updatePort p fun q => { q with bar := true }).actsOn b
        ((s.updatePort p fun q => { q with bar := true }).release b) := actsOn_release _ b
    have bridge (c : BridgeId) : (s.updatePort p fun q => { q with bar := true }).bridge c = s.bridge c :=
      bridge_of_bridges (State.updatePort_bridges ..) c
    have only (c : BridgeId) (q : PortId) (there : (((s.updatePort p fun q => { q with bar := true }).release b).bridge
        c).hasPlace q = true) : (s.bridge c).hasPlace q = true ∧ q ≠ p := by
      by_cases same : c = b
      · subst same
        rw [hasPlace_release, bridge] at there
        refine ⟨(hasPlace_iff _ q).mpr (.inr there), ?_⟩
        rintro rfl
        exact not_waits_of_heldBy (hs.once c) here there
      · rw [barred.other c same, bridge] at there
        refine ⟨there, ?_⟩
        rintro rfl
        have one := (memberOf_of_hasPlace hs there).symm.trans (memberOf_of_hasPlace hs (place q here))
        exact same (Option.some.inj one)
    have plans : ((s.updatePort p fun q => { q with bar := true }).release b).plans = s.plans :=
      barred.plans.trans (State.updatePort_plans ..)
    have port (q : PortId) : ((s.updatePort p fun q => { q with bar := true }).release b).port q
        = if q = p then { s.port p with bar := true } else s.port q :=
      (barred.port q).trans (port_updatePort s p q _)
    refine ⟨planRule_of_plans plans hs.plans, ?_, fun c q there => ?_, fun q c out engaged' bar member => ?_⟩
    · exact keptInBridge_named.releases b fun c => by rw [bridge]; exact hs.once c
    · obtain ⟨before, other⟩ := only c q there
      rw [port, if_neg other, record_of_records (s := s) (by rw [plans]) (by rw [plans])]
      exact hs.held c q before
    · rw [port] at engaged' bar
      have other : q ≠ p := by
        rintro rfl
        rw [if_pos rfl] at bar
        cases bar
      rw [if_neg other] at engaged' bar
      rw [memberOf_of_records (s := s) (by rw [plans]) (by rw [plans])] at member
      rw [barred.bids, State.updatePort_bids]
      refine (hs.taken q c out engaged' bar member).imp_left fun before => ?_
      by_cases same : c = b
      · subst same
        rw [hasPlace_release, bridge]
        refine ((hasPlace_iff _ q).mp before).resolve_left fun holder => other ?_
        rw [holds q holder] at who
        exact Talker.port.inj who
      · rw [barred.other c same, bridge]
        exact before

/-! ## A switch of plans (R59 to R63) -/

/-- The bridges of a list without their non-members: places are those of members, and nothing else has changed. -/
theorem foldl_removeNonMembers (bs : List BridgeId) (s : State) (c : BridgeId) :
    (∀ q, ((bs.foldl State.removeNonMembers s).bridge c).hasPlace q = true
      ↔ (s.bridge c).hasPlace q = true ∧ (c ∈ bs → (s.record c).members.getLsbD q = true))
    ∧ (bs.foldl State.removeNonMembers s).ports = s.ports ∧ (bs.foldl State.removeNonMembers s).plans = s.plans
    ∧ (bs.foldl State.removeNonMembers s).bids = s.bids := by
  induction bs generalizing s with
  | nil => exact ⟨fun q => by simp, rfl, rfl, rfl⟩
  | cons b bs ih =>
    have acts := actsOn_removeNonMembers s b
    obtain ⟨places, ports, plans, bids⟩ := ih (s.removeNonMembers b)
    refine ⟨fun q => ?_, ports.trans acts.ports, plans.trans acts.plans, bids.trans acts.bids⟩
    rw [List.foldl_cons, places q, acts.record]
    by_cases here : c = b
    · subst here
      rw [hasPlace_removeNonMembers]
      simp only [List.mem_cons, true_or, forall_const]
      tauto
    · rw [acts.other c here, List.mem_cons, or_iff_right here]

theorem sameSeats_refl (s : State) : s.sameSeats s := ⟨fun _ => rfl, fun _ => ⟨rfl, rfl⟩, rfl, rfl, rfl⟩

theorem State.sameSeats.trans {u : State} (h : s.sameSeats t) (h' : t.sameSeats u) : s.sameSeats u where
  seat b := (h'.seat b).trans (h.seat b)
  port p := ⟨(h'.port p).1.trans (h.port p).1, (h'.port p).2.trans (h.port p).2⟩
  records := h'.records.trans h.records
  active := h'.active.trans h.active
  bids := h'.bids.trans h.bids

theorem sameSeats_adjustBurst (s : State) (b : BridgeId) : s.sameSeats (s.adjustBurst b) := by
  refine sameSeats_of_ports (places_adjustBurst s b) (KeptInPort.adjustBurst_ports s b) ?_ ?_
  · unfold State.adjustBurst
    dsimp only
    split
    · rfl
    · exact State.reportChange_plans ..
  · unfold State.adjustBurst
    dsimp only
    split
    · rfl
    · exact State.reportChange_bids ..

theorem mem_allPorts : ∀ p : PortId, p ∈ allPorts := by decide

theorem activeRecords_of_plans (h : t.plans = s.plans) : t.activeRecords = s.activeRecords := by
  simp only [State.activeRecords, h]

theorem seated_foldl_newlyMember {old : Vector Record 8} (ps : List PortId) {new : Vector Record 8}
    (now : s.activeRecords = new) (hs : s.seated fun r => S r ∨ newlyMember old new r = true ∧ r ∈ ps) :
    (ps.foldl (fun s p => if newlyMember old s.activeRecords p then s.takeBid p else s) s).seated S := by
  induction ps generalizing s with
  | nil => exact hs.mono fun r is => is.resolve_right fun later => by cases later.2
  | cons p ps ih =>
    rw [List.foldl_cons, now]
    split
    · next newly =>
      refine ih ?_ (seated_takeBid p (hs.mono fun r is => ?_))
      · rw [← now]
        simp only [State.activeRecords, takeBid_plans]
      · rcases is with is | ⟨newly, is⟩
        · exact .inl (.inl is)
        · rcases List.mem_cons.mp is with rfl | later
          · exact .inr rfl
          · exact .inl (.inr ⟨newly, later⟩)
    · next stays =>
      refine ih now (hs.mono fun r is => ?_)
      rcases is with is | ⟨newly, is⟩
      · exact .inl is
      · rcases List.mem_cons.mp is with rfl | later
        · exact absurd newly stays
        · exact .inr ⟨newly, later⟩

/-- Once the plans are exchanged and non-members removed, all but new members have their places. -/
theorem seated_exchanged {v : State} (hs : s.seated S) (bridges : v.bridges = s.bridges) (ports : v.ports = s.ports)
    (records : v.plans.records = s.plans.records) (bids : v.bids = s.bids) :
    (allBridges.foldl State.removeNonMembers v).seated
      fun r => S r ∨ newlyMember s.activeRecords v.activeRecords r = true := by
  have folded := foldl_removeNonMembers allBridges v
  obtain ⟨-, ports', plans', bids'⟩ := folded 0
  have rule : v.planRule := planRule_of_records records hs.plans
  have places (c : BridgeId) (q : PortId) := (folded c).1 q
  refine ⟨planRule_of_plans plans' rule, ?_, fun b q there => ?_, fun q b out engaged bar member => ?_⟩
  · exact KeptByOperations.foldl (P := State.namedOnce) (f := State.removeNonMembers)
      (fun t b ht => keptInBridge_named.removesNonMembers b ht) _ fun b => by
        rw [bridge_of_bridges bridges]; exact hs.once b
  · obtain ⟨before, member⟩ := (places b q).mp there
    rw [bridge_of_bridges bridges] at before
    obtain ⟨engaged, bar, -⟩ := hs.held b q before
    rw [port_of_ports (ports'.trans ports), show State.record _ b = v.record b by simp only [State.record, plans']]
    exact ⟨engaged, bar, member (mem_allBridges b)⟩
  · rw [port_of_ports (ports'.trans ports)] at engaged bar
    rw [show State.memberOf _ q = v.memberOf q by simp only [State.memberOf, State.activeRecords, plans']] at member
    rw [bids', bids]
    have inNew := (memberOf_iff rule).mp member
    have inOld : s.memberOf q = some b := by
      refine (memberOf_iff hs.plans).mpr ?_
      by_contra newly
      have named : memberIn v.activeRecords q = some b := member
      refine out (.inr ?_)
      rw [newlyMember, named]
      simpa [State.record, State.activeRecords] using newly
    refine (hs.taken q b (fun is => out (.inl is)) engaged bar inOld).imp_left fun before => ?_
    rw [places, bridge_of_bridges bridges]
    exact ⟨before, fun _ => inNew⟩

theorem State.sameSeats.activeRecords (h : s.sameSeats t) : t.activeRecords = s.activeRecords := by
  simp only [State.activeRecords, h.records, h.active]

theorem sameSeats_foldl_adjustBurst (bs : List BridgeId) (s : State) : s.sameSeats (bs.foldl State.adjustBurst s) := by
  induction bs generalizing s with
  | nil => exact sameSeats_refl s
  | cons b bs ih => exact (sameSeats_adjustBurst s b).trans (ih _)

theorem seated_foldl_removeDestination (old : Vector Record 8) (ps : List PortId) (hs : s.seated S) :
    (ps.foldl (fun s p => (s.removeDestination old p).takeHandedBids) s).activeRecords = s.activeRecords
    ∧ (ps.foldl (fun s p => (s.removeDestination old p).takeHandedBids) s).seated S := by
  induction ps generalizing s with
  | nil => exact ⟨rfl, hs⟩
  | cons p ps ih =>
    obtain ⟨records, seated⟩ := ih (seated_takeHandedBids ((seated_keying S).removeDestination old p hs))
    refine ⟨records.trans (activeRecords_of_plans ?_), seated⟩
    have plans := congrArg State.plans ((takeHandedBids_backdrop _).trans (removeDestination_backdrop s old p))
    exact plans

theorem seated_switchPlans (hs : s.seated S) : s.switchPlans.seated S := by
  have whole (v : State) (bridges : v.bridges = s.bridges) (ports : v.ports = s.ports)
      (records : v.plans.records = s.plans.records) (bids : v.bids = s.bids) :
      (State.handOn (allPorts.foldl (fun t p => if newlyMember s.activeRecords t.activeRecords p then t.takeBid p else
        t)
        (allPorts.foldl (fun t p => (t.removeDestination s.activeRecords p).takeHandedBids)
          (allBridges.foldl State.adjustBurst (allBridges.foldl State.removeNonMembers v))))).seated S := by
    have removed := seated_exchanged hs bridges ports records bids
    obtain ⟨-, -, plans, -⟩ := foldl_removeNonMembers allBridges v 0
    generalize allBridges.foldl State.removeNonMembers v = u at removed plans ⊢
    have same := sameSeats_foldl_adjustBurst allBridges u
    have now : (allBridges.foldl State.adjustBurst u).activeRecords = v.activeRecords :=
      same.activeRecords.trans (activeRecords_of_plans plans)
    obtain ⟨records', destinations⟩ := seated_foldl_removeDestination s.activeRecords allPorts
      (seated_of_sameSeats same removed)
    exact (seated_keying S).handOn (seated_foldl_newlyMember allPorts (records'.trans now)
      (destinations.mono fun r is => is.imp_right fun newly => ⟨newly, mem_allPorts r⟩))
  exact whole { s with plans := { s.plans with active := s.plans.active + 1, switchPending := false } } rfl rfl rfl rfl

/-! ## CLEAR_BRIDGES (R94) -/

theorem foldl_emptyBridge_seat (t : State) (bs : List BridgeId) (c : BridgeId)
    (h : c ∈ bs ∨ (t.bridge c).seat = (none, [], [])) : ((bs.foldl State.emptyBridge t).bridge c).seat =
      (none, [], []) := by
  induction bs generalizing t with
  | nil => exact h.resolve_left nofun
  | cons b bs ih =>
    refine ih _ ?_
    rw [emptyBridge_bridge]
    by_cases here : c = b
    · exact .inr (by rw [if_pos here]; rfl)
    · rw [if_neg here]
      exact h.imp_left fun mem => (List.mem_cons.mp mem).resolve_left here

theorem barEngaged_port (s : State) (p r : PortId) : (s.barEngaged p).port r
    = if r = p ∧ (s.port p).engaged = true then { s.port p with bar := true } else s.port r := by
  unfold State.barEngaged
  split
  · next engaged => simp only [port_updatePort, engaged, and_true]
  · next silent => simp [silent]

theorem foldl_barEngaged_port (ps : List PortId) (s : State) (r : PortId) :
    (ps.foldl State.barEngaged s).port r
      = if r ∈ ps ∧ (s.port r).engaged = true then { s.port r with bar := true } else s.port r := by
  induction ps generalizing s with
  | nil => simp
  | cons p ps ih =>
    rw [List.foldl_cons, ih, barEngaged_port]
    by_cases here : r = p
    · subst here
      by_cases engaged : (s.port r).engaged = true <;> simp [engaged]
    · simp [here]

theorem barEngaged_rest (s : State) (p : PortId) : (s.barEngaged p).bridges = s.bridges
    ∧ (s.barEngaged p).plans = s.plans := by
  unfold State.barEngaged
  split
  · exact ⟨State.updatePort_bridges .., State.updatePort_plans ..⟩
  · exact ⟨rfl, rfl⟩

theorem seated_clearAllBridges (S' : PortId → Prop) (rule : s.planRule) : s.clearAllBridges.seated S' := by
  unfold State.clearAllBridges
  dsimp only
  refine KeptByOperations.foldl (f := State.clearKey) (fun t p ht => (seated_keying S').clearKey p ht) _ ?_
  set emptied := allBridges.foldl State.emptyBridge
    (({ s with console := { s.console with talk := 0 } } : State).reportIf (s.console.talk != 0) srcConsole)
    with emptied_eq
  have bridges : (allPorts.foldl State.barEngaged emptied).bridges = emptied.bridges :=
    foldl_part State.bridges (fun t p => (barEngaged_rest t p).1) _ _
  have plans : (allPorts.foldl State.barEngaged emptied).plans = s.plans := by
    rw [foldl_part State.plans (f := State.barEngaged) fun t p => (barEngaged_rest t p).2, emptied_eq,
      foldl_part State.plans (f := State.emptyBridge), State.reportIf_plans]
    intro t b
    unfold State.emptyBridge
    dsimp only
    rw [State.reportIf_plans, State.updateBridge_plans]
  have seat (b : BridgeId) : ((allPorts.foldl State.barEngaged emptied).bridge b).seat = (none, [], []) := by
    rw [bridge_of_bridges bridges]
    exact foldl_emptyBridge_seat _ _ b (.inl (mem_allBridges b))
  have none_named (b : BridgeId) := named_of_seat (r := { Bridge.reset with }) ((seat b).trans rfl)
  refine ⟨planRule_of_plans plans rule, fun b => ?_, fun b p place => ?_, fun p b _ engaged bar _ => ?_⟩
  · rw [none_named b]
    exact List.nodup_nil
  · rw [hasPlace_of_seat (r := Bridge.reset) ((seat b).trans rfl)] at place
    cases place
  · rw [foldl_barEngaged_port] at engaged bar
    by_cases was : (emptied.port p).engaged = true
    · rw [if_pos ⟨mem_allPorts p, was⟩] at bar
      cases bar
    · rw [if_neg fun h => was h.2] at engaged
      exact absurd engaged was

/-! ## All pieces -/

theorem seated_departed (p : PortId) (life : Lifecycle) (hs : s.seated S) : (s.departed p life).seated S := by
  have left : (s.updatePort p fun q => { q with lifecycle := life }).seated S :=
    seated_of_sameSeats (sameSeats_updatePort rfl rfl) hs
  have ended : (if ((s.updatePort p fun q => { q with lifecycle := life }).port p).engaged
      then (s.updatePort p fun q => { q with lifecycle := life }).endEngagement p
      else s.updatePort p fun q => { q with lifecycle := life }).seated S := by
    split
    · exact seated_endEngagement p left
    · exact left
  have off : ((if ((s.updatePort p fun q => { q with lifecycle := life }).port p).engaged
      then (s.updatePort p fun q => { q with lifecycle := life }).endEngagement p
      else s.updatePort p fun q => { q with lifecycle := life }).port p).engaged = false := by
    split
    · have core := (portMoves_endEngagement (s.updatePort p fun q => { q with lifecycle := life }) p).core
      have engaged := congrArg Port.engaged core
      exact engaged
    · next silent => exact Bool.eq_false_of_not_eq_true silent
  exact seated_silent off off ended

theorem seated_pieces (S : PortId → Prop) : KeptByPieces (State.seated S) State.engagementRule where
  same h hs := seated_of_sameSeats (sameSeats_of_view h) hs
  raise s src n _ hs _ := seated_of_sameSeats (sameSeats_raise s src n) hs
  handOn _ hs _ := (seated_keying S).handOn hs
  turnLevel s b hs _ := seated_of_sameSeats (sameSeats_of_ports (places_turnLevel s b)
    (by unfold State.turnLevel; dsimp only; split <;> rfl) (by unfold State.turnLevel; dsimp only; split <;> rfl)
    (by unfold State.turnLevel; dsimp only; split <;> rfl)) hs
  changeSegment s b hs _ := seated_of_sameSeats (sameSeats_of_ports (places_changeSegment s b)
    (by unfold State.changeSegment; dsimp only; split <;> rfl)
    (by unfold State.changeSegment; dsimp only; split <;> rfl)
    (by unfold State.changeSegment; dsimp only; split <;> rfl)) hs
  burstEnded s b hs _ := seated_of_sameSeats (sameSeats_of_ports (places_burstEnded s b)
    (State.reportChange_ports ..) (State.reportChange_plans ..) (State.reportChange_bids ..)) hs
  setReceiver _ _ _ _ hs _ := seated_of_sameSeats (sameSeats_setPort rfl rfl) hs
  cutPlace _ _ _ held _ hs _ := seated_of_sameSeats (sameSeats_raise ..) (seated_cutPlace held hs)
  timerCounted s b hs _ := by
    refine seated_of_sameSeats (s := s) ⟨fun c => ?_, fun _ => ⟨rfl, rfl⟩, rfl, rfl, rfl⟩ hs
    rw [bridge_setBridge]
    split
    · next h => rw [h]; exact seat_of_counted
    · rfl
  keyReached s p hs _ := (seated_keying S).keyReached p (seated_of_sameSeats
    (sameSeats_setPort (keyCounted_engaged _).1 (keyCounted_engaged _).2) hs)
  activated _ _ out hs rule := seated_silent (engaged_of_inactive out (rule _)) rfl hs
  departed _ p life _ _ hs _ := seated_departed p life hs
  requalified s p hs _ := (seated_keying S).judgeEngagement false p (seated_of_sameSeats
    (sameSeats_setPort (requalified_engaged _).1 (requalified_engaged _).2) hs)
  acceptIdent _ p u valid hs _ := (seated_priorities S).acceptIdent p u valid hs
  acceptEmerg _ p u valid hs _ := (seated_priorities S).acceptEmerg p u valid hs
  acceptEmergClear _ p u valid hs _ := (seated_priorities S).acceptEmergClear p u valid hs
  switchPlans _ hs _ := seated_switchPlans hs
  latched s _ _ hs _ := seated_of_sameSeats (s := s) (sameSeats_of_ports rfl rfl rfl rfl) hs
  formSample s f slots _ _ _ hs _ := seated_of_sameSeats (sameSeats_formSample s f slots) hs
  counted s _ cs pres late _ _ hs _ := seated_of_sameSeats (sameSeats_counted s cs pres late) hs

theorem seated_moveConsole (carried : BridgeSet) (hs : s.seated S) : (s.moveConsole carried).seated S := by
  have leave (t : State) (b : BridgeId) (ht : t.seated S) : (t.consoleLeave b).seated S := by
    unfold State.consoleLeave
    split
    · next holds =>
      refine seated_release b (fun p ⟨h, held, who⟩ => ?_) ht
      rw [held, Option.any_some, who] at holds
      cases holds
    · exact ht
  unfold State.moveConsole State.writeTalk
  dsimp only
  refine seated_of_sameSeats (sameSeats_reportIf _ _ _) (seated_of_sameSeats
    (s := (s.leaveBridges _).joinBridges _) ⟨fun _ => rfl, fun _ => ⟨rfl, rfl⟩, rfl, rfl, rfl⟩
    (KeptByOperations.foldl (P := State.seated S) (fun t b ht => ?_) _
      (KeptByOperations.foldl (P := State.seated S) (fun t b ht => ?_) _ hs)))
  · split
    · exact (seated_keying S).handOn (seated_conBid b ht)
    · exact ht
  · split
    · exact (seated_keying S).handOn (leave t b ht)
    · exact ht

/-- The edit plan is written, the active one is not. -/
theorem seated_of_active (rule : t.planRule) (bridges : t.bridges = s.bridges) (ports : t.ports = s.ports)
    (records : ∀ b : BridgeId, t.record b = s.record b) (bids : t.bids = s.bids) (hs : s.seated S) : t.seated S where
  plans := rule
  once b := by rw [bridge_of_bridges bridges]; exact hs.once b
  held b p place := by
    rw [bridge_of_bridges bridges] at place
    rw [port_of_ports ports, records]
    exact hs.held b p place
  taken p b out engaged bar member := by
    rw [port_of_ports ports] at engaged bar
    rw [memberOf_iff rule, records, ← memberOf_iff hs.plans] at member
    rw [bridge_of_bridges bridges, bids]
    exact hs.taken p b out engaged bar member

theorem seated_requests (S : PortId → Prop) : KeptByRequests (State.seated S) State.engagementRule where
  startLost _ _ _ hs _ := seated_of_sameSeats (sameSeats_updatePort rfl rfl) hs
  writeSetup _ p f new read h hs _ := (seated_priorities S).writeSetup p read h hs
  pendSwitch s hs _ := seated_of_sameSeats (s := s) ⟨fun _ => rfl, fun _ => ⟨rfl, rfl⟩, rfl, rfl, rfl⟩ hs
  writeRecord s b _ new _ nested free hs _ := seated_of_active (s := s)
    ((RecordsWritten.edited b new nested free).planRule hs.plans) rfl rfl (fun c => writeRecord_record s b c new) rfl hs
  copyPlan s hs _ := seated_of_active (s := s) (t := { s with plans := { s.plans with
    records := s.plans.records.set s.editPlan s.activeRecords } }) (RecordsWritten.copied.planRule hs.plans) rfl rfl
    (fun c => copyPlan_record s c) rfl hs
  clearAllBridges _ hs _ := seated_clearAllBridges S hs.plans
  haltMixer s hs _ := seated_of_sameSeats (s := s) ⟨fun _ => rfl, fun p => by simp [State.haltMixer, State.port],
    rfl, rfl, rfl⟩ hs
  runMixer s _ hs _ := seated_of_sameSeats (s := s) (sameSeats_of_ports rfl rfl rfl rfl) hs
  setupMixer f s hs _ := seated_of_sameSeats (sameSeats_of_ports
    (places_of_parts (setupMixer_bridges f s) (setupMixer_console f s))
    (by unfold setupMixer; split <;> [split <;> rfl; rfl]) (by unfold setupMixer; split <;> [split <;> rfl; rfl])
    (by unfold setupMixer; split <;> [split <;> rfl; rfl])) hs
  monitor mask gains s hs _ := seated_of_sameSeats (sameSeats_of_ports
    (by unfold State.places; rw [monitor_bridges, monitor_talk]) (by unfold monitor; split <;> rfl)
    (by unfold monitor; split <;> rfl) (by unfold monitor; split <;> rfl)) hs
  moveConsole _ carried hs _ := seated_moveConsole carried hs
  entered s u agency role o w d valid range room hs _ := (seated_priorities S).handOverride s u
    ((seated_priorities S).written s u agency role o w d valid range room hs)
  removed s u w found hs _ := (seated_priorities S).handOverride s u ((seated_priorities S).freed s u w found hs)
  purged s hs _ := seated_of_sameSeats (s := s) (sameSeats_of_ports rfl rfl rfl rfl) hs
  declared _ p _ hs _ := (seated_priorities S).handPriority p _ ((seated_priorities S).enterEmergency p none hs)
  leaveEmergency _ p hs _ := (seated_priorities S).leaveEmergency p hs
  leaveUnit s u hs _ := (seated_priorities S).leaveAllSourced u ((seated_priorities S).flagUnit s u false hs)
  clearFlags s _ _ hs _ := seated_of_sameSeats (s := s) (sameSeats_of_ports rfl rfl rfl rfl) hs
  writeMask s _ _ _ _ _ hs _ := by
    rw [writeMask_eq]
    exact seated_of_sameSeats (s := s) (sameSeats_of_ports rfl rfl rfl rfl) hs

end

theorem engagementRule_apart : KeptApart State.engagementRule where
  link _ _ hs := hs
  reset p := by simp [State.reset, State.port, Port.reset, Port.mayEngage]

theorem seated_reset (S : PortId → Prop) : State.reset.seated S where
  plans := planRule_reset
  once b := by rw [bridge_reset]; exact List.nodup_nil
  held b p place := by rw [bridge_reset] at place; cases place
  taken p b _ engaged _ _ := by simp [State.reset, State.port, Port.reset] at engaged

/-- What every step keeps of places, with the engagement rule. -/
theorem seated_step {S : PortId → Prop} {s t : State} (h : step s = .next t) (rule : s.engagementRule) (hs :
    s.seated S) :
    t.engagementRule ∧ t.seated S :=
  (KeptByPieces.and keptInPort_engaged.pieces (seated_pieces S)).step
    (KeptByRequests.and keptInPort_engaged.requests (seated_requests S))
    (engagementRule_apart.and ⟨fun s _ hs => seated_of_sameSeats
      (s := s) ⟨fun _ => rfl, fun _ => ⟨rfl, rfl⟩, rfl, rfl, rfl⟩ hs,
      seated_reset S⟩) h ⟨rule, hs⟩

/-- Settles O57: names and bids each for themselves, and the rule of places as one, with the ports that may yet lack
their place left open. -/
theorem everyStepKeepsThePlaces : Obligations.EveryStepKeepsThePlaces := by
  refine ⟨hasPlace_iff, fun s t h => ⟨namedOnce_kept h, ?_, fun once held plans rule => ⟨?_, fun taken => ?_⟩⟩⟩
  · exact fun none_left => noBids_pieces.step noBids_requests noBids_apart h none_left
  · exact (seated_step (S := fun _ => True) h rule ⟨plans, once, held, fun _ _ out => absurd trivial out⟩).2.held
  · intro p b
    exact (seated_step (S := fun _ => False) h rule ⟨plans, once, held, fun p b _ => taken p b⟩).2.taken p b id

end Sys2Proof.Machine
end

section
/-! SUPPORT. What changes an override priority, and what does not (R34, R37 to R43). -/

namespace Sys2Proof.Machine

section
variable {s t : State} {u v : UnitId}

/-- The override that the directory answers, place by place. -/
theorem overrideFor_iff (rule : s.directoryRule) {o : Nat} : s.overrideFor (some u) = some o
    ↔ ∃ w e, s.dir.at (hashSet u) w = some e ∧ e.unit = u ∧ e.override = some o := by
  rw [overrideFor_eq_some_iff]
  constructor
  · rintro ⟨x, e, is, entry, override⟩
    cases is
    obtain ⟨w, at_w, unit⟩ := (entry_eq_some_iff rule).mp entry
    exact ⟨w, e, at_w, unit, override⟩
  · rintro ⟨w, e, at_w, unit, override⟩
    exact ⟨u, e, rfl, (entry_eq_some_iff rule).mpr ⟨w, at_w, unit⟩, override⟩

/-- Two directories that list the same overrides for a unit. -/
theorem overrideFor_of_same (rule : s.directoryRule) (rule' : t.directoryRule)
    (same : ∀ o : Nat, (∃ w e, t.dir.at (hashSet u) w = some e ∧ e.unit = u ∧ e.override = some o)
      ↔ ∃ w e, s.dir.at (hashSet u) w = some e ∧ e.unit = u ∧ e.override = some o) :
    t.overrideFor (some u) = s.overrideFor (some u) := by
  ext o
  rw [overrideFor_iff rule', overrideFor_iff rule, same]

/-- A place of another unit's set written, where neither its old nor its new entry gives `v` an override. -/
theorem overrideFor_put {w : Fin 4} {e : Option Entry} (rule : s.directoryRule) (rule' : t.directoryRule)
    (dir : t.dir = s.dir.put (hashSet u) w e)
    (new : ∀ x, e = some x → x.unit = v → x.override = none)
    (old : ∀ x, s.dir.at (hashSet u) w = some x → x.unit = v → x.override = none) :
    t.overrideFor (some v) = s.overrideFor (some v) := by
  refine overrideFor_of_same rule rule' fun o => ?_
  rw [dir]
  constructor
  · rintro ⟨way, x, at_way, unit, override⟩
    rw [Directory.put_at] at at_way
    split at at_way
    · rw [new x at_way unit] at override; cases override
    · exact ⟨way, x, at_way, unit, override⟩
  · rintro ⟨way, x, at_way, unit, override⟩
    refine ⟨way, x, ?_, unit, override⟩
    rw [Directory.put_at, if_neg]
    · exact at_way
    · rintro ⟨hash, rfl⟩
      rw [hash] at at_way
      rw [old x at_way unit] at override
      cases override

/-- The room that is made in a set costs no unit its override: an entry that gives way is LEARNED. -/
theorem override_of_room {w : Fin 4} {x : Entry} (rule : s.directoryRule) (room : s.dir.room (hashSet u) = some w)
    (there : s.dir.at (hashSet u) w = some x) : x.override = none := by
  rcases Directory.room_spec room with ⟨free, -⟩ | ⟨-, e, at_w, learned, -, -⟩
  · rw [free] at there; cases there
  · rw [at_w] at there
    cases there
    obtain ⟨-, -, overrides, -⟩ := rule _ w _ at_w
    exact overrides learned

/-- A change of an entry that leaves its unit and its override. -/
theorem overrideFor_modify {change : Entry → Entry} (rule : s.directoryRule) (rule' : t.directoryRule)
    (dir : t.dir = s.dir.modify u change) (unit : ∀ e, (change e).unit = e.unit)
    (override : ∀ e, (change e).override = e.override) (x : Option UnitId) : t.overrideFor x = s.overrideFor x := by
  cases x with
  | none => rfl
  | some v =>
    refine overrideFor_of_same rule rule' fun o => ?_
    cases found : s.dir.find u with
    | none => rw [dir, Directory.modify_of_find_none found]
    | some w =>
      rw [dir, Directory.modify_of_find found]
      simp only [Directory.put_at]
      constructor
      · rintro ⟨way, e, at_way, is, has⟩
        split at at_way
        · next here =>
          obtain ⟨x, at_x, rfl⟩ := Option.map_eq_some_iff.mp at_way
          rw [unit] at is
          rw [override] at has
          exact ⟨way, x, by rw [here.1, here.2]; exact at_x, is, has⟩
        · exact ⟨way, e, at_way, is, has⟩
      · rintro ⟨way, e, at_way, is, has⟩
        by_cases here : hashSet v = hashSet u ∧ way = w
        · refine ⟨way, change e, ?_, (unit e).trans is, (override e).trans has⟩
          rw [if_pos here, ← here.1, ← here.2, at_way]
          rfl
        · exact ⟨way, e, by rw [if_neg here]; exact at_way, is, has⟩

/-- A report changes no override (R37, R39). -/
theorem overrideFor_dirReport (rule : s.directoryRule) (p : PortId) (valid : validUnit u = true) (x : Option UnitId) :
    (s.dirReport p u).overrideFor x = s.overrideFor x := by
  have rule' := directoryRule_dirReport (p := p) valid rule
  unfold State.dirReport at rule' ⊢
  cases found : s.dir.find u with
  | some w =>
    rw [found] at rule'
    exact overrideFor_modify rule rule' rfl (fun _ => rfl) (fun _ => rfl) x
  | none =>
    rw [found] at rule'
    dsimp only at rule' ⊢
    cases room : s.dir.room (hashSet u) with
    | none => simp only [State.overrideFor, State.raise_dir]
    | some w =>
      rw [room] at rule'
      cases x with
      | none => rfl
      | some v =>
        refine overrideFor_put rule rule' rfl (fun x is _ => ?_) fun x there _ => override_of_room rule room there
        cases is
        rfl

theorem overrideFor_flagUnit (rule : s.directoryRule) (u : UnitId) (on : Bool) (x : Option UnitId) :
    (s.flagUnit u on).overrideFor x = s.overrideFor x :=
  overrideFor_modify (u := u) (change := fun e => { e with emergency := on }) rule
    (directoryRule_modify (u := u) (change := fun e => { e with emergency := on }) rule rfl (fun _ => rfl)
      (fun _ old => old)) rfl (fun _ => rfl)
    (fun _ => rfl) x

/-- UNIT_ENTER changes the override of its own unit alone (R43). -/
theorem overrideFor_written {agency : BitVec 4} {role : BitVec 3} {o : Option Nat} {w : Fin 4} {d : Directory}
    (rule : s.directoryRule) (valid : validUnit u = true) (room : s.enterUnit u agency role o = some (w, d))
    (other : v ≠ u) : ({ s with dir := d } : State).overrideFor (some v) = s.overrideFor (some v) := by
  have rule' := directoryRule_written valid room rule
  unfold State.enterUnit at room
  split at room
  · next w found =>
    obtain ⟨e, at_w, unit⟩ := Directory.at_of_find found
    cases room
    refine overrideFor_put (u := u) rule rule' (Directory.modify_of_find found _) (fun x is unit' => ?_)
      fun x there unit' => ?_
    · rw [at_w] at is
      cases is
      exact absurd (unit'.symm.trans unit) other
    · rw [at_w] at there
      cases there
      exact absurd (unit'.symm.trans unit) other
  · obtain ⟨way, made, is⟩ := Option.map_eq_some_iff.mp room
    cases is
    refine overrideFor_put (u := u) rule rule' rfl (fun x is unit' => ?_) fun x there _ => override_of_room rule made
      there
    cases is
    exact absurd unit'.symm other

/-- UNIT_REMOVE changes the override of its own unit alone (R44). -/
theorem overrideFor_freed {w : Fin 4} (rule : s.directoryRule) (found : s.dir.find u = some w) (other : v ≠ u) :
    ({ s with dir := s.dir.put (hashSet u) w none } : State).overrideFor (some v) = s.overrideFor (some v) := by
  obtain ⟨e, at_w, unit⟩ := Directory.at_of_find found
  refine overrideFor_put (u := u) rule (directoryRule_freed found rule) rfl nofun fun x there unit' => ?_
  rw [at_w] at there
  cases there
  exact absurd (unit'.symm.trans unit) other

theorem effPriority_of_override_same {p : PortId} (emergency : (t.port p).emergency = (s.port p).emergency)
    (priority : (t.port p).setup.priority = (s.port p).setup.priority)
    (override : t.overrideFor (t.port p).unit = s.overrideFor (s.port p).unit) : t.effPriority p = s.effPriority p := by
  simp only [State.effPriority, emergency, priority, override]

end

end Sys2Proof.Machine
end

section
/-! SUPPORT. The queue of commands, and what stands after RESET: the values of reset read off its definition, the
invariants that hold of them, and RESET and its release on any state (O1 to O4). -/

namespace Sys2Proof.Machine

/-- Settles O1: the two branches of `step`. -/
theorem stepTakesTheFrontCommand : Obligations.StepTakesTheFrontCommand := fun s c rest =>
  ⟨fun h => by rw [step, h], fun h => by rw [step, h]⟩

/-! ## The values of reset -/

theorem port_reset (p : PortId) : State.reset.port p = .reset := by
  simp [State.port, State.reset]

theorem record_reset (n : Fin 2) (b : BridgeId) : State.reset.plans.records[n][b] = .default := by
  simp [State.reset]

theorem at_reset (set : Fin 16) (way : Fin 4) : State.reset.dir.at set way = none := by
  simp [Directory.at, State.reset]

theorem flags_reset (src : Source) : State.reset.notices.flags[src] = 0 := by
  simp [State.reset, Notices.reset]

theorem masks_reset (src : Source) : State.reset.notices.masks[src] = allFlags src := by
  simp [State.reset, Notices.reset]

theorem switches_reset (src : Source) : State.reset.notices.switches[src] = false := by
  simp [State.reset, Notices.reset]

theorem marks_reset (src : Source) : State.reset.notices.marks[src] = decide (src = 0) := by
  revert src; decide

/-- No flag is set, so ATTN is released. -/
theorem attn_reset : State.reset.attn = false := by
  rw [Bool.eq_false_iff, Ne, attn_eq_true_iff]
  rintro ⟨src, i, set, -⟩
  rw [flags_reset] at set
  simp at set

/-- The key lines stand at the level that is not asserted: high, for an OFF port of low polarity. -/
theorem keyLine_reset (p : PortId) : State.reset.keyLine p = true := by
  simp only [State.keyLine, port_reset]
  rfl

/-- Settles O2: every value is read off the definition of the state after reset. -/
theorem resetHoldsTheSpecsValues : Obligations.ResetHoldsTheSpecsValues := by
  refine ⟨fun p => ?_, fun b => ?_, rfl, rfl, rfl, record_reset, at_reset, rfl, rfl, rfl, rfl, rfl, rfl, rfl, rfl,
    rfl, fun slot => ?_, rfl, rfl, rfl, fun b => ?_, fun n => ?_,
    fun src => ⟨flags_reset src, masks_reset src, switches_reset src, marks_reset src⟩, rfl, attn_reset, ?_, rfl, rfl,
    rfl, rfl, rfl, keyLine_reset⟩
  · rw [port_reset]
    exact ⟨rfl, rfl, rfl, rfl, rfl, rfl, rfl, rfl, rfl, rfl, rfl, rfl, rfl, rfl, rfl, rfl, rfl, rfl, rfl⟩
  · rw [bridge_reset]
    exact ⟨rfl, rfl, rfl, rfl, rfl, rfl, fun a => rfl⟩
  · simp [State.reset, Mixer.reset, silence]
  · simp [State.reset]
  · simp [State.reset]
  · rw [State.attnLine, attn_reset]; rfl

/-! ## The invariants at reset -/

/-- No port is engaged and every holder is absent: what speaks of places, holders or queues holds of nothing. -/
theorem seated_at_reset : State.reset.namedOnce ∧ State.reset.placesHeld ∧ State.reset.placesTaken := by
  refine ⟨fun b => ?_, fun b p place => ?_, fun p b engaged => ?_⟩
  · simp [bridge_reset, Bridge.reset, Bridge.named]
  · simp [bridge_reset, Bridge.reset, Bridge.hasPlace] at place
  · simp [port_reset, Port.reset] at engaged

/-- Every setting of reset lies in its range. -/
theorem settingsInRange_reset : State.reset.settingsInRange := by
  refine ⟨fun p => ?_, fun n b => ?_, fun set way e he => ?_, ?_⟩
  · rw [port_reset]; simp [Port.reset, Setup.default, Setup.inRange]
  · rw [record_reset]; simp [Record.default, Record.inRange]
  · rw [at_reset] at he; cases he
  · simp [State.reset, Mixer.reset]

/-- No source holds a flag, and the masks are exactly the flags that exist. -/
theorem flagsExist_reset : State.reset.flagsExist :=
  ⟨fun src => ⟨by rw [flags_reset]; simp, by rw [masks_reset, BitVec.and_not_self]⟩, switches_reset _⟩

/-- No key machine of an OFF port has anything to act on. -/
theorem quiet_reset : State.reset.quiet := by
  refine ⟨rfl, fun p active => ?_⟩
  simp [port_reset, Port.reset] at active

theorem linkReady_reset : State.reset.linkReady := ⟨⟨rfl, rfl⟩, rfl, List.not_mem_nil, rfl⟩

/-- No place is held, and a HUNTING receiver without a pending switch asks for none. -/
theorem replyRule_reset : State.reset.replyRule := ⟨by decide, rfl, rfl⟩

theorem mixerRule_reset : State.reset.mixerRule :=
  ⟨fun halted => by simp [State.reset, Mixer.reset] at halted, fun f frame => by cases frame⟩

/-- Every port is OFF and every count at 0. -/
theorem ports_at_reset : State.reset.engagementRule ∧ State.reset.neverKeyedOver ∧ State.reset.inactiveHeld
    ∧ State.reset.keyLimitRule ∧ State.reset.countsAtRest := by
  refine ⟨fun p => ?_, fun p _ => ?_, fun p _ => ?_, fun p => ?_, fun p => ?_⟩ <;> rw [port_reset]
  · rfl
  · rfl
  · exact ⟨rfl, rfl, rfl, rfl, rfl, rfl, rfl, rfl⟩
  · exact (by decide : 0 < 60 * Config.framesPerSecond)
  · exact ⟨fun _ => ⟨rfl, rfl⟩, fun _ => rfl, fun _ => rfl⟩

/-- Every bridge is free, without a burst, and its ring is empty. -/
theorem bridges_at_reset : State.reset.ringsSound ∧ State.reset.positionsEqual ∧ State.reset.stacksBounded
    ∧ State.reset.freeBridgesEmpty ∧ State.reset.burstRule := by
  refine ⟨fun b => ?_, fun b => ?_, fun b => ?_, fun b _ => ?_, fun b => ?_⟩ <;> rw [bridge_reset]
  · rfl
  · rw [bridge_reset]
  · exact Nat.zero_le _
  · exact ⟨rfl, rfl⟩
  · exact ⟨fun _ => rfl, Nat.zero_le _⟩

/-- No bridge has a holder or a queue, and the talk set of the console is empty. -/
theorem holders_at_reset : State.reset.holderPriorities ∧ State.reset.queuesOrdered ∧ State.reset.consoleRule := by
  refine ⟨fun b h hh => ?_, fun b => ?_, fun b => ⟨?_, fun h hh => ?_⟩⟩ <;> rw [bridge_reset] at *
  · cases hh
  · exact List.Pairwise.nil
  · exact (BitVec.getLsbD_zero (w := 8)).symm
  · cases hh

/-- Settles O3: each invariant by the reset values it speaks of. -/
theorem resetMeetsTheInvariants : Obligations.ResetMeetsTheInvariants := by
  obtain ⟨once, held, taken⟩ := seated_at_reset
  obtain ⟨engagement, keyedOver, inactive, limit, counts⟩ := ports_at_reset
  obtain ⟨rings, positions, bounded, free, bursts⟩ := bridges_at_reset
  obtain ⟨priorities, order, console⟩ := holders_at_reset
  exact ⟨rings, positions, engagement, keyedOver, inactive, limit, counts, bounded, free, once, held, planRule_reset,
    directoryRule_reset, priorities, order, console, settingsInRange_reset, bursts, flagsExist_reset, replyRule_reset,
    mixerRule_reset, taken, linkReady_reset, quiet_reset⟩

/-! ## RESET and its release -/

/-- While RESET is asserted a command other than RESET and its release is an operation or an event, and does nothing. -/
theorem exec_of_inReset {s : State} {c : Instr} (h : s.inReset = true) (reset : c ≠ .reset)
    (release : ∀ rate1 rate0 : Bool, c ≠ .resetRelease rate1 rate0) : exec c s = .next s := by
  cases takenAs c with
  | event d comesAbout taken => rw [taken]; exact event_of_inReset h d comesAbout
  | request kind pl act _ taken _ => rw [taken]; exact operate_of_inReset h _
  | linkByte b named => subst named; exact operate_of_inReset h fun s => s.takeLinkByte b
  | link f _ taken => rw [taken]; exact operate_of_inReset h f
  | operated f _ taken => rw [taken]; exact operate_of_inReset h f
  | reset named => exact absurd named reset
  | resetRelease rate1 rate0 named => exact absurd named (release rate1 rate0)

/-- Settles O4: RESET by what it writes, its release by the straps, and every other command by `exec_of_inReset`. -/
theorem resetItsReleaseAndNothingElse : Obligations.ResetItsReleaseAndNothingElse := by
  refine ⟨fun s => ⟨rfl, fun h => ⟨?_, ?_, ?_, ?_⟩, fun h rate1 rate0 => ?_⟩, fun s c h => exec_of_inReset h⟩
  all_goals simp [exec, execResetRelease, State.releaseReset, strapRate, h]

end Sys2Proof.Machine
end

section
/-! SUPPORT. A changed port or bridge with its change reported, written out; and what is handed on where a single key
machine has something to act on. -/

namespace Sys2Proof.Machine

section
variable {s t : State} {p : PortId} {q q' : Port}

/-! ## A change and its report -/

/-- A report that comes about or not changes the marks alone (R174). -/
theorem reportIf_eq (s : State) (changed : Bool) (src : Source) :
    s.reportIf changed src = { s with notices := { s.notices with marks := s.marksIf changed src } } := by
  unfold State.reportIf State.reportChange State.marksIf
  cases changed <;> cases s.notices.switches[src] <;> rfl

/-- A port changed in all but its emergency is a port changed with its change reported (R20). -/
theorem updatePort_eq {f : Port → Port} (kept : (f (s.port p)).emergency = (s.port p).emergency) :
    s.updatePort p f = s.portReported p (f (s.port p)) := by
  unfold State.updatePort
  dsimp only
  rw [if_pos kept.symm, reportIf_eq]
  rfl

theorem port_portReported (s : State) (p r : PortId) (q : Port) :
    (s.portReported p q).port r = if r = p then q else s.port r := port_setPort s p r q

@[simp] theorem port_portReported_same (s : State) (p : PortId) (q : Port) : (s.portReported p q).port p = q := by
  rw [port_portReported, if_pos rfl]

theorem setPort_setPort (s : State) (p : PortId) (q q' : Port) : (s.setPort p q).setPort p q' = s.setPort p q' := by
  simp [State.setPort]

theorem setPort_self (s : State) (p : PortId) : s.setPort p (s.port p) = s := by
  simp [State.setPort, State.port]

theorem Port.sameReported_trans {a b c : Port} (first : a.sameReported b = true) :
    a.sameReported c = b.sameReported c := by
  rw [Port.sameReported_iff] at first
  simp [Port.sameReported, first]

theorem Port.sameReported_self (q : Port) : q.sameReported q = true := Port.sameReported_iff.mpr
    ⟨rfl, rfl, rfl, rfl, rfl⟩

/-- A change that is not reportable, with one that is reported on it, is that one. -/
theorem portReported_setPort (same : (s.port p).sameReported q = true) :
    (s.setPort p q).portReported p q' = s.portReported p q' := by
  unfold State.portReported State.marksIf
  rw [State.port_setPort_same, ← Port.sameReported_trans same]
  simp [State.setPort]

/-- Of two reported changes one on the other the last stands, where it is reportable against what stood before. -/
theorem portReported_portReported (changed : (s.port p).sameReported q' = false) :
    (s.portReported p q).portReported p q' = s.portReported p q' := by
  have chain : (s.port p).sameReported q = false ∨ q.sameReported q' = false := by
    rcases Bool.eq_false_or_eq_true ((s.port p).sameReported q) with same | other
    · exact .inr ((Port.sameReported_trans same).symm.trans changed)
    · exact .inl other
  have marks : (s.portReported p q).marksIf (!q.sameReported q') (srcPort p) = s.marksIf true (srcPort p) := by
    unfold State.portReported State.marksIf
    cases on : s.notices.switches[srcPort p]
    · simp
    · rcases chain with other | other <;> rw [other]
      · cases q.sameReported q' <;> simp
      · cases (s.port p).sameReported q <;> simp
  conv_lhs => rw [State.portReported]
  rw [port_portReported_same, marks]
  simp [State.portReported, changed]

/-- A key machine enters a state (R102 to R108), with its change reported. -/
theorem setKey_eq (s : State) (p : PortId) (k : KeyState) (timing keyUp : Nat) : s.setKey p k timing keyUp
    = s.portReported p { s.port p with key := k, timing := timing, keyUp := keyUp } := updatePort_eq rfl

theorem sameReported_of_key {q r : Port} (h : q.key ≠ r.key) : q.sameReported r = false := by
  rw [Bool.eq_false_iff, Ne, Port.sameReported_iff]
  exact fun same => h same.2.2.2.2

theorem portReported_backdrop (s : State) (p : PortId) (q : Port) :
    (s.portReported p q).backdrop = (s.setPort p q).backdrop := rfl

/-- The marks of the notice unit after a report, source by source. -/
theorem marksIf_getElem (s : State) (changed : Bool) (src other : Source) : (s.marksIf changed src)[other]
    = (s.notices.marks[other] || (s.notices.switches[other] && (decide (other = src) && changed))) := by
  unfold State.marksIf
  by_cases h : other = src
  · subst h
    cases changed <;> cases s.notices.switches[other] <;> simp
  · have h' : ¬ (src : Nat) = other := fun e => h (Fin.ext e.symm)
    split <;> simp [h, h']

/-- A bridge changed, and its change reported whatever it is. -/
theorem setBridge_reportChange_eq (s : State) (b : BridgeId) (r : Bridge) :
    (s.setBridge b r).reportChange (srcBridge b) = s.bridgeReported true b r := by
  have := reportIf_eq (s.setBridge b r) true (srcBridge b)
  rw [State.reportIf, if_pos rfl] at this
  rw [this]
  rfl

/-! ## What is handed on where one key machine moves (R102 to R107) -/

/-- A key machine at rest goes by its own port and by its demand and override key. -/
theorem keyAtRest_congr (port : t.port p = s.port p) (demand : t.demand p = s.demand p)
    (override : t.overrideKey p = s.overrideKey p) (h : s.keyAtRest p) : t.keyAtRest p := by
  unfold State.keyAtRest at *
  rw [port, demand, override]
  exact h

theorem actKey_of_atRest (bids : s.bids = []) (h : s.keyAtRest p) : s.actKey p = s := by
  rw [State.actKey, judgeKey_of_atRest h, takeHandedBids_of_nil bids]

theorem foldl_actKey_of_atRest (ps : List PortId) (bids : s.bids = []) (h : ∀ r ∈ ps, s.keyAtRest r) :
    ps.foldl State.actKey s = s := by
  induction ps with
  | nil => rfl
  | cons r ps ih =>
    rw [List.foldl_cons, actKey_of_atRest bids (h r List.mem_cons_self)]
    exact ih fun x hx => h x (List.mem_cons_of_mem _ hx)

/-- Where one key machine alone has something to act on and its move leaves every machine at rest, that move is all that
is handed on. -/
theorem handOn_of_mover (bids : s.bids = []) (others : ∀ r : PortId, r ≠ p → s.keyAtRest r)
    (moved : s.judgeKey p = t) (quiet : t.quiet) : s.handOn = t := by
  have round : s.actAll = t := by
    obtain ⟨before, behind, split⟩ := List.append_of_mem (mem_allPorts p)
    have single : p ∉ before := by
      have nodup : allPorts.Nodup := by decide
      rw [split, List.nodup_append] at nodup
      exact fun mem => nodup.2.2 p mem p List.mem_cons_self rfl
    rw [State.actAll, split, List.foldl_append, List.foldl_cons,
      foldl_actKey_of_atRest before bids fun r hr => others r fun e => single (e ▸ hr)]
    rw [show s.actKey p = t by rw [State.actKey, moved, takeHandedBids_of_nil quiet.1]]
    exact foldl_actKey_of_atRest behind quiet.1 fun r _ => quiet.2 r
  rw [State.handOn, takeHandedBids_of_nil bids]
  by_cases atRest : s.keyAtRest p
  · have still : t = s := by rw [← moved, judgeKey_of_atRest atRest]
    rw [still, resolve_of_quiet (still ▸ quiet)]
  · have acts : allPorts.all s.keyResting = false := by
      rw [Bool.eq_false_iff, Ne, List.all_eq_true]
      exact fun all => atRest ((keyResting_iff s p).mp (all p (mem_allPorts p)))
    rw [show Config.cascadeFuel = 63 + 1 from rfl, State.resolve, acts, if_neg Bool.false_ne_true, round,
      resolve_of_quiet quiet]

end

end Sys2Proof.Machine
end

section
/-! SUPPORT. The short commands and events: MANUAL_KEY (R11), the frame start
  (R126), the alert tone and the end of a burst
(R141 to R143), and the ends of an assembly, a pending identity and a data line wait (R22, R25, R30). -/

namespace Sys2Proof.Machine

/-! ## MANUAL_KEY (R11) -/

theorem manual_of_refused {n level : Byte} (h : portOf n = none ∨ switchOf level = none) (s : State) :
    manual n level s = s.refuse resRefusedRange := by
  unfold manual
  rcases h with h | h <;> rw [h]
  cases portOf n <;> rfl

theorem exec_manualKey (n level : Byte) (s : State) :
    exec (.manualKey n level) s = request 0x06 [n, level] (manual n level) s := rfl

/-- A MANUAL_KEY that changes nothing is answered with a bare result. -/
theorem exec_manualKey_refused {s : State} {n level code : Byte} (h : s.linkReady)
    (hact : manual n level s.accepting = (s.accepting, some (.bare code))) :
    exec (.manualKey n level) s = .next (s.answered 0x06 [code]) :=
  request_unchanged (a := .bare code) h 0x06 (by simp [Config.maxPayload]) hact

theorem switchOf_switchByte (on : Bool) : switchOf (switchByte on) = some on := switchOf_eq_some_iff.mpr rfl

theorem switchOf_eq_none {b : Byte} (h : 1 < b.toNat) : switchOf b = none := by
  rw [← Option.not_isSome_iff_eq_none, switchOf_isSome_iff]; omega

/-- Settles O10: each refusal by the step that fails, and the level by the polarity of the key line. -/
theorem manualKeyDrivesAnOffPort : Obligations.ManualKeyDrivesAnOffPort := by
  intro s h
  refine ⟨fun n level hn => ?_, fun p level hl => ?_, fun p on started => ?_, fun p on off => ?_⟩
  · exact exec_manualKey_refused h (manual_of_refused (.inl (portOf_eq_none hn)) _)
  · exact exec_manualKey_refused h (manual_of_refused (.inr (switchOf_eq_none hl)) _)
  · refine exec_manualKey_refused h ?_
    have started' : (s.accepting.port p).lifecycle ≠ .off := started
    simp [manual, switchOf_switchByte, started', State.refuse, resRefusedState]
  · refine ⟨_, ?_, rfl, ?_⟩
    · rw [exec_manualKey]
      refine request_of_withLink (a := .ok []) h 0x06 (by simp [Config.maxPayload]) (fun l => ?_) rfl
      have off' : ((s.withLink l).port p).lifecycle = .off := off
      simp only [manual, portOf_natByte, switchOf_switchByte, if_pos off', State.answerOk]
      rfl
    · have level : ∀ t : State, t.port p = { s.port p with manualKey := on } →
          t.keyLine p = throughPolarity (s.port p).setup.keyPolarity on := fun t ht => by
        simp only [State.keyLine, ht, off]
      exact ⟨fun high => (level _ (State.port_setPort_same s p _)).trans (by rw [high]; rfl),
        fun low => (level _ (State.port_setPort_same s p _)).trans (by rw [low]; rfl)⟩

/-! ## The frame start (R126) -/

theorem exec_frameStart {s : State} (h : s.calm) : exec .frameStart s = .next s.startFrame := operate_of_calm h _

/-- Settles O31: the settings latched are those of the state. -/
theorem frameStartLatchesTheSettings : Obligations.FrameStartLatchesTheSettings := by
  intro s h
  rw [exec_frameStart h]
  refine ⟨fun none_begins => ?_, fun runs idle noSwitch => ⟨s.latch, ?_, rfl, rfl, rfl, rfl, rfl, fun p => ?_,
    fun b => ?_, rfl⟩⟩
  · rw [State.startFrame, if_neg]
    rintro ⟨runs, idle⟩
    rcases none_begins with halted | busy
    · rw [runs] at halted; cases halted
    · exact busy idle
  · simp [State.startFrame, runs, idle, noSwitch]
  · simp [State.latch, State.port]
  · simp [State.latch, State.record, State.activeRecords]

/-! ## The alert tone and the end of a burst (R141 to R143) -/

theorem turnLevel_of_running {s : State} {b : BridgeId} (h : (s.bridge b).burst ≠ 0) : s.turnLevel b
    = s.setBridge b { s.bridge b with
        phase := { (s.bridge b).phase with positive := !(s.bridge b).phase.positive, samples := 0 } } := if_neg h

theorem changeSegment_of_reached {s : State} {b : BridgeId} (h : (s.bridge b).segmentReached = true) :
    s.changeSegment b
      = s.setBridge b { s.bridge b with phase := ⟨(s.bridge b).phase.segment.other, 0, true, 0⟩ } := if_pos h

theorem segmentReached_iff {r : Bridge} : r.segmentReached = true ↔ r.burst ≠ 0 ∧ 25 ≤ r.phase.frames := by
  rw [Bridge.segmentReached, Bool.and_eq_true, bne_iff_ne, decide_eq_true_iff, Config.segmentFrames]

theorem endBurst_of_last {s : State} {b : BridgeId} (h : (s.bridge b).burst = 1) :
    s.endBurst b = (s.bridgeReported true b { s.bridge b with burst := 0, phase := .start }).handOn := by
  rw [State.endBurst, if_pos h, setBridge_reportChange_eq]

theorem exec_burstEnd {s : State} {b : BridgeId} (out : s.inReset = false) (due : Due.burstEnd b ∈ s.due)
    (last : (s.bridge b).burst = 1) : exec (.burstEnd b) s
      = .next (({ s with due := s.due.erase (.burstEnd b) } : State).bridgeReported true b
          { s.bridge b with burst := 0, phase := .start }).handOn := by
  rw [show exec (.burstEnd b) s = _ from
    event_of_due (c := fun s => (s.bridge b).burst == 1) out due (by simpa using last)]
  exact congrArg _ (endBurst_of_last (s := { s with due := s.due.erase (.burstEnd b) }) last)

theorem segment_other_ne (g : Segment) : g.other ≠ g := by cases g <;> decide

/-- Settles O33: each event by what it writes of the bridge's alert phase and burst. -/
theorem alertToneAndBurstEvents : Obligations.AlertToneAndBurstEvents := by
  intro s b out
  refine ⟨fun due running => ⟨_, ?_, rfl⟩, fun due running lasted => ⟨_, _, ?_, segment_other_ne _, rfl⟩,
    fun due last => ⟨_, _, rfl, rfl, ?_, handOn_backdrop _, fun quiet => ?_⟩⟩
  · rw [show exec (.alertHalfPeriod b) s = _ from event_of_due (c := fun _ => true) out due rfl]
    exact congrArg _ (turnLevel_of_running (s := { s with due := s.due.erase (.half b) }) running)
  · have reached := segmentReached_iff.mpr ⟨running, lasted⟩
    rw [show exec (.alertSegmentChange b) s = _ from
      event_of_due (c := fun s => (s.bridge b).segmentReached) out due reached]
    exact congrArg _ (changeSegment_of_reached (s := { s with due := s.due.erase (.segment b) }) reached)
  · exact exec_burstEnd out due last
  · exact (exec_burstEnd out due last).trans (congrArg _ (handOn_of_quiet quiet))

/-! ## The ends of an assembly, a pending identity and a data line wait (R22, R25, R30) -/

theorem getLsbD_one_shiftLeft (p r : PortId) : (1#12 <<< p.val).getLsbD r = decide (r = p) := by
  rw [← BitVec.twoPow_eq, BitVec.getLsbD_twoPow]
  simp [Fin.ext_iff, eq_comm]

/-- The level of DATAn as it is seen, port by port. -/
theorem seeDataLine_getLsbD (s : State) (p r : PortId) (high : Bool) : (s.seeDataLine p high).dataLines.getLsbD r
    = if r = p then high else s.dataLines.getLsbD r := by
  unfold State.seeDataLine
  have bit := getLsbD_one_shiftLeft p r
  cases high <;> dsimp only
  · rw [if_neg Bool.false_ne_true, BitVec.getLsbD_and, BitVec.getLsbD_not, bit]
    by_cases h : r = p <;> simp [h]
  · rw [if_pos rfl, BitVec.getLsbD_or, bit]
    by_cases h : r = p <;> simp [h]

/-- Settles O50: the two expiries by the test that their event makes, and the end of the wait by its two writes. -/
theorem reportTimeoutsAndLineWaitEnd : Obligations.ReportTimeoutsAndLineWaitEnd := by
  intro s p
  refine ⟨fun held age out due assembling reachedEnd => ⟨_, rfl, ?_⟩, fun i out due pendingId ended => ?_, fun calm =>
    ?_⟩
  · have reached : (s.port p).ageReached = true := by
      rw [Port.ageReached, assembling]; exact decide_eq_true reachedEnd
    rw [show exec (.assemblyAgeExpiry p) s = _ from
      event_of_due (c := fun s => (s.port p).ageReached) out due reached]
    exact congrArg _ (if_pos reached)
  · have reachedEnd : (s.port p).windowOver = true := by simp [Port.windowOver, pendingId, ended]
    rw [show exec (.pendingIdentityExpiry p) s = _ from
      event_of_due (c := fun s => (s.port p).windowOver) out due reachedEnd]
    exact congrArg _ (if_pos reachedEnd)
  · refine ⟨s.endDataLineWait p, operate_of_calm calm _, rfl, fun r => ?_⟩
    refine (seeDataLine_getLsbD s p r true).trans ?_
    by_cases h : r = p <;> simp [h]

end Sys2Proof.Machine
end

section
/-! SUPPORT. The key machine, move by move, with its change reported: the states it enters (R102 to R109), how it judges
demand and engagement, and what its counts reach (R105 to R110, R119). -/

namespace Sys2Proof.Machine

section
variable {s : State} {p : PortId}

/-! ## The states entered -/

/-- A port whose key machine has entered a state with both counts at 0 (R104, R107, R108). -/
def Port.moved (k : KeyState) (q : Port) : Port := { q with key := k, timing := 0, keyUp := 0 }

theorem moved_keyCounted (k : KeyState) (q : Port) : q.keyCounted.moved k = q.moved k := by rw [keyCounted_keeps]; rfl


theorem sameReported_moved {k : KeyState} {q : Port} (h : q.key ≠ k) : q.sameReported (q.moved k) = false :=
  sameReported_of_key h

theorem enterIdle_eq (s : State) (barred : Bool) (p : PortId) : s.enterIdle barred p
    = (s.portReported p ((s.port p).moved .idle)).judgeEngagement barred p :=
  congrArg (State.judgeEngagement barred p) (setKey_eq s p .idle 0 0)

theorem enterKeyed_eq (s : State) (p : PortId) : s.enterKeyed p
    = (s.portReported p ((s.port p).moved .keyed)).judgeEngagement false p :=
  congrArg (State.judgeEngagement false p) (setKey_eq s p .keyed 0 0)

theorem enterBlank_of_pos (barred : Bool) (h : (s.port p).setup.blank ≠ 0) :
    s.enterBlank barred p = s.portReported p ((s.port p).moved .blank) := by
  rw [State.enterBlank, if_neg h]
  exact setKey_eq s p .blank 0 0

theorem enterBlank_of_zero (barred : Bool) (h : (s.port p).setup.blank = 0) (moves : (s.port p).key ≠ .idle) :
    s.enterBlank barred p = (s.portReported p ((s.port p).moved .idle)).judgeEngagement barred p := by
  rw [State.enterBlank, if_pos h, setKey_eq, enterIdle_eq, port_portReported_same]
  exact congrArg (State.judgeEngagement barred p) (portReported_portReported (sameReported_moved moves))

theorem enterHang_of_pos (h : (s.port p).setup.hang ≠ 0) :
    s.enterHang p = s.portReported p { s.port p with key := .hang, timing := 0 } := by
  rw [State.enterHang, if_neg h]
  exact setKey_eq s p .hang 0 _

theorem enterHang_of_zero (h : (s.port p).setup.hang = 0) : s.enterHang p = s.enterBlank false p := by
  rw [State.enterHang, if_pos h]

theorem enterDrain_of_pos (h : (s.port p).setup.lead ≠ 0) :
    s.enterDrain p = s.portReported p { s.port p with key := .drain, timing := 0 } := by
  rw [State.enterDrain, if_neg h]
  exact setKey_eq s p .drain 0 _

theorem enterDrain_of_zero (h : (s.port p).setup.lead = 0) :
    s.enterDrain p = (s.portReported p { s.port p with key := .drain, timing := 0 }).enterHang p := by
  rw [State.enterDrain, if_pos h, setKey_eq]

/-- A key machine that leaves KEYED with a lead of 0 enters HANG at once (R104, R109). -/
theorem enterDrain_of_hang (keyed : (s.port p).key = .keyed) (lead : (s.port p).setup.lead = 0)
    (hang : (s.port p).setup.hang ≠ 0) :
    s.enterDrain p = s.portReported p { s.port p with key := .hang, timing := 0 } := by
  rw [enterDrain_of_zero lead, enterHang_of_pos (by rw [port_portReported_same]; exact hang), port_portReported_same]
  exact portReported_portReported (sameReported_of_key (by rw [keyed]; nofun))

/-- With lead and hang 0 it enters BLANK at once (R105, R106, R109). -/
theorem enterDrain_of_blank (keyed : (s.port p).key = .keyed) (lead : (s.port p).setup.lead = 0)
    (hang : (s.port p).setup.hang = 0) (blank : (s.port p).setup.blank ≠ 0) :
    s.enterDrain p = s.portReported p ((s.port p).moved .blank) := by
  rw [enterDrain_of_zero lead, enterHang_of_zero (by rw [port_portReported_same]; exact hang),
    enterBlank_of_pos _ (by rw [port_portReported_same]; exact blank), port_portReported_same]
  exact portReported_portReported (sameReported_moved (by rw [keyed]; nofun))

/-- With all three settings 0 it enters IDLE at once (R107, R109). -/
theorem enterDrain_of_idle (keyed : (s.port p).key = .keyed) (lead : (s.port p).setup.lead = 0)
    (hang : (s.port p).setup.hang = 0) (blank : (s.port p).setup.blank = 0) :
    s.enterDrain p = (s.portReported p ((s.port p).moved .idle)).judgeEngagement false p := by
  rw [enterDrain_of_zero lead, enterHang_of_zero (by rw [port_portReported_same]; exact hang),
    enterBlank_of_zero _ (by rw [port_portReported_same]; exact blank) (by rw [port_portReported_same]; nofun),
    port_portReported_same]
  exact congrArg (State.judgeEngagement false p)
    (portReported_portReported (sameReported_moved (by rw [keyed]; nofun)))

/-! ## Engagement that stays as it is -/

theorem judgeEngagement_of_right {barred : Bool} (h : (s.port p).engaged = (s.port p).mayEngage) :
    s.judgeEngagement barred p = s := by
  unfold State.judgeEngagement
  dsimp only
  rw [h]
  cases (s.port p).mayEngage <;> rfl

theorem judgeEngagement_of_begins {barred : Bool} (off : (s.port p).engaged = false)
    (may : (s.port p).mayEngage = true) : s.judgeEngagement barred p = s.beginEngagement barred p := by
  simp [State.judgeEngagement, off, may]

theorem judgeEngagement_of_ends {barred : Bool} (on : (s.port p).engaged = true)
    (may : (s.port p).mayEngage = false) : s.judgeEngagement barred p = s.endEngagement p := by
  simp [State.judgeEngagement, on, may]

theorem mayEngage_of_blanked {q : Port} (h : q.blanked = true) : q.mayEngage = false := by simp [Port.mayEngage, h]

/-- A port that is not engaged enters KEYED with nothing else changed (R104). -/
theorem enterKeyed_of_silent (off : (s.port p).engaged = false) :
    s.enterKeyed p = s.portReported p ((s.port p).moved .keyed) := by
  rw [enterKeyed_eq]
  refine judgeEngagement_of_right ?_
  rw [port_portReported_same, mayEngage_of_blanked rfl]
  exact off

end

/-! ## The counts of a completion, and what they reach (R105 to R110, R118, R119) -/

/-- The key-up count of a machine after the next completion (R110, R118). -/
def Port.upNext (q : Port) : Nat := if q.setup.keyLimit = 0 then q.keyUp else q.keyUp + 1

/-- The next completion takes the key-up count to the key limit (R119). -/
def Port.limitNext (q : Port) : Prop :=
  q.setup.keyLimit ≠ 0 ∧ q.setup.keyLimit * Config.framesPerSecond ≤ q.upNext

section
variable {q : Port}

theorem keyCounted_of_still (key : q.key = .idle ∨ q.key = .deferred) : q.keyCounted = q := by
  rcases key with key | key <;> simp [Port.keyCounted, key]

theorem keyCounted_of_keyed (key : q.key = .keyed) : q.keyCounted = { q with keyUp := q.upNext } := by
  simp [Port.keyCounted, key, Port.upNext]

theorem keyCounted_of_running (key : q.key = .drain ∨ q.key = .hang) :
    q.keyCounted = { q with timing := q.timing + 1, keyUp := q.upNext } := by
  rcases key with key | key <;> simp [Port.keyCounted, key, Port.upNext]

theorem keyCounted_of_quiet (key : q.key = .blank ∨ q.key = .cool) :
    q.keyCounted = { q with timing := q.timing + 1 } := by
  rcases key with key | key <;> simp [Port.keyCounted, key]

theorem asserted_iff (k : KeyState) : k.asserted = true ↔ k = .keyed ∨ k = .drain ∨ k = .hang := by
  cases k <;> simp [KeyState.asserted]

theorem limitReached_counted (asserted : q.key.asserted = true) : q.keyCounted.limitReached = true ↔ q.limitNext := by
  have up : q.keyCounted.keyUp = q.upNext := by
    rcases (asserted_iff _).mp asserted with key | key | key
    · rw [keyCounted_of_keyed key]
    · rw [keyCounted_of_running (.inl key)]
    · rw [keyCounted_of_running (.inr key)]
  simp [Port.limitReached, Port.limitNext, up, asserted, keyCounted_key]

theorem limitReached_of_down (down : q.key.asserted = false) : q.keyCounted.limitReached = false := by
  simp [Port.limitReached, down, keyCounted_key]

theorem sameReported_counted (q : Port) : q.sameReported q.keyCounted = true := by
  rw [keyCounted_keeps]; exact Port.sameReported_self q

end

section
variable {s : State} {p : PortId}

theorem keyReached_of_still (key : (s.port p).key = .idle ∨ (s.port p).key = .deferred) : s.keyReached p = s := by
  unfold State.keyReached
  dsimp only
  rw [keyCounted_of_still key, setPort_self]
  rcases key with key | key <;> simp [Port.limitReached, Port.drainOver, Port.hangOver, Port.blankOver,
    Port.cooldownOver, key, KeyState.asserted]

theorem keyReached_of_limit (asserted : (s.port p).key.asserted = true) (limit : (s.port p).limitNext) :
    s.keyReached p = (s.setPort p (s.port p).keyCounted).enterCool p :=
  if_pos ((limitReached_counted asserted).mpr limit)

theorem keyReached_of_keyed (key : (s.port p).key = .keyed) (below : ¬ (s.port p).limitNext) :
    s.keyReached p = s.setPort p { s.port p with keyUp := (s.port p).upNext } := by
  have limit := mt (limitReached_counted (q := s.port p) (by rw [key]; rfl)).mp below
  unfold State.keyReached
  dsimp only
  rw [if_neg limit, keyCounted_of_keyed key]
  simp [Port.drainOver, Port.hangOver, Port.blankOver, Port.cooldownOver, key]

theorem keyReached_of_drained (key : (s.port p).key = .drain) (below : ¬ (s.port p).limitNext)
    (reached : (s.port p).setup.lead ≤ (s.port p).timing + 1) :
    s.keyReached p = (s.setPort p (s.port p).keyCounted).enterHang p := by
  have limit := mt (limitReached_counted (q := s.port p) (by rw [key]; rfl)).mp below
  unfold State.keyReached
  dsimp only
  rw [if_neg limit, if_pos]
  simpa [Port.drainOver, keyCounted_of_running (.inl key), key] using reached

theorem keyReached_of_hung (key : (s.port p).key = .hang) (below : ¬ (s.port p).limitNext)
    (reached : (s.port p).setup.hang ≤ (s.port p).timing + 1) :
    s.keyReached p = (s.setPort p (s.port p).keyCounted).enterBlank false p := by
  have limit := mt (limitReached_counted (q := s.port p) (by rw [key]; rfl)).mp below
  unfold State.keyReached
  dsimp only
  rw [if_neg limit, if_neg (by simp [Port.drainOver, keyCounted_key, key]), if_pos]
  simpa [Port.hangOver, keyCounted_of_running (.inr key), key] using reached

theorem keyReached_of_running (key : (s.port p).key = .drain ∧ (s.port p).timing + 1 < (s.port p).setup.lead
      ∨ (s.port p).key = .hang ∧ (s.port p).timing + 1 < (s.port p).setup.hang) (below : ¬ (s.port p).limitNext) :
    s.keyReached p
      = s.setPort p { s.port p with timing := (s.port p).timing + 1, keyUp := (s.port p).upNext } := by
  have running : (s.port p).key = .drain ∨ (s.port p).key = .hang := key.imp And.left And.left
  have asserted : (s.port p).key.asserted = true := by rcases running with h | h <;> rw [h] <;> rfl
  have limit := mt (limitReached_counted asserted).mp below
  unfold State.keyReached
  dsimp only
  rw [if_neg limit, keyCounted_of_running running]
  rcases key with ⟨key, short⟩ | ⟨key, short⟩ <;>
    simp [Port.drainOver, Port.hangOver, Port.blankOver, Port.cooldownOver, key, short]

theorem keyReached_of_unblanked (key : (s.port p).key = .blank)
    (reached : (s.port p).setup.blank ≤ (s.port p).timing + 1) :
    s.keyReached p = (s.setPort p (s.port p).keyCounted).enterIdle false p := by
  unfold State.keyReached
  dsimp only
  rw [limitReached_of_down (by rw [key]; rfl), if_neg Bool.false_ne_true,
    if_neg (by simp [Port.drainOver, keyCounted_key, key]), if_neg
      (by simp [Port.hangOver, keyCounted_key, key]), if_pos]
  simpa [Port.blankOver, keyCounted_of_quiet (.inl key), key] using reached

theorem keyReached_of_blanking (key : (s.port p).key = .blank)
    (short : (s.port p).timing + 1 < (s.port p).setup.blank) :
    s.keyReached p = s.setPort p { s.port p with timing := (s.port p).timing + 1 } := by
  unfold State.keyReached
  dsimp only
  rw [limitReached_of_down (by rw [key]; rfl), if_neg Bool.false_ne_true, keyCounted_of_quiet (.inl key)]
  simp [Port.drainOver, Port.hangOver, Port.blankOver, Port.cooldownOver, key, short]

theorem keyReached_of_cooled (key : (s.port p).key = .cool)
    (reached : (s.port p).setup.cooldown * Config.framesPerSecond ≤ (s.port p).timing + 1) :
    s.keyReached p = (s.setPort p (s.port p).keyCounted).enterIdle false p := by
  unfold State.keyReached
  dsimp only
  rw [limitReached_of_down (by rw [key]; rfl), if_neg Bool.false_ne_true,
    if_neg (by simp [Port.drainOver, keyCounted_key, key]), if_neg (by simp [Port.hangOver, keyCounted_key, key]),
    if_neg (by simp [Port.blankOver, keyCounted_key, key]), if_pos]
  simpa [Port.cooldownOver, keyCounted_of_quiet (.inr key), key] using reached

theorem keyReached_of_cooling (key : (s.port p).key = .cool)
    (short : (s.port p).timing + 1 < (s.port p).setup.cooldown * Config.framesPerSecond) : s.keyReached p
      = (s.setPort p { s.port p with timing := (s.port p).timing + 1 }).judgeEngagement false p := by
  unfold State.keyReached
  dsimp only
  rw [limitReached_of_down (by rw [key]; rfl), if_neg Bool.false_ne_true, keyCounted_of_quiet (.inr key)]
  have cold : ¬ (s.port p).setup.cooldown * Config.framesPerSecond ≤ (s.port p).timing + 1 := Nat.not_le.mpr short
  simp [Port.drainOver, Port.hangOver, Port.blankOver, Port.cooldownOver, key, cold]

/-! ## A state entered from the counts -/

/-- A move reported on the counts is the move reported on what stood before them. -/
theorem portReported_counted (s : State) (p : PortId) (q : Port) :
    (s.setPort p (s.port p).keyCounted).portReported p q = s.portReported p q :=
  portReported_setPort (sameReported_counted _)

theorem enterIdle_counted (s : State) (barred : Bool) (p : PortId) :
    (s.setPort p (s.port p).keyCounted).enterIdle barred p
      = (s.portReported p ((s.port p).moved .idle)).judgeEngagement barred p := by
  rw [enterIdle_eq, State.port_setPort_same, moved_keyCounted, portReported_counted]

theorem enterBlank_counted_of_pos (h : (s.port p).setup.blank ≠ 0) :
    (s.setPort p (s.port p).keyCounted).enterBlank false p = s.portReported p ((s.port p).moved .blank) := by
  rw [enterBlank_of_pos _ (by rw [State.port_setPort_same, keyCounted_setup]; exact h), State.port_setPort_same,
    moved_keyCounted, portReported_counted]

theorem enterBlank_counted_of_zero (h : (s.port p).setup.blank = 0) (moves : (s.port p).key ≠ .idle) :
    (s.setPort p (s.port p).keyCounted).enterBlank false p
      = (s.portReported p ((s.port p).moved .idle)).judgeEngagement false p := by
  rw [enterBlank_of_zero _ (by rw [State.port_setPort_same, keyCounted_setup]; exact h)
    (by rw [State.port_setPort_same, keyCounted_key]; exact moves), State.port_setPort_same, moved_keyCounted,
    portReported_counted]

theorem enterHang_counted_of_pos (key : (s.port p).key = .drain) (h : (s.port p).setup.hang ≠ 0) :
    (s.setPort p (s.port p).keyCounted).enterHang p
      = s.portReported p { s.port p with key := .hang, timing := 0, keyUp := (s.port p).upNext } := by
  rw [enterHang_of_pos (by rw [State.port_setPort_same, keyCounted_setup]; exact h), State.port_setPort_same,
    portReported_counted, keyCounted_of_running (.inl key)]

theorem enterHang_counted_of_zero (h : (s.port p).setup.hang = 0) :
    (s.setPort p (s.port p).keyCounted).enterHang p = (s.setPort p (s.port p).keyCounted).enterBlank false p :=
  enterHang_of_zero (by rw [State.port_setPort_same, keyCounted_setup]; exact h)

theorem enterCool_counted (s : State) (p : PortId) : (s.setPort p (s.port p).keyCounted).enterCool p
    = ((s.portReported p ((s.port p).moved .cool)).raise (srcPort p) flagKeyLimit).judgeEngagement false p := by
  rw [State.enterCool, setKey_eq, State.port_setPort_same, portReported_counted]
  rw [show ({ (s.port p).keyCounted with key := .cool, timing := 0, keyUp := 0 } : Port) = _ from
    moved_keyCounted .cool (s.port p)]

end

end Sys2Proof.Machine
end

section
/-! SUPPORT. The key machine's transitions and counts, and the qualifiers' changes, as their events take them (O27 to
O29). -/

namespace Sys2Proof.Machine

/-! ## The key line (R97) -/

theorem keyLine_of_started {s : State} {p : PortId} (started : (s.port p).lifecycle ≠ .off) :
    s.keyLine p = throughPolarity (s.port p).setup.keyPolarity (s.port p).key.asserted := by
  unfold State.keyLine
  dsimp only
  cases life : (s.port p).lifecycle with
  | off => exact absurd life started
  | active => rfl
  | lost => rfl

theorem not_asserted_iff (k : KeyState) :
    k.asserted = false ↔ k = .idle ∨ k = .deferred ∨ k = .blank ∨ k = .cool := by
  cases k <;> simp [KeyState.asserted]

/-! ## The judgement of demand and engagement (R102 to R107) -/

section
variable {s : State} {p : PortId}

theorem setKey_moved (s : State) (p : PortId) (k : KeyState) :
    s.setKey p k 0 0 = s.portReported p ((s.port p).moved k) := setKey_eq s p k 0 0

/-- The states from which demand without engagement keys the port at once (R102, R103, R107). -/
theorem judgeKey_of_keyedNow (active : (s.port p).lifecycle = .active)
    (key : (s.port p).key = .idle ∨ (s.port p).key = .deferred ∨ (s.port p).key = .blank) (demand : s.demand p = true)
    (off : (s.port p).engaged = false) : s.judgeKey p = s.portReported p ((s.port p).moved .keyed) := by
  rw [← enterKeyed_of_silent off]
  rcases key with key | key | key <;> simp [State.judgeKey, active, key, demand, off]

theorem judgeKey_of_override (active : (s.port p).lifecycle = .active)
    (key : (s.port p).key = .idle ∨ (s.port p).key = .deferred) (demand : s.demand p = true)
    (override : s.overrideKey p = true) : s.judgeKey p = s.enterKeyed p := by
  rcases key with key | key <;> simp [State.judgeKey, active, key, demand, override]

theorem judgeKey_of_deferring (active : (s.port p).lifecycle = .active) (key : (s.port p).key = .idle)
    (demand : s.demand p = true) (on : (s.port p).engaged = true) (override : s.overrideKey p = false) :
    s.judgeKey p = s.portReported p ((s.port p).moved .deferred) := by
  rw [← setKey_moved]
  simp [State.judgeKey, active, key, demand, on, override]

theorem judgeKey_of_undeferred (active : (s.port p).lifecycle = .active) (key : (s.port p).key = .deferred)
    (demand : s.demand p = false) : s.judgeKey p = s.portReported p ((s.port p).moved .idle) := by
  rw [← setKey_moved]
  simp [State.judgeKey, active, key, demand]

theorem judgeKey_of_released (active : (s.port p).lifecycle = .active) (key : (s.port p).key = .keyed)
    (demand : s.demand p = false) : s.judgeKey p = s.enterDrain p := by
  simp [State.judgeKey, active, key, demand]

theorem judgeKey_of_rekeyed (active : (s.port p).lifecycle = .active)
    (key : (s.port p).key = .drain ∨ (s.port p).key = .hang) (demand : s.demand p = true) :
    s.judgeKey p = s.portReported p { s.port p with key := .keyed, timing := 0 } := by
  rw [← setKey_eq s p .keyed 0 (s.port p).keyUp]
  rcases key with key | key <;> simp [State.judgeKey, active, key, demand]

theorem judgeKey_of_inactive (h : (s.port p).lifecycle ≠ .active) : s.judgeKey p = s := if_neg h

/-! ## The end of an engagement (R18) -/

theorem endEngagement_port (s : State) (p r : PortId) : (s.endEngagement p).port r
    = if r = p then { s.port p with engaged := false, bar := false, unit := none } else s.port r := by
  unfold State.endEngagement
  dsimp only
  have left (v : State) (b : BridgeId) : (v.leavePlace b p).port = v.port :=
    funext (port_of_ports (leavePlace_ports ..))
  split
  · rw [port_updatePort, left, port_updatePort, port_updatePort, if_pos rfl]
    split <;> rfl
  · rw [port_updatePort, port_updatePort, port_updatePort, if_pos rfl]
    split <;> rfl

end

/-- Settles O27: the key line by the states that assert it, and each transition by the branch of `judgeKey` it takes. -/
theorem keyMachineTransitions : Obligations.KeyMachineTransitions := by
  refine ⟨fun s p started => ?_, ?_⟩
  · intro up down
    have up_iff : (s.port p).key.asserted = true ↔ up := asserted_iff _
    have down_iff : (s.port p).key.asserted = false ↔ down := not_asserted_iff _
    rw [keyLine_of_started started]
    refine ⟨up_iff, fun high => ?_, fun low => ?_⟩
    · rw [high]; exact ⟨up_iff, down_iff⟩
    · rw [low, throughPolarity, Bool.not_eq_false', Bool.not_eq_true']; exact ⟨up_iff, down_iff⟩
  · rintro s t p rfl
    refine ⟨judgeKey_of_inactive, fun active => ⟨judgeKey_of_atRest, fun key demand on override => ?_,
      fun key demand => ?_, fun key demand off => ?_, fun key demand on override => ?_, fun key demand => ?_,
      fun key demand => ?_⟩⟩
    · exact judgeKey_of_deferring active key demand on override
    · exact judgeKey_of_undeferred active key demand
    · exact judgeKey_of_keyedNow active key demand off
    · rw [judgeKey_of_override active key demand override, enterKeyed_eq]
      have ends : ((s.portReported p ((s.port p).moved .keyed)).judgeEngagement false p)
          = (s.portReported p ((s.port p).moved .keyed)).endEngagement p :=
        judgeEngagement_of_ends (by rw [port_portReported_same]; exact on)
          (by rw [port_portReported_same]; exact mayEngage_of_blanked rfl)
      refine ⟨?_, ?_, ?_, rfl⟩
      · rw [ends, endEngagement_port, if_pos rfl, port_portReported_same]; rfl
      · rw [judgeEngagement_backdrop, portReported_backdrop]
        exact setPort_backdrop _ _ _ rfl
      · rw [ends, endEngagement_bids]; rfl
    · rw [judgeKey_of_released active key demand]
      exact ⟨enterDrain_of_pos, enterDrain_of_hang key, enterDrain_of_blank key, enterDrain_of_idle key⟩
    · exact judgeKey_of_rekeyed active key demand

/-! ## The counts that run out (R105 to R110, R118, R119) -/

section
variable {s : State} {p : PortId}

/-- A count of a key machine that is due and comes about is taken, and handed on. -/
theorem event_key {c : State → Bool} (out : s.inReset = false) (due : Due.key p ∈ s.due) (comes : c s = true) :
    event (.key p) c s = .next (State.keyReached p { s with due := s.due.erase (.key p) }).handOn :=
  event_of_due out due comes

end

/-- A machine that goes into COOL releases the key line (R97, R119). -/
theorem keyLine_of_cooled {s u : State} {p : PortId} (port : u.port p = (s.port p).moved .cool)
    (started : (s.port p).lifecycle ≠ .off) (asserted : (s.port p).key.asserted = true) :
    u.keyLine p = !s.keyLine p := by
  rw [keyLine_of_started started, keyLine_of_started (by rw [port]; exact started), port, asserted]
  show throughPolarity (s.port p).setup.keyPolarity false = _
  cases (s.port p).setup.keyPolarity <;> rfl

/-- Settles O28: each event by the test that it makes and the branch of the counts that this test selects. -/
theorem keyCountsRunOut : Obligations.KeyCountsRunOut := by
  rintro s v p up out due hv rfl limited blanked idle
  have port : v.port p = s.port p := by rw [hv]; rfl
  have limited_iff : limited ↔ (s.port p).limitNext := Iff.rfl
  have take {c : State → Bool} (comes : c s = true) : event (.key p) c s = .next (v.keyReached p).handOn := by
    rw [hv]; exact event_key out due comes
  have blankedIs : v.portReported p ((v.port p).moved .blank) = blanked := by rw [port]; rfl
  have idleIs : v.portReported p ((v.port p).moved .idle) = idle := by rw [port]; rfl
  refine ⟨fun key reached below => ?_, fun key reached below => ?_, fun key reached => ?_, fun key limit => ?_,
    fun key unblanks cold => ?_, fun key reached => ?_⟩
  · have limit := Bool.eq_false_iff.mpr (mt (limitReached_counted (q := s.port p) (by rw [key]; rfl)).mp below)
    have comes : ((s.nextKey p).drainOver && !(s.nextKey p).limitReached) = true := by
      rw [State.nextKey, limit]
      simpa [Port.drainOver, keyCounted_of_running (.inl key), key] using reached
    rw [show exec (.drainEnd p) s = _ from
      take (c := fun s => (s.nextKey p).drainOver && !(s.nextKey p).limitReached) comes,
      keyReached_of_drained (by rw [port]; exact key) (by rw [port]; exact below) (by rw [port]; exact reached)]
    refine ⟨fun hang => ?_, fun hang blank => ?_, fun hang blank => ?_⟩
    · rw [enterHang_counted_of_pos (by rw [port]; exact key) (by rw [port]; exact hang), port]; rfl
    · rw [enterHang_counted_of_zero (by rw [port]; exact hang), enterBlank_counted_of_pos (by rw [port]; exact blank),
        blankedIs]
    · rw [enterHang_counted_of_zero (by rw [port]; exact hang),
        enterBlank_counted_of_zero (by rw [port]; exact blank) (by rw [port, key]; nofun), idleIs]
  · have limit := Bool.eq_false_iff.mpr (mt (limitReached_counted (q := s.port p) (by rw [key]; rfl)).mp below)
    have comes : ((s.nextKey p).hangOver && !(s.nextKey p).limitReached) = true := by
      rw [State.nextKey, limit]
      simpa [Port.hangOver, keyCounted_of_running (.inr key), key] using reached
    rw [show exec (.hangEnd p) s = _ from
      take (c := fun s => (s.nextKey p).hangOver && !(s.nextKey p).limitReached) comes,
      keyReached_of_hung (by rw [port]; exact key) (by rw [port]; exact below) (by rw [port]; exact reached)]
    refine ⟨fun blank => ?_, fun blank => ?_⟩
    · rw [enterBlank_counted_of_pos (by rw [port]; exact blank), blankedIs]
    · rw [enterBlank_counted_of_zero (by rw [port]; exact blank) (by rw [port, key]; nofun), idleIs]
  · have comes : (s.nextKey p).blankOver = true := by
      simpa [State.nextKey, Port.blankOver, keyCounted_of_quiet (.inl key), key] using reached
    rw [show exec (.blankEnd p) s = _ from
      take (c := fun s => (s.nextKey p).blankOver) comes,
      keyReached_of_unblanked (by rw [port]; exact key) (by rw [port]; exact reached), enterIdle_counted, idleIs]
  · have asserted := (asserted_iff _).mpr key
    have comes : (s.nextKey p).limitReached = true := (limitReached_counted asserted).mpr limit
    refine ⟨_, rfl, ?_, ?_, fun started => ?_⟩
    · rw [show exec (.keyLimit p) s = _ from
      take (c := fun s => (s.nextKey p).limitReached) comes,
        keyReached_of_limit (by rw [port]; exact asserted) (by rw [port]; exact limit), enterCool_counted, port]
      rfl
    · rw [getLsbD_raise_flags (by decide)]; simp
    · exact keyLine_of_cooled ((port_of_ports (State.raise_ports ..) p).trans
        (port_portReported_same ..)) started asserted
  · have counted : (s.nextKey p) = { s.port p with timing := (s.port p).timing + 1 } := keyCounted_of_quiet (.inr key)
    have comes : ((s.nextKey p).coolBlankOver && !(s.nextKey p).cooldownOver) = true := by
      have cold' : ¬ (s.port p).setup.cooldown * Config.framesPerSecond ≤ (s.port p).timing + 1 := Nat.not_le.mpr cold
      simp [counted, Port.coolBlankOver, Port.cooldownOver, key, unblanks, cold']
    refine ⟨_, rfl, ?_⟩
    rw [show exec (.coolBlankEnd p) s = _ from
      take (c := fun s => (s.nextKey p).coolBlankOver && !(s.nextKey p).cooldownOver) comes,
      keyReached_of_cooling (by rw [port]; exact key) (by rw [port]; exact cold), port]
    rfl
  · have comes : (s.nextKey p).cooldownOver = true := by
      have reached' : (s.port p).setup.cooldown * Config.framesPerSecond ≤ (s.port p).timing + 1 := reached
      simp [State.nextKey, Port.cooldownOver, keyCounted_of_quiet (.inr key), key, reached']
    rw [show exec (.cooldownEnd p) s = _ from
      take (c := fun s => (s.nextKey p).cooldownOver) comes,
      keyReached_of_cooled (by rw [port]; exact key) (by rw [port]; exact reached), enterIdle_counted, idleIs]

/-! ## The qualifiers (R12, R13, R14) -/

section
variable {q : Port}

/-- The carrier qualifier takes its new level exactly where its count has reached its end (R12). -/
theorem requalified_carrier (q : Port) : q.requalified.carrier = (if q.carrierReached then !q.carrier else q.carrier)
    ∧ q.requalified.carrierCount = if q.carrierReached then 0 else q.carrierCount := by
  unfold Port.requalified
  cases h : q.carrierReached <;> dsimp only <;> split_ifs <;> simp_all

/-- A quiet count at its end takes the detector off (R13). -/
theorem requalified_of_quiet (h : q.quietReached = true) : q.requalified.vox = false
    ∧ q.requalified.quietCount = 0 := by
  have h' : ({ q with carrier := !q.carrier, carrierCount := 0 } : Port).quietReached = true := h
  unfold Port.requalified
  cases q.carrierReached <;> simp [h, h']

/-- Where the hold has not run out the detector turns on at a loud level, and stays as it is at another (R13). -/
theorem requalified_vox (h : q.quietReached = false) : q.requalified.vox = (q.voxLoud || q.vox) := by
  have h' : ({ q with carrier := !q.carrier, carrierCount := 0 } : Port).quietReached = false := h
  have loud : ({ q with carrier := !q.carrier, carrierCount := 0 } : Port).voxLoud = q.voxLoud := rfl
  unfold Port.requalified
  cases q.carrierReached <;> cases hl : q.voxLoud <;> simp [h, h', loud, hl]

/-- The qualifiers alone change (R12, R13). -/
theorem requalified_others (q : Port) :
    { q.requalified with carrier := false, carrierCount := 0, vox := false, quietCount := 0 }
      = ({ q with carrier := false, carrierCount := 0, vox := false, quietCount := 0 } : Port) := by
  unfold Port.requalified
  dsimp only
  split_ifs <;> rfl

theorem requalify_taken {s : State} {p : PortId} {c : State → Bool} (out : s.inReset = false)
    (due : Due.qualify p ∈ s.due) (comes : c s = true) : event (.qualify p) c s
      = .next ((State.setPort p (s.port p).requalified { s with due := s.due.erase (.qualify p) }).judgeEngagement
          false p).handOn := event_of_due out due comes

end

/-- Settles O29: either command takes the qualifiers' changes together, each by its own count. -/
theorem carrierAndVoxChangesAreTaken : Obligations.CarrierAndVoxChangesAreTaken := by
  rintro s v p out due rfl
  have carrier := requalified_carrier (s.port p)
  have quiet_iff : (s.port p).quietReached = true ↔ (s.port p).setup.voxHold + 1 ≤ (s.port p).quietCount :=
    decide_eq_true_iff
  have reached_iff : (s.port p).carrierReached = true ↔ (s.port p).setup.csDebounce + 1 ≤ (s.port p).carrierCount :=
    decide_eq_true_iff
  refine ⟨fun reached => ⟨_, (s.port p).requalified, rfl, ?_, ?_, ?_, fun holding => ?_, fun ended => ?_, ?_⟩,
    fun quiet => ⟨_, (s.port p).requalified, rfl, ?_, ?_, ?_, fun short => ?_, fun reached => ?_, ?_⟩⟩
  · exact requalify_taken (c := fun s => (s.port p).carrierReached) out due (reached_iff.mpr reached)
  · rw [carrier.1, if_pos (reached_iff.mpr reached)]
  · rw [carrier.2, if_pos (reached_iff.mpr reached)]
  · have off : (s.port p).quietReached = false := by
      rw [Bool.eq_false_iff, Ne, quiet_iff]; exact Nat.not_le.mpr holding
    rw [requalified_vox off]
    refine ⟨fun active loud => ?_, fun soft => ?_⟩
    · cases vox : (s.port p).vox <;> simp [Port.voxLoud, active, loud, vox]
    · have soft' : ¬ (s.port p).setup.voxThreshold ≤ (s.port p).voxLevel := Nat.not_le.mpr soft
      simp [Port.voxLoud, soft']
  · exact requalified_of_quiet (quiet_iff.mpr ended)
  · exact requalified_others _
  · exact requalify_taken (c := fun s => (s.port p).quietReached) out due (quiet_iff.mpr quiet)
  · exact (requalified_of_quiet (quiet_iff.mpr quiet)).1
  · exact (requalified_of_quiet (quiet_iff.mpr quiet)).2
  · have notReached : ¬ (s.port p).carrierReached = true := mt reached_iff.mp (Nat.not_le.mpr short)
    rw [carrier.1, carrier.2, if_neg notReached, if_neg notReached]
    exact ⟨rfl, rfl⟩
  · rw [carrier.1, carrier.2, if_pos (reached_iff.mpr reached), if_pos (reached_iff.mpr reached)]
    exact ⟨rfl, rfl⟩
  · exact requalified_others _

end Sys2Proof.Machine
end

section
/-! SUPPORT. Engagement (R14 to R18): its conditions, what its beginning and its end write, and what an event hands on
(R91, R107, R111). -/

namespace Sys2Proof.Machine

section
variable {s t : State} {p : PortId} {b : BridgeId}

/-! ## What is read after a port's change -/

/-- Effective priorities go by setup, emergency and unit alone (R75). -/
theorem effPriority_portReported {q : Port} (setup : q.setup = (s.port p).setup)
    (emergency : q.emergency = (s.port p).emergency) (unit : q.unit = (s.port p).unit) (r : PortId) :
    (s.portReported p q).effPriority r = s.effPriority r := by
  have port : ((s.portReported p q).port r).setup = (s.port r).setup
      ∧ ((s.portReported p q).port r).emergency = (s.port r).emergency
      ∧ ((s.portReported p q).port r).unit = (s.port r).unit := by
    rw [port_portReported]
    split
    · next h => subst h; exact ⟨setup, emergency, unit⟩
    · exact ⟨rfl, rfl, rfl⟩
  unfold State.effPriority
  dsimp only
  rw [port.1, port.2.1, port.2.2]
  rfl

/-- A release goes by the bridge, the effective priorities and the talk limit (R85). -/
theorem release_bridge_congr (bridge : t.bridge b = s.bridge b) (priorities : t.effPriority = s.effPriority)
    (record : t.record b = s.record b) : (t.release b).bridge b = (s.release b).bridge b := by
  unfold State.release
  rw [State.bridge_updateBridge_same, State.bridge_updateBridge_same, bridge, priorities]
  unfold State.freshTimer
  rw [record]

/-! ## The beginning of an engagement (R17) -/

/-- An engagement that begins takes up a pending identity, and hands on its bid where it is not barred (R17, R94). -/
theorem beginEngagement_eq (s : State) (barred : Bool) (p : PortId) : s.beginEngagement barred p
    = { s.portReported p { s.port p with
          engaged := true, bar := barred || (s.port p).bar, pendingId := none
          unit := ((s.port p).pendingId.map (·.unit)).or (s.port p).unit } with
        bids := if (barred || (s.port p).bar) = true then s.bids else s.bids ++ [p] } := by
  unfold State.beginEngagement
  dsimp only
  rw [updatePort_eq (by rfl)]
  cases (s.port p).pendingId <;> split <;> rfl

/-! ## The end of an engagement (R18) -/

/-- A port that leaves its place in a bridge changes that bridge alone, with the change reported (R84, R92). -/
theorem leavePlace_eq (s : State) (b : BridgeId) (p : PortId) :
    s.leavePlace b p = s.bridgeReported false b ((s.leavePlace b p).bridge b) := by
  have eq (f : Bridge → Bridge) : s.updateBridge b f = s.bridgeReported false b ((s.updateBridge b f).bridge b) := by
    rw [State.bridge_updateBridge_same]; exact bridgeReported_updateBridge s b f
  unfold State.leavePlace
  split
  · exact eq _
  · exact eq _

/-- What a port leaves behind in its bridge goes by the bridge, the priorities and the talk limit (R84, R85). -/
theorem leavePlace_bridge_congr (bridge : t.bridge b = s.bridge b) (priorities : t.effPriority = s.effPriority)
    (record : t.record b = s.record b) : (t.leavePlace b p).bridge b = (s.leavePlace b p).bridge b := by
  unfold State.leavePlace
  rw [bridge]
  split
  · exact release_bridge_congr bridge priorities record
  · rw [State.bridge_updateBridge_same, State.bridge_updateBridge_same, bridge]

theorem memberOf_updatePort (s : State) (p r : PortId) (f : Port → Port) :
    (s.updatePort p f).memberOf r = s.memberOf r := by
  rw [State.memberOf, activeRecords_of_plans (State.updatePort_plans ..)]; rfl

theorem endEngagement_of_member (member : s.memberOf p = some b) : s.endEngagement p
    = ((s.portReported p { s.port p with engaged := false }).leavePlace b p).updatePort p
        fun q => { q with bar := false, unit := none } := by
  unfold State.endEngagement
  dsimp only
  rw [memberOf_updatePort, member]
  exact congrArg _ (congrArg (State.leavePlace b p) (updatePort_eq rfl))

theorem endEngagement_of_none (member : s.memberOf p = none) : s.endEngagement p
    = (s.portReported p { s.port p with engaged := false }).updatePort p fun q => { q with bar := false, unit := none
      } := by
  unfold State.endEngagement
  dsimp only
  rw [memberOf_updatePort, member]
  exact congrArg _ (updatePort_eq rfl)

/-- The outcomes of an engagement's end, each as what is reported one after the other (R18, R20, R92). -/
theorem endEngagement_eq (s : State) (p : PortId) :
    (∃ (b : BridgeId) (w : State) (r : Bridge), s.memberOf p = some b
      ∧ w = s.portReported p { s.port p with engaged := false } ∧ r = (s.leavePlace b p).bridge b
      ∧ s.endEngagement p = (w.bridgeReported false b r).portReported p
          { s.port p with engaged := false, bar := false, unit := none })
    ∨ s.memberOf p = none ∧ s.endEngagement p = (s.portReported p { s.port p with engaged := false }).portReported p
        { s.port p with engaged := false, bar := false, unit := none } := by
  cases member : s.memberOf p with
  | some b =>
    refine .inl ⟨b, _, _, rfl, rfl, rfl, ?_⟩
    have left : ((s.portReported p { s.port p with engaged := false }).leavePlace b p).bridge b
        = (s.leavePlace b p).bridge b :=
      leavePlace_bridge_congr rfl (funext (effPriority_portReported rfl rfl rfl)) rfl
    have port : (State.bridgeReported false b ((s.leavePlace b p).bridge b)
        (s.portReported p { s.port p with engaged := false })).port p = { s.port p with engaged := false } :=
      port_portReported_same ..
    rw [endEngagement_of_member member, leavePlace_eq, left, updatePort_eq (by rfl), port]
  | none =>
    refine .inr ⟨rfl, ?_⟩
    rw [endEngagement_of_none member, updatePort_eq (by rfl), port_portReported_same]

/-- What the end of an engagement writes (R18, R20). -/
theorem endEngagement_frame (s : State) (p : PortId) : s.endEngagement p = { s with
    ports := (s.endEngagement p).ports, bridges := (s.endEngagement p).bridges
    notices := { s.notices with marks := (s.endEngagement p).notices.marks } } := by
  rcases endEngagement_eq s p with ⟨b, w, r, -, rfl, -, eq⟩ | ⟨-, eq⟩ <;> rw [eq] <;> rfl

/-- The port's own bridge, where it has one, is left; every other stays (R18, R84). -/
theorem endEngagement_bridge (s : State) (p : PortId) (c : BridgeId) : (s.endEngagement p).bridge c
    = if s.memberOf p = some c then (s.leavePlace c p).bridge c else s.bridge c := by
  rcases endEngagement_eq s p with ⟨b, w, r, member, rfl, rfl, eq⟩ | ⟨member, eq⟩
  · rw [eq, member]
    refine (bridge_setBridge s b c _).trans ?_
    by_cases h : c = b
    · subst h; simp
    · rw [if_neg h, if_neg fun e => h (Option.some.inj e).symm]
  · rw [eq, member, if_neg nofun]; rfl

/-- An engagement that ends makes its port's notice pending, and that of a bridge that it changes (R20, R92). -/
theorem endEngagement_marks (on : (s.port p).engaged = true) (src : Source) :
    (s.endEngagement p).notices.marks[src] = (s.notices.marks[src] || (s.notices.switches[src]
      && (decide (src = srcPort p) || allBridges.any fun b => decide (src = srcBridge b ∧ s.memberOf p = some b)
        && !(s.bridge b).sameReported ((s.endEngagement p).bridge b)))) := by
  have changed : (s.port p).sameReported { s.port p with engaged := false } = false := by
    simp [Port.sameReported, on]
  rcases endEngagement_eq s p with ⟨b, w, r, member, hw, hr, eq⟩ | ⟨member, eq⟩
  · have own : (allBridges.any fun c => decide (src = srcBridge c ∧ s.memberOf p = some c)
        && !(s.bridge c).sameReported ((s.endEngagement p).bridge c))
        = (decide (src = srcBridge b) && !(s.bridge b).sameReported r) := by
      rw [Bool.eq_iff_iff, List.any_eq_true]
      constructor
      · rintro ⟨c, -, hc⟩
        simp only [Bool.and_eq_true, decide_eq_true_eq] at hc
        obtain ⟨⟨hs, hm⟩, hsame⟩ := hc
        rw [member] at hm
        obtain rfl := Option.some.inj hm
        rw [endEngagement_bridge, if_pos member, ← hr] at hsame
        simp [hs, hsame]
      · intro hb
        rw [Bool.and_eq_true, decide_eq_true_eq] at hb
        refine ⟨b, mem_allBridges b, ?_⟩
        rw [endEngagement_bridge, if_pos member, ← hr]
        simp [hb, member]
    rw [own, eq]
    refine (marksIf_getElem _ _ _ _).trans ?_
    have first : (w.bridgeReported false b r).notices.marks[src] = (s.notices.marks[src]
        || (s.notices.switches[src] && decide (src = srcPort p))
        || (s.notices.switches[src] && (decide (src = srcBridge b) && !(s.bridge b).sameReported r))) := by
      refine (marksIf_getElem _ _ _ _).trans ?_
      have second : w.notices.marks[src]
          = (s.notices.marks[src] || (s.notices.switches[src] && decide (src = srcPort p))) := by
        rw [hw]
        refine (marksIf_getElem _ _ _ _).trans ?_
        rw [changed, Bool.not_false, Bool.and_true]
      rw [second, hw]
      rfl
    rw [first]
    have switch : (w.bridgeReported false b r).notices.switches[src] = s.notices.switches[src] := by rw [hw]; rfl
    rw [switch]
    cases s.notices.marks[src] <;> cases s.notices.switches[src] <;> by_cases h : src = srcPort p <;> simp [h]
  · have none_left : (allBridges.any fun c => decide (src = srcBridge c ∧ s.memberOf p = some c)
        && !(s.bridge c).sameReported ((s.endEngagement p).bridge c)) = false := by simp [member]
    rw [none_left, eq]
    refine (marksIf_getElem _ _ _ _).trans ?_
    have first : (s.portReported p { s.port p with engaged := false }).notices.marks[src]
        = (s.notices.marks[src] || (s.notices.switches[src] && decide (src = srcPort p))) := by
      refine (marksIf_getElem _ _ _ _).trans ?_
      rw [changed, Bool.not_false, Bool.and_true]
    rw [first]
    show (_ || (s.notices.switches[src] && _)) = _
    cases s.notices.marks[src] <;> cases s.notices.switches[src] <;> by_cases h : src = srcPort p <;> simp [h]

end

end Sys2Proof.Machine
end

section
/-! SUPPORT. What a key machine's judgement hands on, how the rounds of the key machines come to rest
  (R17, R78, R111; log
entry 7), and the statement on engagement (O25). -/

namespace Sys2Proof.Machine

section
variable {s t : State} {p : PortId}

/-! ## The bid that a judgement hands on (R17, R111) -/

/-- No bid has been handed on, or that of the port itself, which is engaged and unbarred. -/
def State.bidsBy (p : PortId) (bids : List PortId) (t : State) : Prop :=
  t.bids = bids ∨ t.bids = bids ++ [p] ∧ (t.port p).engaged = true ∧ (t.port p).bar = false

theorem bidsBy_judgeEngagement (s : State) (p : PortId) : (s.judgeEngagement false p).bidsBy p s.bids := by
  unfold State.judgeEngagement
  dsimp only
  split
  · rw [beginEngagement_eq]
    cases bar : (s.port p).bar with
    | true => exact .inl rfl
    | false => exact .inr ⟨rfl, congrArg Port.engaged (port_portReported_same s p _),
        congrArg Port.bar (port_portReported_same s p _)⟩
  · split
    · exact .inl (endEngagement_bids s p)
    · exact .inl rfl

theorem bidsBy_setKey (s : State) (p : PortId) (k : KeyState) (timing keyUp : Nat) :
    (s.setKey p k timing keyUp).bidsBy p s.bids := .inl (setKey_bids ..)

theorem bidsBy_enterKeyed (s : State) (p : PortId) : (s.enterKeyed p).bidsBy p s.bids := by
  rw [← setKey_bids s p .keyed 0 0]; exact bidsBy_judgeEngagement _ p

theorem bidsBy_enterIdle (s : State) (p : PortId) : (s.enterIdle false p).bidsBy p s.bids := by
  rw [← setKey_bids s p .idle 0 0]; exact bidsBy_judgeEngagement _ p

theorem bidsBy_enterBlank (s : State) (p : PortId) : (s.enterBlank false p).bidsBy p s.bids := by
  unfold State.enterBlank
  dsimp only
  split
  · rw [← setKey_bids s p .blank 0 0]; exact bidsBy_enterIdle _ p
  · exact bidsBy_setKey ..

theorem bidsBy_enterHang (s : State) (p : PortId) : (s.enterHang p).bidsBy p s.bids := by
  unfold State.enterHang
  dsimp only
  split
  · exact bidsBy_enterBlank s p
  · exact bidsBy_setKey ..

theorem bidsBy_enterDrain (s : State) (p : PortId) : (s.enterDrain p).bidsBy p s.bids := by
  unfold State.enterDrain
  dsimp only
  split
  · rw [← setKey_bids s p .drain 0 (s.port p).keyUp]; exact bidsBy_enterHang _ p
  · exact bidsBy_setKey ..

theorem bidsBy_judgeKey (s : State) (p : PortId) : (s.judgeKey p).bidsBy p s.bids := by
  unfold State.judgeKey
  dsimp only
  split
  · split
    · split
      · split
        · exact bidsBy_enterKeyed s p
        · exact bidsBy_setKey ..
      · exact .inl rfl
    · split
      · split
        · exact bidsBy_enterKeyed s p
        · exact .inl rfl
      · exact bidsBy_setKey ..
    · split
      · exact .inl rfl
      · exact bidsBy_enterDrain s p
    · split
      · exact bidsBy_setKey ..
      · exact .inl rfl
    · split
      · exact bidsBy_setKey ..
      · exact .inl rfl
    · split
      · exact bidsBy_enterKeyed s p
      · exact .inl rfl
    · exact .inl rfl
  · exact .inl rfl

/-! ## The rounds (log entry 7) -/

theorem actAll_bids (h : s.bids = []) : s.actAll.bids = [] :=
  KeptByOperations.foldl (P := fun s => s.bids = []) (f := State.actKey) (fun _ _ _ => takeHandedBids_bids _) allPorts h

theorem quiet_of_allResting (bids : s.bids = []) (h : allPorts.all s.keyResting = true) : s.quiet :=
  ⟨bids, fun p => (keyResting_iff s p).mp (List.all_eq_true.mp h p (mem_allPorts p))⟩

theorem actAll_of_quiet (h : s.quiet) : s.actAll = s := foldl_actKey_of_atRest allPorts h.1 fun p _ => h.2 p

theorem iterate_actAll_of_quiet (h : s.quiet) (k : Nat) : State.actAll^[k] s = s := by
  induction k with
  | zero => rfl
  | succ k ih => rw [Function.iterate_succ_apply, actAll_of_quiet h, ih]

/-- Rounds that come to rest within the bound are all that is handed on. -/
theorem resolve_eq_iterate (bids : s.bids = []) {k n : Nat} (within : k ≤ n) (quiet : (State.actAll^[k] s).quiet) :
    State.resolve n s = State.actAll^[k] s := by
  induction n generalizing s k with
  | zero => obtain rfl := Nat.le_zero.mp within; rfl
  | succ n ih =>
    rw [State.resolve]
    split
    · next resting => exact (iterate_actAll_of_quiet (quiet_of_allResting bids resting) k).symm
    · next acts =>
      cases k with
      | zero => exact absurd (allResting_of_quiet quiet) acts
      | succ k =>
        rw [Function.iterate_succ_apply] at quiet ⊢
        exact ih (actAll_bids bids) (Nat.le_of_succ_le_succ within) quiet

theorem handOn_of_noBids (h : s.bids = []) : s.handOn = State.resolve Config.cascadeFuel s := by
  rw [State.handOn, takeHandedBids_of_nil h]

/-! ## A single bid -/

theorem takeBid_of_placeless {b : BridgeId} (engaged : (s.port p).engaged = true) (bar : (s.port p).bar = false)
    (member : s.memberOf p = some b) (place : (s.bridge b).hasPlace p = false) : s.takeBid p = s.bid b (.port p) := by
  simp [State.takeBid, member, engaged, bar, place]

theorem takeBid_of_none (member : s.memberOf p = none) : s.takeBid p = s := by simp [State.takeBid, member]

theorem mayEngage_iff (q : Port) : q.mayEngage = true ↔ q.lifecycle = .active ∧ q.qualified = true
    ∧ q.key ≠ .keyed ∧ q.key ≠ .drain ∧ q.key ≠ .hang ∧ q.key ≠ .blank
    ∧ (q.key = .cool → q.setup.blank ≤ q.timing) := by
  unfold Port.mayEngage Port.blanked
  cases q.key <;> simp [and_comm, and_assoc]

end

theorem pairwise_allPorts : allPorts.Pairwise (· < ·) := by decide

/-- Settles O25: the conditions by their definitions, the beginning and the end by what they report, and what is handed
on by the rounds that come to rest. -/
theorem engagementBeginsAndEnds : Obligations.EngagementBeginsAndEnds := by
  refine ⟨fun q => ?_, ⟨pairwise_allPorts, mem_allPorts⟩, fun s => ⟨handOn_bids s, handOn_backdrop s, handOn_of_quiet⟩,
    ?_, ?_, ?_, ?_⟩
  · refine ⟨fun mode => ?_, fun mode => ?_, fun mode => ?_⟩ <;> simp [Port.qualified, mode]
  · rintro s u p b bids engaged bar member place rfl
    have handed : s.takeHandedBids = ({ s with bids := [] } : State).bid b (.port p) := by
      rw [takeHandedBids_of_one bids]; exact takeBid_of_placeless engaged bar member place
    have none_left : (({ s with bids := [] } : State).bid b (.port p)).bids = [] := bid_bids ..
    have eq : s.handOn = (({ s with bids := [] } : State).bid b (.port p)).handOn := by
      rw [State.handOn, handed, handOn_of_noBids none_left]
    exact ⟨eq, fun quiet => eq.trans (handOn_of_quiet quiet)⟩
  · rintro s u p bids rfl
    have by_self := bidsBy_judgeKey s p
    rw [bids] at by_self
    refine ⟨fun none_on => by rw [State.actKey, takeHandedBids_of_nil none_on], fun some_on => ?_⟩
    obtain ⟨one, engaged, bar⟩ := by_self.resolve_left some_on
    have acts : s.actKey p = ({ s.judgeKey p with bids := [] } : State).takeBid p := takeHandedBids_of_one one
    exact ⟨one, engaged, bar, fun member => acts.trans (takeBid_of_none member),
      fun b member place => acts.trans (takeBid_of_placeless engaged bar member place)⟩
  · intro s k round bids within hround quiet
    obtain rfl : round = State.actAll := funext hround
    exact (handOn_of_noBids bids).trans (resolve_eq_iterate bids within quiet)
  · rintro s t p rfl
    refine ⟨mayEngage_iff _, judgeEngagement_of_right, fun off may => ⟨_, rfl, ?_⟩, fun on may => ?_⟩
    · rw [judgeEngagement_of_begins off may, beginEngagement_eq]
      rfl
    · rw [judgeEngagement_of_ends on may]
      refine ⟨by rw [endEngagement_port, if_pos rfl], fun r other => by rw [endEngagement_port, if_neg other],
        endEngagement_bids s p, ?_, endEngagement_backdrop s p, endEngagement_frame s p, endEngagement_marks on,
        fun b other => by rw [endEngagement_bridge, if_neg other], fun b member => ?_⟩
      · rw [endEngagement_frame]
      · rw [endEngagement_bridge, if_pos member, State.leavePlace]
        refine ⟨fun held => by rw [if_pos held], fun free => ?_⟩
        rw [if_neg (by rw [free]; exact Bool.false_ne_true), State.bridge_updateBridge_same]

end Sys2Proof.Machine
end

section
/-! SUPPORT. The cut of a holder by its talk timer (R88), rounding and saturation
  (R132, R133), and the directory's part of
an accepted report (R27). -/

namespace Sys2Proof.Machine

/-! ## The talk timer (R87, R88) -/

section
variable {s : State} {b : BridgeId} {p : PortId}

/-- The bar of a cut holder, where it is engaged, and nothing else. -/
theorem barHolder_eq (s : State) (p : PortId) : s.barHolder (.port p)
    = if (s.port p).engaged then s.portReported p { s.port p with bar := true } else s := by
  unfold State.barHolder
  dsimp only
  rw [updatePort_eq rfl]

theorem barHolder_port (s : State) (p r : PortId) : (s.barHolder (.port p)).port r
    = if r = p then (if (s.port p).engaged then { s.port p with bar := true } else s.port p) else s.port r := by
  rw [barHolder_eq]
  split
  · rw [port_portReported]
  · split
    · next h => rw [h]
    · rfl

/-- A bar is no input of any priority (R75). -/
theorem barHolder_effPriority (s : State) (p : PortId) : (s.barHolder (.port p)).effPriority = s.effPriority := by
  rw [barHolder_eq]
  split
  · exact funext (effPriority_portReported rfl rfl rfl)
  · rfl

theorem barHolder_rest (s : State) (p : PortId) : (s.barHolder (.port p)).bridges = s.bridges
    ∧ (s.barHolder (.port p)).plans = s.plans ∧ (s.barHolder (.port p)).bidCounter = s.bidCounter := by
  rw [barHolder_eq]
  split <;> exact ⟨rfl, rfl, rfl⟩

theorem record_of_plans {s t : State} (h : t.plans = s.plans) (b : BridgeId) : t.record b = s.record b := by
  simp only [State.record, h]

/-- The release of a cut holder's bridge is that of the state before the bar. -/
theorem cutPlace_bridge (s : State) (b c : BridgeId) (p : PortId) :
    (s.cutPlace b (.port p)).bridge c = if c = b then (s.release b).bridge b else s.bridge c := by
  obtain ⟨bridges, plans, -⟩ := barHolder_rest s p
  by_cases h : c = b
  · subst h
    rw [if_pos rfl]
    exact release_bridge_congr (bridge_of_bridges bridges c) (barHolder_effPriority s p) (record_of_plans plans c)
  · rw [if_neg h]
    exact ((actsOn_release _ b).other c h).trans (bridge_of_bridges bridges c)

theorem timerLast_iff {r : Bridge} : r.timerLast = true
    ↔ ∃ (h : Holder) (n : Nat), r.holder = some h ∧ h.timer = some n ∧ n ≤ 1 := by
  simp only [Bridge.timerLast, Option.any_eq_true, decide_eq_true_eq]
  constructor
  · rintro ⟨h, held, n, timer, last⟩; exact ⟨h, n, held, timer, last⟩
  · rintro ⟨h, n, held, timer, last⟩; exact ⟨h, held, n, timer, last⟩

theorem exec_talkTimerExpiry {h : Holder} (out : s.inReset = false) (due : Due.talk b ∈ s.due)
    (held : (s.bridge b).holder = some h) (last : (s.bridge b).timerLast = true) :
    exec (.talkTimerExpiry b) s = .next (State.cut b h.who { s with due := s.due.erase (.talk b) }) := by
  rw [show exec (.talkTimerExpiry b) s = _ from event_of_due (c := fun s => (s.bridge b).timerLast) out due last]
  have held' : (({ s with due := s.due.erase (.talk b) } : State).bridge b).holder = some h := held
  have last' : (({ s with due := s.due.erase (.talk b) } : State).bridge b).timerLast = true := last
  show Host.Outcome.next (State.talkTick b _) = _
  rw [State.talkTick, held']
  dsimp only
  rw [if_pos last']

end

/-- Settles O24: the cut by its steps, and its holder's place by the release without it. -/
theorem talkTimerExpiryCutsTheHolder : Obligations.TalkTimerExpiryCutsTheHolder := by
  rintro s v b p h n out due held who timer last hv
  have bridge (c : BridgeId) : v.bridge c = s.bridge c := by rw [hv]; rfl
  have port (r : PortId) : v.port r = s.port r := by rw [hv]; rfl
  have cutBridge (c : BridgeId) : (((v.cutPlace b (.port p)).raise (srcBridge b) flagTalkTimeout)).bridge c
      = if c = b then (v.release b).bridge b else v.bridge c :=
    (bridge_of_bridges (State.raise_bridges ..) c).trans (cutPlace_bridge v b c p)
  have cutPort (r : PortId) : (((v.cutPlace b (.port p)).raise (srcBridge b) flagTalkTimeout)).port r
      = (v.barHolder (.port p)).port r :=
    (port_of_ports (State.raise_ports ..) r).trans ((actsOn_release _ b).port r)
  have taken : exec (.talkTimerExpiry b) s
      = .next ((v.cutPlace b (.port p)).raise (srcBridge b) flagTalkTimeout).handOn := by
    rw [exec_talkTimerExpiry out due held (timerLast_iff.mpr ⟨h, n, held, timer, last⟩), who, ← hv]
    rfl
  refine ⟨_, _, taken, rfl, ?_, ?_, fun r other => ?_, ?_, fun c other => ?_, ?_, cut_backdrop v b (.port p),
    fun w hw => ?_, fun once => ?_, fun quiet => ?_⟩
  · rw [getLsbD_raise_flags (n := flagTalkTimeout) (by decide)]; simp
  · rw [cutPort, barHolder_port, if_pos rfl, port]
  · rw [cutPort, barHolder_port, if_neg other, port]
  · rw [cutBridge, if_pos rfl]
  · rw [cutBridge, if_neg other, bridge]
  · rw [State.raise_bidCounter, State.cutPlace, (actsOn_release _ b).bidCounter, (barHolder_rest v p).2.2, hv]
  · rw [hw, ← port p, ← barHolder_eq]; rfl
  · rw [cutBridge, if_pos rfl, Bool.eq_false_iff, Ne, hasPlace_release, bridge]
    exact not_waits_of_heldBy (once b) ⟨h, held, who⟩
  · exact handOn_of_quiet quiet

/-! ## Rounding and saturation (R132, R133) -/

/-- Settles O30: division with remainder by 1024, case by case of the remainder in each mode. -/
theorem roundingAndSaturation : Obligations.RoundingAndSaturation := by
  refine ⟨fun v => ?_, fun v => ⟨inSampleRange_saturate v, ?_⟩⟩
  · have nearest : (2 * (1024 * roundDiv .nearestEven v - v)).natAbs ≤ 1024
        ∧ ((2 * (1024 * roundDiv .nearestEven v - v)).natAbs = 1024 → roundDiv .nearestEven v % 2 = 0) := by
      simp only [roundDiv, Config.unity]
      split_ifs <;> omega
    have exactly (mode : Rounding) (q : Int) (h : v = 1024 * q) : roundDiv mode v = q := by
      subst h
      cases mode with
      | nearestEven => simp only [roundDiv, Config.unity]; split_ifs <;> omega
      | floor => simp only [roundDiv, Config.unity]; omega
      | towardZero => simp only [roundDiv, Config.unity]; exact Int.mul_tdiv_cancel_left q (by decide)
    refine ⟨nearest.1, nearest.2, ?_, ?_, fun above => ?_, fun below => ?_, exactly⟩
    · simp only [roundDiv, Config.unity]; omega
    · simp only [roundDiv, Config.unity]; omega
    · simp only [roundDiv, Config.unity]
      rw [Int.tdiv_eq_ediv_of_nonneg above]
      omega
    · simp only [roundDiv, Config.unity]
      have neg := Int.neg_tdiv (-v) 1024
      rw [neg_neg, Int.tdiv_eq_ediv_of_nonneg (by omega : 0 ≤ -v)] at neg
      rw [neg]
      omega
  · simp only [saturate, clips]
    refine ⟨fun low => ?_, fun high => ?_, fun low high => ?_⟩
    · simp [low]
    · have notLow : ¬ v < -32768 := by omega
      simp [high, notLow]
    · have notLow : ¬ v < -32768 := by omega
      have notHigh : ¬ 32767 < v := by omega
      simp [notLow, notHigh]

/-! ## The directory's part of a report (R27, R37, R39, R41) -/

theorem anySourced_eq (s : State) (u : UnitId) :
    s.anySourced u = decide (∃ r : PortId, (s.port r).emergency = .active (some u)) := by
  rw [Bool.eq_iff_iff, State.anySourced, List.any_eq_true, decide_eq_true_eq]
  constructor
  · rintro ⟨r, -, h⟩; exact ⟨r, by simpa [State.sourcedFrom] using h⟩
  · rintro ⟨r, h⟩; exact ⟨r, mem_allPorts r, by simpa [State.sourcedFrom] using h⟩

/-- Settles O51: the three branches of the directory's report. -/
theorem reportsReachTheDirectoryFirst : Obligations.ReportsReachTheDirectoryFirst := by
  rintro s t p u rfl
  refine ⟨fun w e found there => ⟨_, ?_, rfl⟩, fun w missing room => ⟨_, _, ?_, rfl, rfl⟩, fun missing full => ?_⟩
  · simp only [State.dirReport, found, Directory.modify_of_find found, there, Option.map_some]
  · simp only [State.dirReport, missing, room, anySourced_eq]
  · simp only [State.dirReport, missing, full]

end Sys2Proof.Machine
end

section
/-! SUPPORT. Entry to ACTIVE and departure (R6, R7): what each writes and hands on, and the statements on PORT_START,
PORT_STOP and presence (O8, O9, O11). -/

namespace Sys2Proof.Machine

section
variable {s t u : State} {p r : PortId} {q : Port}

/-! ## Keying one port leaves the others (R102 to R109) -/

/-- Every port but one stands. -/
def State.onlyPort (p : PortId) (s t : State) : Prop := ∀ r : PortId, r ≠ p → t.port r = s.port r

theorem onlyPort_refl (p : PortId) (s : State) : s.onlyPort p s := fun _ _ => rfl

theorem State.onlyPort.trans (h : s.onlyPort p t) (h' : t.onlyPort p u) : s.onlyPort p u :=
  fun r other => (h' r other).trans (h r other)

theorem onlyPort_updatePort (s : State) (p : PortId) (f : Port → Port) : s.onlyPort p (s.updatePort p f) :=
  fun r other => by rw [port_updatePort, if_neg other]

theorem onlyPort_setKey (s : State) (p : PortId) (k : KeyState) (timing keyUp : Nat) :
    s.onlyPort p (s.setKey p k timing keyUp) := onlyPort_updatePort s p _

theorem onlyPort_judgeEngagement (s : State) (barred : Bool) (p : PortId) :
    s.onlyPort p (s.judgeEngagement barred p) := by
  unfold State.judgeEngagement
  dsimp only
  split
  · rw [beginEngagement_eq]
    exact fun r other => (port_portReported s p r _).trans (if_neg other)
  · split
    · exact fun r other => by rw [endEngagement_port, if_neg other]
    · exact onlyPort_refl p s

theorem onlyPort_enterKeyed (s : State) (p : PortId) : s.onlyPort p (s.enterKeyed p) :=
  (onlyPort_setKey s p _ _ _).trans (onlyPort_judgeEngagement _ false p)

theorem onlyPort_enterIdle (s : State) (barred : Bool) (p : PortId) : s.onlyPort p (s.enterIdle barred p) :=
  (onlyPort_setKey s p _ _ _).trans (onlyPort_judgeEngagement _ barred p)

theorem onlyPort_enterBlank (s : State) (barred : Bool) (p : PortId) : s.onlyPort p (s.enterBlank barred p) := by
  unfold State.enterBlank
  dsimp only
  split
  · exact (onlyPort_setKey s p _ _ _).trans (onlyPort_enterIdle _ barred p)
  · exact onlyPort_setKey s p _ _ _

theorem onlyPort_enterHang (s : State) (p : PortId) : s.onlyPort p (s.enterHang p) := by
  unfold State.enterHang
  dsimp only
  split
  · exact onlyPort_enterBlank s false p
  · exact onlyPort_setKey s p _ _ _

theorem onlyPort_enterDrain (s : State) (p : PortId) : s.onlyPort p (s.enterDrain p) := by
  unfold State.enterDrain
  dsimp only
  split
  · exact (onlyPort_setKey s p _ _ _).trans (onlyPort_enterHang _ p)
  · exact onlyPort_setKey s p _ _ _

theorem onlyPort_judgeKey (s : State) (p : PortId) : s.onlyPort p (s.judgeKey p) := by
  unfold State.judgeKey
  dsimp only
  split
  · split
    · split
      · split
        · exact onlyPort_enterKeyed s p
        · exact onlyPort_setKey s p _ _ _
      · exact onlyPort_refl p s
    · split
      · split
        · exact onlyPort_enterKeyed s p
        · exact onlyPort_refl p s
      · exact onlyPort_setKey s p _ _ _
    · split
      · exact onlyPort_refl p s
      · exact onlyPort_enterDrain s p
    · split
      · exact onlyPort_setKey s p _ _ _
      · exact onlyPort_refl p s
    · split
      · exact onlyPort_setKey s p _ _ _
      · exact onlyPort_refl p s
    · split
      · exact onlyPort_enterKeyed s p
      · exact onlyPort_refl p s
    · exact onlyPort_refl p s
  · exact onlyPort_refl p s

/-- A port that is not ACTIVE stands through whatever is handed on (R96). -/
theorem handOn_port_of_inactive (inactive : q.lifecycle ≠ .active) (h : s.port p = q) : s.handOn.port p = q := by
  have acted (t : State) (r : PortId) (ht : t.port p = q) : (t.actKey r).port p = q := by
    rw [State.actKey, port_of_ports (takeHandedBids_ports _)]
    by_cases own : r = p
    · subst own
      rw [judgeKey_of_inactive (by rw [ht]; exact inactive), ht]
    · rw [onlyPort_judgeKey t r p (Ne.symm own), ht]
  have resolved (n : Nat) (t : State) (ht : t.port p = q) : (State.resolve n t).port p = q := by
    induction n generalizing t with
    | zero => exact ht
    | succ n ih =>
      rw [State.resolve]
      split
      · exact ht
      · exact ih _ (KeptByOperations.foldl (P := fun t => t.port p = q) (f := State.actKey) acted allPorts ht)
  exact resolved _ _ (by rw [port_of_ports (takeHandedBids_ports _), h])

/-! ## Entry to ACTIVE (R6, R23) -/

/-- A port that has entered ACTIVE, its key machine in IDLE; `low` is the level last seen of its data line. -/
def Port.enteredActive (high : Bool) (q : Port) : Port := { q with
  lifecycle := .active
  carrier := false, carrierCount := 0, vox := false, quietCount := 0
  engaged := false, bar := false
  key := .idle, timing := 0, keyUp := 0
  receiver := if q.setup.dataLine then .hunting else .idle
  lineWait := q.setup.dataLine && !high }

theorem activate_eq_handOn (s : State) (p : PortId) : s.activate p
    = (s.portReported p ((s.port p).enteredActive (s.dataLines.getLsbD p))).handOn := by
  rw [activate_eq]
  exact congrArg State.handOn (updatePort_eq rfl)

theorem backdrop_setPort_congr {q q' : Port} (h : q.backdrop = q'.backdrop) :
    (s.setPort p q).backdrop = (s.setPort p q').backdrop := by
  simp [State.backdrop, State.setPort, Vector.map_set, h]

/-- A port that has just become ACTIVE in IDLE, where nothing else is about to move, is keyed at once under demand and
is
all that changes (R102). -/
theorem handOn_enteredActive (quiet : s.quiet) (inactive : (s.port p).lifecycle ≠ .active) (high : Bool) :
    (s.portReported p ((s.port p).enteredActive high)).handOn = s.portReported p
      { (s.port p).enteredActive high with key := if s.demand p then .keyed else .idle } := by
  have others (q : Port) (r : PortId) (other : r ≠ p) : (s.portReported p q).keyAtRest r :=
    keyAtRest_congr (s := s) (by rw [port_portReported, if_neg other]) rfl rfl (quiet.2 r)
  have atRest (q : Port) (rest : (s.portReported p q).keyAtRest p) : (s.portReported p q).quiet :=
    ⟨quiet.1, fun r => if h : r = p then h ▸ rest else others q r h⟩
  have keyed_changed (q : Port) (h : q.lifecycle = .active) : (s.port p).sameReported q = false := by
    rw [Bool.eq_false_iff, Ne, Port.sameReported_iff, h]
    exact fun same => inactive same.1
  cases demand : s.demand p with
  | false =>
    refine handOn_of_quiet (atRest _ ?_)
    intro _
    rw [port_portReported_same]
    exact demand
  | true =>
    refine handOn_of_mover quiet.1 (others _) ?_ (atRest _ ?_)
    · have entered := port_portReported_same s p ((s.port p).enteredActive high)
      rw [judgeKey_of_keyedNow (s := s.portReported p ((s.port p).enteredActive high)) (by rw [entered]; rfl)
        (by rw [entered]; exact .inl rfl) demand (by rw [entered]; rfl), entered]
      exact portReported_portReported (keyed_changed _ rfl)
    · intro _
      rw [port_portReported_same]
      exact demand

/-! ## Departure (R7, R120) -/

/-- A port that has left, at rest (R5, R7). -/
def Port.left (life : Lifecycle) (q : Port) : Port := { q with
  lifecycle := life, engaged := false, bar := false, unit := none, pendingId := none
  receiver := .idle, lineWait := false, carrier := false, carrierCount := 0, vox := false
  quietCount := 0, key := .idle, timing := 0, keyUp := 0 }

/-- A departure changes the lifecycle first, then ends the engagement, then takes the rest of the port to rest. -/
theorem departed_eq {life : Lifecycle} (inactive : life ≠ .active) (s : State) (p : PortId) : s.departed p life
    = ((s.portReported p { s.port p with lifecycle := life }).judgeEngagement false p).portReported p
        ((s.port p).left life) := by
  have start : (s.updatePort p fun q => { q with lifecycle := life })
      = s.portReported p { s.port p with lifecycle := life } := updatePort_eq rfl
  have may : ((s.portReported p { s.port p with lifecycle := life }).port p).mayEngage = false := by
    rw [port_portReported_same]; simp [Port.mayEngage, inactive]
  unfold State.departed
  dsimp only
  rw [start]
  split
  · next on =>
    rw [judgeEngagement_of_ends on may, updatePort_eq (by rfl), endEngagement_port, if_pos rfl, port_portReported_same]
    rfl
  · next off =>
    have off' : (s.port p).engaged = false := by
      rw [port_portReported_same] at off; exact Bool.eq_false_of_not_eq_true off
    rw [judgeEngagement_of_right (by rw [may, port_portReported_same]; exact off'), updatePort_eq (by rfl),
      port_portReported_same]
    exact congrArg (fun q => State.portReported p q _) (by simp [Port.left, Port.dropped, off'])

theorem departed_port {life : Lifecycle} (inactive : life ≠ .active) (s : State) (p : PortId) :
    (s.depart p life).port p = (s.port p).left life := by
  rw [depart_eq]
  exact handOn_port_of_inactive inactive (by rw [departed_eq inactive, port_portReported_same])

theorem depart_backdrop {life : Lifecycle} (inactive : life ≠ .active) (s : State) (p : PortId) :
    (s.depart p life).backdrop = (s.setPort p ((s.port p).left life)).backdrop := by
  have step (v : State) (q q' : Port) (h : v.backdrop = (s.setPort p q).backdrop) :
      (v.portReported p q').backdrop = (s.setPort p q').backdrop := by
    have again := congrArg (fun x : State => (x.setPort p q'.backdrop).backdrop) h
    have back (x : State) : (x.backdrop.setPort p q'.backdrop).backdrop = (x.setPort p q').backdrop := by
      simp only [State.backdrop, State.setPort, Vector.map_set, Vector.map_map]
      rfl
    have both := (back v).symm.trans (again.trans (back _))
    rwa [setPort_setPort] at both
  rw [depart_eq, handOn_backdrop, departed_eq inactive]
  refine step _ { s.port p with lifecycle := life } _ ?_
  rw [judgeEngagement_backdrop]
  rfl

/-- A departed port has no place in a bridge, where the places were sound (R71). -/
theorem unplaced_of_departed {life : Lifecycle} (inactive : life ≠ .active) (once : s.namedOnce) (held : s.placesHeld)
    (plans : s.planRule) (b : BridgeId) : ((s.depart p life).bridge b).hasPlace p = false := by
  have seated : s.seated fun _ => True := ⟨plans, once, held, fun _ _ out => absurd trivial out⟩
  have after : (s.depart p life).seated fun _ => True := by
    rw [depart_eq]; exact (seated_keying _).handOn (seated_departed p life seated)
  exact unplaced_of_silent after (by rw [departed_port inactive]; rfl) b

/-- Where nothing else is about to move, the departure of a port that was not engaged is all that changes. -/
theorem depart_of_quiet {life : Lifecycle} (inactive : life ≠ .active) (moves : (s.port p).lifecycle ≠ life)
    (off : (s.port p).engaged = false) (quiet : s.quiet) :
    s.depart p life = s.portReported p ((s.port p).left life) := by
  have right : ((s.portReported p { s.port p with lifecycle := life }).port p).engaged
      = ((s.portReported p { s.port p with lifecycle := life }).port p).mayEngage := by
    rw [port_portReported_same]; simp [Port.mayEngage, inactive, off]
  have changed : (s.port p).sameReported ((s.port p).left life) = false := by
    rw [Bool.eq_false_iff, Ne, Port.sameReported_iff]; exact fun same => moves same.1
  rw [depart_eq, departed_eq inactive, judgeEngagement_of_right right, portReported_portReported changed]
  refine handOn_of_quiet ⟨quiet.1, fun r => ?_⟩
  by_cases h : r = p
  · subst h
    intro active
    rw [port_portReported_same] at active
    exact absurd active inactive
  · exact keyAtRest_congr (s := s) (by rw [port_portReported, if_neg h]) rfl rfl (quiet.2 r)

end

end Sys2Proof.Machine
end

section
/-! SUPPORT. PORT_START, PORT_STOP and a taken presence change, by what entry to ACTIVE and departure do
  (O8, O9, O11). -/

namespace Sys2Proof.Machine

section
variable {s : State} {p : PortId}

/-! ## PORT_START (R8) -/

theorem start_of_noPort {n : Byte} (h : portOf n = none) (s : State) : start n s = s.refuse resRefusedRange := by
  unfold start; rw [h]

theorem start_of_started (h : (s.port p).lifecycle ≠ .off) : start (natByte p.val) s = s.answerOk [] := by
  simp [start, h, State.answerOk]

theorem start_of_off (h : (s.port p).lifecycle = .off) : start (natByte p.val) s = (s.startPort p).answerOk [] := by
  simp [start, h, State.answerOk]

/-- An OFF port without its radio starts in LOST (R8). -/
theorem startPort_of_absent (absent : (s.port p).present = false) : s.startPort p
    = s.portReported p { s.port p with manualKey := false, lifecycle := .lost } := by
  have released : (s.port p).sameReported { s.port p with manualKey := false } = true :=
    Port.sameReported_iff.mpr ⟨rfl, rfl, rfl, rfl, rfl⟩
  unfold State.startPort
  dsimp only
  have away : ¬ ((s.setPort p { s.port p with manualKey := false }).port p).present = true := by
    rw [State.port_setPort_same]; exact Bool.eq_false_iff.mp absent
  rw [if_neg away, updatePort_eq (by rfl), State.port_setPort_same, portReported_setPort released]

/-- An OFF port with its radio starts in ACTIVE, and its entry is handed on (R6, R8). -/
theorem startPort_of_present (present : (s.port p).present = true) : s.startPort p
    = (s.portReported p ({ s.port p with manualKey := false }.enteredActive (s.dataLines.getLsbD p))).handOn := by
  have released : (s.port p).sameReported { s.port p with manualKey := false } = true :=
    Port.sameReported_iff.mpr ⟨rfl, rfl, rfl, rfl, rfl⟩
  unfold State.startPort
  dsimp only
  have here : ((s.setPort p { s.port p with manualKey := false }).port p).present = true := by
    rw [State.port_setPort_same]; exact present
  rw [if_pos here, activate_eq_handOn, State.port_setPort_same, portReported_setPort released]
  rfl

theorem handOn_link (s : State) : s.handOn.link = s.link := by
  have backdrop := congrArg State.link (handOn_backdrop s)
  exact backdrop

theorem port_answered (s : State) (kind : Byte) (pl : List Byte) (p : PortId) :
    (s.answered kind pl).port p = s.port p := rfl

theorem bridge_answered (s : State) (kind : Byte) (pl : List Byte) (b : BridgeId) :
    (s.answered kind pl).bridge b = s.bridge b := rfl

/-- An answer is no part of what arbitration and keying may change. -/
theorem answered_backdrop_congr {v w : State} {kind : Byte} {pl : List Byte} (h : v.backdrop = w.backdrop) :
    (v.answered kind pl).backdrop = (w.answered kind pl).backdrop := congrArg (State.answered kind pl) h

/-- Settles O8: the three outcomes of a start, and the entry to ACTIVE by what it hands on. -/
theorem portStartEntersActiveOrLost : Obligations.PortStartEntersActiveOrLost := by
  intro s h
  refine ⟨fun n hn => request_unchanged (a := .bare _) h 0x04 (by simp [Config.maxPayload])
    (start_of_noPort (portOf_eq_none hn) _), fun p => ⟨fun started => ?_, fun off absent => ?_, fun off present => ?_⟩⟩
  · exact request_unchanged (a := .ok []) h 0x04 (by simp [Config.maxPayload])
      (start_of_started (s := s.accepting) started)
  · refine request_of_withLink (a := .ok []) h 0x04 (by simp [Config.maxPayload]) (fun l => ?_) rfl
    rw [start_of_off (s := s.withLink l) off, startPort_of_absent (s := s.withLink l) absent]
    rfl
  · let q0 : Port := { s.port p with manualKey := false }.enteredActive (s.dataLines.getLsbD p)
    have taken : exec (.portStart (natByte p.val)) s = .next ((s.portReported p q0).handOn.answered 0x04 [0x00]) := by
      refine request_of_withLink (a := .ok []) h 0x04 (by simp [Config.maxPayload]) (fun l => ?_) (handOn_link _)
      rw [start_of_off (s := s.withLink l) off, startPort_of_present (s := s.withLink l) present,
        ← handOn_withLink]
      rfl
    refine ⟨_, _, taken, rfl, ?_, rfl, fun quiet => ?_⟩
    · exact answered_backdrop_congr ((handOn_backdrop _).trans (backdrop_setPort_congr rfl))
    · refine congrArg (State.answered _ _) ?_
      have inactive : (s.port p).lifecycle ≠ .active := by rw [off]; nofun
      have released : (s.port p).sameReported { s.port p with manualKey := false } = true :=
        Port.sameReported_iff.mpr ⟨rfl, rfl, rfl, rfl, rfl⟩
      have start := handOn_enteredActive (s := s.setPort p { s.port p with manualKey := false })
        ⟨quiet.1, fun r active => ?_⟩ (by rw [State.port_setPort_same]; exact inactive) (s.dataLines.getLsbD p)
      · rw [State.port_setPort_same, portReported_setPort released, portReported_setPort released] at start
        exact start
      · by_cases own : r = p
        · subst own
          rw [State.port_setPort_same] at active
          exact absurd active inactive
        · exact keyAtRest_congr (s := s) (port_setPort s p r _ |>.trans (if_neg own)) rfl rfl (quiet.2 r) active

/-! ## PORT_STOP (R9) -/

theorem stop_of_noPort {n : Byte} (h : portOf n = none) (s : State) : stop n s = s.refuse resRefusedRange := by
  unfold stop; rw [h]

theorem stop_of_off (h : (s.port p).lifecycle = .off) : stop (natByte p.val) s = s.answerOk [] := by
  simp [stop, h, State.answerOk]

theorem stop_of_started (h : (s.port p).lifecycle ≠ .off) :
    stop (natByte p.val) s = (s.depart p .off).answerOk [] := by
  simp [stop, h, State.answerOk]

/-- A departure reads no link. -/
theorem depart_withLink (s : State) (l : Link) (p : PortId) (life : Lifecycle) :
    (s.withLink l).depart p life = (s.depart p life).withLink l := by
  unfold State.depart
  dsimp only
  rw [updatePort_withLink, port_withLink]
  split <;> simp only [endEngagement_withLink, updatePort_withLink, handOn_withLink]

theorem link_of_backdrop {s t : State} (h : t.backdrop = s.backdrop) : t.link = s.link := by
  have link := congrArg State.link h
  exact link

theorem depart_link {life : Lifecycle} (inactive : life ≠ .active) (s : State) (p : PortId) :
    (s.depart p life).link = s.link := by
  have link := link_of_backdrop (depart_backdrop inactive s p)
  exact link

/-- Settles O9: a refusal, nothing for an OFF port, and the departure of another. -/
theorem portStopDeparts : Obligations.PortStopDeparts := by
  intro s h
  refine ⟨fun n hn => request_unchanged (a := .bare _) h 0x05 (by simp [Config.maxPayload])
    (stop_of_noPort (portOf_eq_none hn) _), fun p => ⟨fun off => ?_, fun started => ?_⟩⟩
  · exact request_unchanged (a := .ok []) h 0x05 (by simp [Config.maxPayload]) (stop_of_off (s := s.accepting) off)
  · have inactive : Lifecycle.off ≠ .active := nofun
    have taken : exec (.portStop (natByte p.val)) s = .next ((s.depart p .off).answered 0x05 [0x00]) := by
      refine request_of_withLink (a := .ok []) h 0x05 (by simp [Config.maxPayload]) (fun l => ?_)
        (depart_link inactive s p)
      rw [stop_of_started (s := s.withLink l) started, depart_withLink]
      rfl
    refine ⟨_, (s.port p).left .off, taken, rfl, (port_answered ..).trans (departed_port inactive s p), ?_,
      fun once held plans b => ?_, fun x hx => ?_, fun off quiet => ?_⟩
    · exact answered_backdrop_congr (depart_backdrop inactive s p)
    · rw [bridge_answered]; exact unplaced_of_departed inactive once held plans b
    · rw [hx, depart_eq, departed_eq inactive]
    · exact congrArg (State.answered _ _) (depart_of_quiet inactive started off quiet)

/-! ## A presence change taken (R10) -/

theorem exec_presenceTaken {u : State} (out : s.inReset = false) (due : Due.presence p ∈ s.due)
    (hu : u = { s with
      due := s.due.erase (.presence p)
      ports := s.ports.set p { s.port p with present := !(s.port p).present, presenceCount := 0 } }) :
    exec (.presenceTaken p) s = .next (match (s.port p).lifecycle, !(s.port p).present with
      | .active, false => u.depart p .lost
      | .lost, true => u.activate p
      | .active, true | .lost, false | .off, _ => u) := by
  rw [show exec (.presenceTaken p) s = _ from event_of_due (c := fun _ => true) out due rfl, hu]
  have there := State.port_setPort_same { s with due := s.due.erase (.presence p) } p
    { s.port p with present := !(s.port p).present, presenceCount := 0 }
  refine congrArg Host.Outcome.next ?_
  show State.takePresence p _ = _
  unfold State.takePresence
  dsimp only
  rw [show State.port ({ s with due := s.due.erase (.presence p) } : State) p = s.port p from rfl, there]
  rfl

/-- Settles O11: the rows of the table, the two that move the lifecycle by a departure and an entry to ACTIVE. -/
theorem presenceTakenMovesTheLifecycle : Obligations.PresenceTakenMovesTheLifecycle := by
  intro s u p out due hu
  have taken := exec_presenceTaken out due hu
  have port : u.port p = { s.port p with present := !(s.port p).present, presenceCount := 0 } := by
    rw [hu]; exact State.port_setPort_same s p _
  refine ⟨fun off => ?_, fun active absent => ?_, fun lost present => ?_, fun active present => ?_,
    fun lost absent => ?_⟩
  · rw [taken, off]
  · rw [taken, active, absent]; rfl
  · rw [taken, lost, present]; rfl
  · have inactive : Lifecycle.lost ≠ .active := nofun
    rw [active, present] at taken
    refine ⟨_, _, taken, rfl, departed_port inactive u p, depart_backdrop inactive u p, fun x hx => ?_,
      fun once held plans b => unplaced_of_departed inactive ?_ ?_ ?_ b⟩
    · rw [hx, depart_eq, departed_eq inactive]; rfl
    all_goals
      have same : s.sameSeats (s.setPort p { s.port p with present := !(s.port p).present, presenceCount := 0 }) :=
        sameSeats_setPort rfl rfl
      have seated : s.seated fun _ => True := ⟨plans, once, held, fun _ _ out => absurd trivial out⟩
      have after := seated_of_sameSeats same seated
      rw [hu]
    · exact after.once
    · exact after.held
    · exact after.plans
  · rw [lost, absent] at taken
    have was_lost : (u.port p).lifecycle = .lost := by rw [port]; exact lost
    have inactive : (u.port p).lifecycle ≠ .active := by rw [was_lost]; nofun
    have lines : u.dataLines = s.dataLines := by rw [hu]
    have setup : (u.port p).setup = (s.port p).setup := by rw [port]
    refine ⟨_, { (u.port p).enteredActive (u.dataLines.getLsbD p) with
      key := if u.demand p then .keyed else .idle }, taken, ?_, ?_, ?_, fun quiet => ?_⟩
    · rw [← setup, ← lines]; rfl
    · exact (congrArg State.backdrop (activate_eq_handOn u p)).trans
        ((handOn_backdrop _).trans (backdrop_setPort_congr rfl))
    · exact activate_eq_handOn u p
    · exact (activate_eq_handOn u p).trans (handOn_enteredActive quiet inactive _)

end

end Sys2Proof.Machine
end

section
/-! SUPPORT. The reads PORT_READ, BRIDGE_READ and DESCRIBE (R4, R93, R191), and the settings of mixer and monitor (R130,
R131, R155). -/

namespace Sys2Proof.Machine

section
variable {s : State}

/-! ## The reads -/

theorem setupBytes_length (q : Setup) : (setupBytes q).length = 24 := rfl

/-- Settles O5: each read answers what it reads and is left as it is. -/
theorem portBridgeAndPartReads : Obligations.PortBridgeAndPartReads := by
  refine ⟨fun q => ⟨setupBytes_length q, rfl⟩, fun s h => ⟨fun n hn => ?_, fun p => ?_, fun n hn => ?_, fun b => ?_,
    ?_⟩⟩
  · exact request_unchanged (act := readPort n) (a := .bare _) h 0x03 (by simp [Config.maxPayload])
      (by simp only [readPort, portOf_eq_none hn]; rfl)
  · exact request_unchanged (act := readPort (natByte p.val)) (a := .ok _) h 0x03 (by simp [Config.maxPayload])
      (by simp only [readPort, portOf_natByte]; rfl)
  · exact request_unchanged (act := readBridge n) (a := .bare _) h 0x0B (by simp [Config.maxPayload])
      (by simp only [readBridge, bridgeOf_eq_none hn]; rfl)
  · exact request_unchanged (act := readBridge (natByte b.val)) (a := .ok _) h 0x0B (by simp [Config.maxPayload])
      (by simp only [readBridge, bridgeOf_natByte]; rfl)
  · exact request_unchanged (act := describe) (a := .ok s.description) h 0x01 (by simp [Config.maxPayload]) rfl

/-! ## MIXER_SETUP (R131) -/

theorem rateOf_eq_some_iff {b : Byte} {r : SampleRate} : rateOf b = some r ↔ rateByte r = b := by
  unfold rateOf
  cases r <;> simp only [rateByte] <;> split_ifs <;> simp <;> bv_omega

theorem roundingOf_eq_some_iff {b : Byte} {r : Rounding} : roundingOf b = some r ↔ roundingByte r = b := by
  unfold roundingOf
  cases r <;> simp only [roundingByte] <;> split_ifs <;> simp <;> bv_omega

theorem rateOf_eq_none {b : Byte} (h : 1 < b.toNat) : rateOf b = none := by
  unfold rateOf
  split_ifs <;> bv_omega

theorem roundingOf_eq_none {b : Byte} (h : 2 < b.toNat) : roundingOf b = none := by
  unfold roundingOf
  split_ifs <;> bv_omega

/-- The mixer that a MIXER_SETUP writes, each numeric field clamped (R131 step 4). -/
def Mixer.setTo (m : Mixer) (f : MixerFields) (rate : SampleRate) (mode : Rounding) : Mixer := { m with
  rate := rate, rounding := mode
  amplitude := clamp 0 16383 f.amplitude.toNat
  p1 := clamp 2 64 f.p1.toNat, p2 := clamp 2 64 f.p2.toNat
  conGain := clamp 0 4095 f.conGain.toNat }

theorem setupMixer_of_unlisted {f : MixerFields} (h : rateOf f.rate = none ∨ roundingOf f.rounding = none) (s : State) :
    setupMixer f s = s.refuse resRefusedRange := by
  unfold setupMixer
  rcases h with h | h <;> rw [h]
  cases rateOf f.rate <;> rfl

section
variable {f : MixerFields} {rate : SampleRate} {mode : Rounding}

theorem setupMixer_of_running (hr : rateByte rate = f.rate) (hm : roundingByte mode = f.rounding)
    (runs : s.mixer.mode = .run) (other : rate ≠ s.mixer.rate) : setupMixer f s = s.refuse resRefusedState := by
  simp [setupMixer, rateOf_eq_some_iff.mpr hr, roundingOf_eq_some_iff.mpr hm, runs, other]

theorem setupMixer_of_taken (hr : rateByte rate = f.rate) (hm : roundingByte mode = f.rounding)
    (h : s.mixer.mode = .halted ∨ rate = s.mixer.rate) :
    setupMixer f s = ({ s with mixer := s.mixer.setTo f rate mode }, some (.bare (okOr (mixerClamped f)))) := by
  have taken : ¬ (s.mixer.mode = .run ∧ rate ≠ s.mixer.rate) := by
    rintro ⟨runs, other⟩
    rcases h with h | h
    · rw [runs] at h; cases h
    · exact other h
  simp [setupMixer, rateOf_eq_some_iff.mpr hr, roundingOf_eq_some_iff.mpr hm, taken, Mixer.setTo]

/-- No numeric field is clamped exactly where the mixer holds what the request carries. -/
theorem mixerClamped_eq_false_iff (m : Mixer) : mixerClamped f = false ↔
    (m.setTo f rate mode).amplitude = f.amplitude.toNat
    ∧ (m.setTo f rate mode).p1 = f.p1.toNat ∧ (m.setTo f rate mode).p2 = f.p2.toNat
    ∧ (m.setTo f rate mode).conGain = f.conGain.toNat := by
  simp only [mixerClamped, Mixer.setTo, clamp, Bool.or_eq_false_iff, decide_eq_false_iff_not]
  omega

end

/-! ## CONSOLE_MONITOR (R155) -/

theorem anyAbove_eq_false_iff {gains : Vector Half 8} :
    (gains.toList.any fun g => 4095 < g.toNat) = false ↔ ∀ b : BridgeId, gains[b].toNat ≤ 4095 := by
  rw [List.any_eq_false]
  constructor
  · intro h b
    have := h gains[b] (by simp)
    simpa using this
  · intro h g hg
    obtain ⟨i, hi, rfl⟩ := List.mem_iff_getElem.mp hg
    have := h ⟨i, by simpa using hi⟩
    simpa using this

theorem monitor_of_halted (h : s.mixer.mode = .halted) (mask : BridgeSet) (gains : Vector Half 8) :
    monitor mask gains s = s.refuse resRefusedState := by simp [monitor, h]

theorem monitor_of_running (h : s.mixer.mode = .run) (mask : BridgeSet) (gains : Vector Half 8) :
    monitor mask gains s = ({ s with console := { s.console with
        monitorMask := mask, monitorGains := gains.map fun g => clamp 0 4095 g.toNat } },
      some (.bare (okOr (gains.toList.any fun g => 4095 < g.toNat)))) := by simp [monitor, h]

theorem gainBytes_length (gains : Vector Half 8) : (gainBytes gains).length = 16 := by
  simp [gainBytes, halfBytes, List.length_flatMap]

/-- OK and CLAMPED, told apart (R186). -/
theorem okOr_cases {clamped : Bool} {P : Prop} (h : clamped = false ↔ P) :
    okOr clamped = 0x00 ∧ P ∨ okOr clamped = 0x01 ∧ ¬ P := by
  cases clamped with
  | false => exact .inl ⟨rfl, h.mp rfl⟩
  | true => exact .inr ⟨rfl, fun p => by cases h.mpr p⟩

/-- Settles O36: each refusal by its step, and what is written by the clamps of its fields. -/
theorem mixerAndMonitorSettings : Obligations.MixerAndMonitorSettings := by
  intro s h
  refine ⟨fun f unlisted => ?_, fun f rate mode hr hm => ⟨fun runs other => ?_, fun taken => ?_⟩, fun runs => ?_,
    fun halted => ⟨_, rfl, ?_⟩, fun mask gains halted => ?_, fun mask gains runs => ?_⟩
  · exact request_unchanged (act := setupMixer f) (a := .bare _) h 0x18
      (by simp [mixerFieldBytes, Config.maxPayload, halfBytes]) (setupMixer_of_unlisted
        (unlisted.imp rateOf_eq_none roundingOf_eq_none) _)
  · exact request_unchanged (act := setupMixer f) (a := .bare _) h 0x18
      (by simp [mixerFieldBytes, Config.maxPayload, halfBytes]) (setupMixer_of_running
        (s := s.accepting) hr hm runs other)
  · refine ⟨okOr (mixerClamped f), s.mixer.setTo f rate mode, ?_, ?_, okOr_cases (mixerClamped_eq_false_iff s.mixer)⟩
    · refine request_of_withLink (act := setupMixer f) (a := .bare _) h 0x18
        (by simp [mixerFieldBytes, Config.maxPayload, halfBytes]) (fun l => ?_) rfl
      rw [setupMixer_of_taken (s := s.withLink l) hr hm taken]
      rfl
    · simp only [Mixer.setTo, clamp, Nat.zero_max, Nat.min_comm]
  · exact request_unchanged (act := run) (a := .ok []) h 0x1A (by simp [Config.maxPayload])
      (by unfold run; rw [show s.accepting.mixer.mode = _ from runs]; rfl)
  · refine request_of_withLink (act := run) (a := .ok []) h 0x1A (by simp [Config.maxPayload]) (fun l => ?_) rfl
    unfold run
    rw [show (s.withLink l).mixer.mode = _ from halted]
    rfl
  · exact request_unchanged (act := monitor mask gains) (a := .bare _) h 0x17
      (by simp [Config.maxPayload, gainBytes_length]) (monitor_of_halted (s := s.accepting) halted mask gains)
  · refine ⟨{ s.console with monitorMask := mask, monitorGains := gains.map fun g => clamp 0 4095 g.toNat },
      okOr (gains.toList.any fun g => 4095 < g.toNat), ?_, rfl, rfl, fun b => ?_, ?_⟩
    · refine request_of_withLink (act := monitor mask gains) (a := .bare _) h 0x17
        (by simp [Config.maxPayload, gainBytes_length]) (fun l => ?_) rfl
      rw [monitor_of_running (s := s.withLink l) runs]
      rfl
    · simp [clamp_zero]
    · have told := okOr_cases (anyAbove_eq_false_iff (gains := gains))
      simpa only [not_forall, Nat.not_le] using told

end

end Sys2Proof.Machine
end

section
/-! SUPPORT. The payloads of the four kinds of notice (R192, section 11.7): the bytes of numbers, flags, holders, stack
entries and queue entries, and where they stand. -/

namespace Sys2Proof.Machine

section
variable {s : State} {α : Type}

/-! ## Numbers in bytes (R189) -/

theorem natByte_toNat (n : Nat) : (natByte n).toNat = n % 256 := by simp [natByte]

theorem natHalf_eq (n : Nat) : natHalf n = [natByte (n / 256), natByte n] := by
  simp only [natHalf, halfBytes, natByte, List.cons.injEq, and_true]
  constructor <;> apply BitVec.eq_of_toNat_eq <;>
    simp only [BitVec.extractLsb'_toNat, BitVec.toNat_ofNat, Nat.shiftRight_eq_div_pow] <;> omega

theorem stampBytes_ofNat (n : Nat) : stampBytes (BitVec.ofNat 32 n) = natHalf (n / 65536) ++ natHalf n := by
  simp only [natHalf_eq, stampBytes, natByte, List.cons_append, List.nil_append, List.cons.injEq, and_true]
  refine ⟨?_, ?_, ?_, ?_⟩ <;> apply BitVec.eq_of_toNat_eq <;>
    simp only [BitVec.extractLsb'_toNat, BitVec.toNat_ofNat, Nat.shiftRight_eq_div_pow] <;> omega

theorem half_of_bytes (w : Half) : (w.extractLsb' 8 8 ++ w.extractLsb' 0 8 : Half) = w := by
  ext i hi
  simp only [BitVec.getElem_append, BitVec.getElem_extractLsb']
  split
  · simp [*, BitVec.getLsbD_eq_getElem]
  · rw [← BitVec.getLsbD_eq_getElem]
    congr 1
    omega

theorem stamp_of_bytes (w : Stamp) :
    ((w.extractLsb' 24 8 ++ w.extractLsb' 16 8 : Half) ++ (w.extractLsb' 8 8 ++ w.extractLsb' 0 8 : Half) : Stamp)
      = w := by
  ext i hi
  simp only [BitVec.getElem_append, BitVec.getElem_extractLsb']
  split_ifs <;> rw [← BitVec.getLsbD_eq_getElem] <;> congr 1 <;> omega

theorem ofNat_half_toNat {n : Nat} (h : n < 65536) : (BitVec.ofNat 16 n).toNat = n := by simpa using h

/-! ## Flags in a byte -/

theorem flagsByte_low (s : State) (src : Source) (n : Nat) (h : n ≤ 6) :
    (s.flagsByte src).extractLsb' 0 n = s.notices.flags[src].extractLsb' 0 n := by
  ext i hi
  simp [State.flagsByte]
  omega

/-- No bit above the flags that a source has is on in its byte (R171). -/
theorem flagsByte_high {src : Source} {n k : Nat} (h : s.flagsExist) (hn : flagCount src = n) :
    (s.flagsByte src).extractLsb' n k = 0 := by
  ext i hi
  have off : s.notices.flags[src].getLsbD (n + i) = false :=
    Bool.eq_false_iff.mpr fun on => by have := existing_iff.mp (h.1 src).1 _ on; omega
  simpa [State.flagsByte] using fun _ => off

theorem flagsByte_top (s : State) (src : Source) : (s.flagsByte src).extractLsb' 6 2 = 0 := by
  ext i hi
  simp [State.flagsByte]

/-! ## The port's status byte -/

theorem statusByte_bits (life : Lifecycle) (a b c d e f : Bool) (w : Byte)
    (h : w = natByte (lifecycleCode life + (if a then 4 else 0) + (if b then 8 else 0) + (if c then 16 else 0)
      + (if d then 32 else 0) + (if e then 64 else 0) + (if f then 0 else 128))) :
    (w.extractLsb' 0 2).toNat = lifecycleCode life ∧ w.getLsbD 2 = a ∧ w.getLsbD 3 = b ∧ w.getLsbD 4 = c
      ∧ w.getLsbD 5 = d ∧ w.getLsbD 6 = e ∧ w.getLsbD 7 = !f := by
  subst h
  cases life <;> revert a b c d e f <;> decide

/-! ## Where a byte stands -/

theorem byteAt_append {pre post : List Byte} {k : Nat} (h : k = pre.length) (j : Nat) :
    byteAt (pre ++ post) (k + j) = byteAt post j := by
  subst h
  simp [byteAt, List.getD_eq_getElem?_getD, List.getElem?_append_right]

theorem halfAt_append {pre post : List Byte} {k : Nat} (h : k = pre.length) (j : Nat) :
    halfAt (pre ++ post) (k + j) = halfAt post j := by
  unfold halfAt
  rw [byteAt_append h, Nat.add_assoc, byteAt_append h]

/-- The bytes of the entry at place i, of entries that take n bytes each. -/
theorem flatMap_at {l : List α} {f : α → List Byte} {n i : Nat} {e : α} (size : ∀ x, (f x).length = n)
    (h : l[i]? = some e) : ∃ pre post, l.flatMap f = pre ++ (f e ++ post) ∧ pre.length = n * i := by
  obtain ⟨hi, rfl⟩ := List.getElem?_eq_some_iff.mp h
  refine ⟨(l.take i).flatMap f, (l.drop (i + 1)).flatMap f, ?_, ?_⟩
  · rw [← List.flatMap_cons, ← List.flatMap_append, ← List.drop_eq_getElem_cons hi, List.take_append_drop]
  · simp [List.length_flatMap, size, Nat.min_eq_left hi.le, Nat.mul_comm]

theorem length_flatMap_const {l : List α} {f : α → List Byte} {n : Nat} (size : ∀ x, (f x).length = n) :
    (l.flatMap f).length = n * l.length := by
  simp [List.length_flatMap, size, Nat.mul_comm]

/-! ## The payload of a port -/

theorem emergencyUnit_eq (e : Emergency) : (sourceUnit e).getD 0 = (match e with
    | .active (some u) => u
    | .active none => 0
    | .none => 0) := by
  rcases e with _ | _ | u <;> rfl

theorem portStatusByte_bits (q : Port) : ((portStatusByte q).extractLsb' 0 2).toNat = lifecycleCode q.lifecycle
    ∧ (portStatusByte q).getLsbD 2 = q.present ∧ (portStatusByte q).getLsbD 3 = q.carrier
    ∧ (portStatusByte q).getLsbD 4 = q.vox ∧ (portStatusByte q).getLsbD 5 = q.engaged
    ∧ (portStatusByte q).getLsbD 6 = q.bar ∧ ((portStatusByte q).getLsbD 7 = true ↔ q.emergency ≠ .none) := by
  obtain ⟨life, present, carrier, vox, engaged, bar, emergency⟩ := statusByte_bits q.lifecycle q.present q.carrier q.vox
    q.engaged q.bar (decide (q.emergency = .none)) (portStatusByte q) (by simp [portStatusByte])
  exact ⟨life, present, carrier, vox, engaged, bar, by rw [emergency]; simp⟩

/-! ## The payload of a bridge -/

/-- Byte 1 of a bridge's payload: its holder and the priority held. -/
def holderCode : Option Holder → Byte
  | none => 15
  | some h => natByte (talkerCode h.who + 16 * h.priority)

theorem talkerCode_le (who : Talker) : talkerCode who ≤ 12 := by
  cases who with
  | port p => exact p.isLt.le
  | con => exact le_rfl

/-- The first 12 bytes of a bridge's payload. -/
def State.bridgeHead (s : State) (b : BridgeId) : List Byte :=
  let r := s.bridge b
  [natByte b.val, holderCode r.holder] ++ stampBytes ((r.holder.map (·.stamp)).getD 0)
    ++ timeBytes (r.holder.bind (·.timer)) ++ [natByte (r.stack.length + 16 * r.queue.length)] ++ natHalf r.burst
    ++ [s.flagsByte (srcBridge b)]

theorem bridgePayload_eq (s : State) (b : BridgeId) : s.bridgePayload b = s.bridgeHead b
    ++ ((s.bridge b).stack.flatMap stackEntryBytes ++ (s.bridge b).queue.flatMap s.queueEntryBytes) := by
  unfold State.bridgePayload State.bridgeHead
  have zero : natHalf 0 = [0, 0] := rfl
  cases h : (s.bridge b).holder <;> simp [h, holderBytes, holderCode, stampBytes, timeBytes, zero]

theorem bridgePayload_length (s : State) (b : BridgeId) :
    (s.bridgePayload b).length = 12 + 5 * (s.bridge b).stack.length + 3 * (s.bridge b).queue.length := by
  rw [bridgePayload_eq, List.length_append, List.length_append, length_flatMap_const (n := 5) fun _ => rfl,
    length_flatMap_const (n := 3) fun _ => rfl, ← Nat.add_assoc]
  rfl

/-- A bridge whose ports are named once has at most 12 entries in its stack and its queue. -/
theorem entries_le_of_namedOnce (h : s.namedOnce) (b : BridgeId) :
    (s.bridge b).stack.length + (s.bridge b).queue.length ≤ 12 := by
  have named := (h b).length_le_card
  simp only [Bridge.named, List.length_append, List.length_map, Fintype.card_fin] at named
  omega

/-- A time that fits in two bytes, 0 when absent. -/
theorem time_of_half {t : Option Nat} {w : Half} (h : w = BitVec.ofNat 16 (t.getD 0)) :
    (t = none → w = 0) ∧ ∀ n : Nat, t = some n → n < 65536 → w.toNat = n := by
  subst h
  exact ⟨fun none => by rw [none]; rfl, fun n some small => by rw [some]; exact ofNat_half_toNat small⟩

/-- The single bytes and the burst in a bridge's payload. -/
theorem bridgePayload_bytes (s : State) (b : BridgeId) : byteAt (s.bridgePayload b) 0 = natByte b.val
    ∧ byteAt (s.bridgePayload b) 1 = holderCode (s.bridge b).holder
    ∧ byteAt (s.bridgePayload b) 8 = natByte ((s.bridge b).stack.length + 16 * (s.bridge b).queue.length)
    ∧ halfAt (s.bridgePayload b) 9 = BitVec.ofNat 16 (s.bridge b).burst
    ∧ byteAt (s.bridgePayload b) 11 = s.flagsByte (srcBridge b) := by
  rw [bridgePayload_eq]
  exact ⟨rfl, rfl, rfl, half_of_bytes _, rfl⟩

/-- The holder's stamp and timer in a bridge's payload. -/
theorem bridgePayload_holder (s : State) (b : BridgeId) :
    (halfAt (s.bridgePayload b) 2 ++ halfAt (s.bridgePayload b) 4 : Stamp)
        = ((s.bridge b).holder.map (·.stamp)).getD 0
      ∧ halfAt (s.bridgePayload b) 6 = BitVec.ofNat 16 (((s.bridge b).holder.bind (·.timer)).getD 0) := by
  rw [bridgePayload_eq]
  exact ⟨stamp_of_bytes _, half_of_bytes _⟩

/-- The counts of stack and queue in byte 8 of a bridge's payload. -/
theorem countsByte_bits : ∀ m < 8, ∀ n < 16,
    ((natByte (m + 16 * n)).extractLsb' 0 3).toNat = m ∧ (natByte (m + 16 * n)).getLsbD 3 = false
      ∧ ((natByte (m + 16 * n)).extractLsb' 4 4).toNat = n := by
  decide

/-- The stack entry at place i begins at byte 12 + 5i. -/
theorem bridgePayload_stack {b : BridgeId} {i : Nat} {e : StackEntry} (h : (s.bridge b).stack[i]? = some e) (j : Nat) :
    ∃ post, byteAt (s.bridgePayload b) (12 + 5 * i + j) = byteAt (stackEntryBytes e ++ post) j
      ∧ halfAt (s.bridgePayload b) (12 + 5 * i + j) = halfAt (stackEntryBytes e ++ post) j := by
  obtain ⟨pre, post, at_i, size⟩ := flatMap_at (n := 5) (f := stackEntryBytes) (fun _ => rfl) h
  have split : s.bridgePayload b = (s.bridgeHead b ++ pre)
      ++ (stackEntryBytes e ++ (post ++ (s.bridge b).queue.flatMap s.queueEntryBytes)) := by
    simp only [bridgePayload_eq, at_i, List.append_assoc]
  have start : 12 + 5 * i = (s.bridgeHead b ++ pre).length := by rw [List.length_append, size]; rfl
  rw [split]
  exact ⟨_, byteAt_append start j, halfAt_append start j⟩

/-- The queue entry at place i begins at byte 12 + 5S + 3i. -/
theorem bridgePayload_queue {b : BridgeId} {i : Nat} {e : QueueEntry} (h : (s.bridge b).queue[i]? = some e) (j : Nat) :
    ∃ post, byteAt (s.bridgePayload b) (12 + 5 * (s.bridge b).stack.length + 3 * i + j)
        = byteAt (s.queueEntryBytes e ++ post) j
      ∧ halfAt (s.bridgePayload b) (12 + 5 * (s.bridge b).stack.length + 3 * i + j)
        = halfAt (s.queueEntryBytes e ++ post) j := by
  obtain ⟨pre, post, at_i, size⟩ := flatMap_at (n := 3) (f := s.queueEntryBytes) (fun _ => rfl) h
  have split : s.bridgePayload b = (s.bridgeHead b ++ (s.bridge b).stack.flatMap stackEntryBytes ++ pre)
      ++ (s.queueEntryBytes e ++ post) := by
    simp only [bridgePayload_eq, at_i, List.append_assoc]
  have start : 12 + 5 * (s.bridge b).stack.length + 3 * i
      = (s.bridgeHead b ++ (s.bridge b).stack.flatMap stackEntryBytes ++ pre).length := by
    rw [List.length_append, List.length_append, size, length_flatMap_const (n := 5) fun _ => rfl]
    rfl
  rw [split]
  exact ⟨_, byteAt_append start j, halfAt_append start j⟩

/-! ## The payload of the console -/

theorem consolePayload_gain (s : State) (b : BridgeId) :
    halfAt s.consolePayload (2 + 2 * b.val) = BitVec.ofNat 16 s.console.monitorGains[b] := by
  obtain ⟨pre, post, at_b, size⟩ := flatMap_at (l := s.console.monitorGains.toList) (i := b.val) (n := 2) (f := natHalf)
    (e := s.console.monitorGains[b]) (fun _ => rfl) (by simp)
  have split : s.consolePayload = ([s.console.talk, s.console.monitorMask] ++ pre)
      ++ (natHalf s.console.monitorGains[b] ++ (post ++ [s.flagsByte srcConsole])) := by
    simp only [State.consolePayload, at_b, List.append_assoc]
  rw [split]
  exact (halfAt_append (by rw [List.length_append, size]; rfl) 0).trans (half_of_bytes _)

theorem consolePayload_flags (s : State) : s.consolePayload.length = 19
    ∧ byteAt s.consolePayload 18 = s.flagsByte srcConsole := by
  have size : ([s.console.talk, s.console.monitorMask] ++ s.console.monitorGains.toList.flatMap natHalf).length
    = 18 := by
    rw [List.length_append, length_flatMap_const (n := 2) fun _ => rfl]
    simp
  exact ⟨by rw [State.consolePayload, List.length_append, size]; rfl, byteAt_append (k := 18) size.symm 0⟩

/-! ## O6 -/

/-- Settles O6: each field is read off at its place in the payload. -/
theorem noticePayloadsFollowTheLayouts : Obligations.NoticePayloadsFollowTheLayouts := by
  refine ⟨fun n => ⟨natByte_toNat n, natHalf_eq n, rfl, stampBytes_ofNat n⟩,
    ⟨rfl, rfl, rfl, rfl, rfl, rfl, rfl, rfl, rfl, rfl, rfl, rfl, rfl,
      fun n hn => (natByte_toNat n).trans (Nat.mod_eq_of_lt (by omega)), rfl, fun p => rfl⟩,
    fun s p => ?_, fun s b bounded once => ?_, fun s => ?_⟩
  · obtain ⟨life, present, carrier, vox, engaged, bar, emergency⟩ := portStatusByte_bits (s.port p)
    exact ⟨rfl, (natByte_toNat _).trans (Nat.mod_eq_of_lt (by omega)), life, present, carrier, vox, engaged, bar,
      emergency, rfl, (flagsByte_low s (srcPort p) 6 le_rfl).trans BitVec.extractLsb'_eq_self, 
      flagsByte_top s (srcPort p), half_of_bytes _, half_of_bytes _, (half_of_bytes _).trans (emergencyUnit_eq _)⟩
  · have entries := entries_le_of_namedOnce once b
    have depth : (s.bridge b).stack.length ≤ 4 := bounded b
    obtain ⟨stack, spare, queue⟩ := countsByte_bits (s.bridge b).stack.length (by omega)
      (s.bridge b).queue.length (by omega)
    obtain ⟨stamp, timer⟩ := bridgePayload_holder s b
    obtain ⟨number, holder, counts, burst, flags⟩ := bridgePayload_bytes s b
    rw [number, holder, counts, burst, flags]
    refine ⟨bridgePayload_length s b, by rw [bridgePayload_length]; omega,
      (natByte_toNat _).trans (Nat.mod_eq_of_lt (by omega)), fun h held bounded => ?_, fun h held => ?_, fun free => ?_,
      stack, spare, queue, ofNat_half_toNat, flagsByte_low s (srcBridge b) 3 (by omega),
      fun exist => flagsByte_high exist (flagCount_srcBridge b), fun i k e he hk => ?_, fun j k e he hk => ?_⟩
    · rw [held]
      exact (natByte_toNat _).trans (Nat.mod_eq_of_lt (by have := talkerCode_le h.who; omega))
    · rw [held] at stamp timer
      exact ⟨stamp, time_of_half timer⟩
    · rw [free] at stamp timer
      exact ⟨by rw [free]; rfl, stamp, timer⟩
    · subst hk
      obtain ⟨post, tag, -⟩ := bridgePayload_stack he 0
      obtain ⟨post', -, time⟩ := bridgePayload_stack he 1
      obtain ⟨post'', -, age⟩ := bridgePayload_stack he 3
      obtain ⟨absent, given⟩ := time_of_half (time.trans (half_of_bytes _))
      refine ⟨?_, absent, given, age.trans (half_of_bytes _)⟩
      rw [show byteAt (s.bridgePayload b) (12 + 5 * i) = _ from tag]
      exact (natByte_toNat _).trans (Nat.mod_eq_of_lt (by split <;> omega))
    · subst hk
      obtain ⟨post, who, -⟩ := bridgePayload_queue he 0
      obtain ⟨post', -, age⟩ := bridgePayload_queue he 1
      refine ⟨fun bounded => ?_, age.trans (half_of_bytes _)⟩
      rw [show byteAt (s.bridgePayload b) (12 + 5 * (s.bridge b).stack.length + 3 * j) = _ from who]
      exact (natByte_toNat _).trans (Nat.mod_eq_of_lt (by omega))
  · obtain ⟨size, flags⟩ := consolePayload_flags s
    refine ⟨rfl, rfl, flagsByte_low s srcDevice 2 (by omega), fun exist => flagsByte_high exist rfl, size, rfl, rfl,
      fun b small => ?_, ?_, fun exist => ?_⟩
    · rw [consolePayload_gain]
      exact ofNat_half_toNat (by omega)
    · rw [flags]
      exact flagsByte_low s srcConsole 2 (by omega)
    · rw [flags]
      exact flagsByte_high exist rfl

end

end Sys2Proof.Machine
end

section
/-! SUPPORT. Step 1 of a plan switch for one bridge (R60, R61), and the destination-removal effect on one port
  (R121). -/

namespace Sys2Proof.Machine

section
variable {s : State} {b : BridgeId} {p : PortId}

/-! ## The new talk limit (R61) -/

theorem limitTime_eq (limit : Nat) (t : Option Nat) :
    limitTime limit t = if limit = 0 then none else some (min (t.getD (limit * 250)) (limit * 250)) := by
  unfold limitTime
  split
  · rfl
  · cases t with
    | none => exact congrArg some (Nat.min_self _).symm
    | some n => rfl

theorem limitHolder_eq (limit : Nat) (h : Holder) :
    limitHolder limit h = if h.who = .con then h else { h with timer := limitTime limit h.timer } := by
  unfold limitHolder
  cases who : h.who with
  | port p => rfl
  | con => rfl

theorem limitEntry_stamp (limit : Nat) (e : StackEntry) : (limitEntry limit e).stamp = e.stamp := by
  unfold limitEntry
  split <;> rfl

/-- A stack entry after the removal of non-members, under the new talk limit. -/
theorem limitEntry_membersOnly (limit : Nat) (members : PortSet) (e : StackEntry) :
    limitEntry limit (if members.getLsbD e.port then e else { e with tag := Tag.empty })
      = if members.getLsbD e.port = false then { e with tag := .empty }
        else if e.tag = .empty then e else { e with saved := limitTime limit e.saved } := by
  unfold limitEntry
  cases members.getLsbD e.port with
  | false => rfl
  | true => cases tag : e.tag <;> simp [tag]

theorem membersOnly_eq (members : PortSet) (limit : Nat) (r : Bridge) : r.membersOnly members limit = { r with
    holder := r.holder.map fun h => if h.who = .con then h else { h with timer := limitTime limit h.timer }
    queue := r.queue.filter fun e => members.getLsbD e.port
    stack := r.stack.map fun e => if members.getLsbD e.port = false then { e with tag := .empty }
      else if e.tag = .empty then e else { e with saved := limitTime limit e.saved } } := by
  simp only [Bridge.membersOnly, List.map_map]
  congr 1
  · exact congrArg (r.holder.map ·) (funext (limitHolder_eq limit))
  · exact List.map_congr_left fun e _ => limitEntry_membersOnly limit members e

/-! ## What the removal reports -/

theorem membersOnly_sameReported (members : PortSet) (limit : Nat) (r : Bridge) : Bridge.sameReported
    { r with
      queue := r.queue.filter fun e => members.getLsbD e.port
      stack := r.stack.map fun e => if members.getLsbD e.port then e else { e with tag := Tag.empty } }
    (r.membersOnly members limit) = true := by
  refine Bridge.sameReported_iff.mpr ⟨?_, rfl, ?_⟩
  · simp only [Bridge.membersOnly, Option.map_map]
    exact congrArg (r.holder.map ·) (funext fun h => (limitHolder_who limit h).symm)
  · simp only [Bridge.membersOnly, stackView, List.map_map]
    refine List.map_congr_left fun e _ => ?_
    simp only [Function.comp, limitEntry_port, limitEntry_tag, limitEntry_stamp]

theorem stackReported_membersKept (s : State) (b : BridgeId) : s.stackReported false b (s.membersKept b) := by
  refine State.stackReported.trans (actsOn_updateBridge s b _) (stackReported_updateBridge s b _)
    (stackReported_updateBridge _ b _) fun same => ?_
  rw [show ((s.membersKept b).bridge b) = _ from membersKept_bridge s b] at same
  rw [State.bridge_updateBridge_same]
  exact Bridge.sameReported_trans same (Bridge.sameReported_symm (membersOnly_sameReported ..))

theorem stackReported_removeNonMembers (s : State) (b : BridgeId) :
    s.stackReported false b (s.removeNonMembers b) := by
  rcases removeNonMembers_cases s b with ⟨kept, -⟩ | ⟨p, held, out, released⟩
  · rw [kept]
    exact stackReported_membersKept s b
  · rw [released]
    refine State.stackReported.trans (actsOn_membersKept s b) (stackReported_membersKept s b)
      (stackReported_updateBridge _ b _) fun same => ?_
    -- the holder that releases has no place left, so that the holder has changed
    obtain ⟨h, holds, who⟩ := held
    obtain ⟨holder, -, -⟩ := Bridge.sameReported_iff.mp same
    have still : ((s.removeNonMembers b).bridge b).hasPlace p = true := by
      rw [hasPlace_iff, released]
      rw [holds, Option.map_some, who] at holder
      obtain ⟨h', holds', who'⟩ := Option.map_eq_some_iff.mp holder.symm
      exact .inl ⟨h', holds', who'⟩
    rw [((hasPlace_removeNonMembers s b).mp still).2] at out
    cases out

theorem removeNonMembers_flags (s : State) (b : BridgeId) :
    (s.removeNonMembers b).notices.flags = s.notices.flags := by
  have kept : (s.membersKept b).notices.flags = s.notices.flags :=
    (State.updateBridge_flags ..).trans (State.updateBridge_flags ..)
  rcases removeNonMembers_cases s b with ⟨result, -⟩ | ⟨p, -, -, result⟩
  · rw [result, kept]
  · rw [result, ← kept]
    exact State.updateBridge_flags ..

/-! ## The bridge left -/

theorem removeNonMembers_bridge_of_kept (h : ∀ p, (s.bridge b).heldBy p → (s.record b).members.getLsbD p = true) :
    (s.removeNonMembers b).bridge b = (s.bridge b).membersOnly (s.record b).members (s.record b).talkLimit := by
  rcases removeNonMembers_cases s b with ⟨kept, -⟩ | ⟨p, held, out, -⟩
  · rw [kept, membersKept_bridge]
  · rw [h p held] at out
    cases out

theorem removeNonMembers_bridge_of_out (held : (s.bridge b).heldBy p) (out : (s.record b).members.getLsbD p = false) :
    (s.removeNonMembers b).bridge b = (State.release b { s with
      bridges := s.bridges.set b ((s.bridge b).membersOnly (s.record b).members
        (s.record b).talkLimit) }).bridge b := by
  rcases removeNonMembers_cases s b with ⟨-, member⟩ | ⟨q, -, -, released⟩
  · rw [member p held] at out
    cases out
  · rw [released]
    have acts := actsOn_membersKept s b
    refine release_bridge_congr ?_ (funext acts.effPriority) (acts.record b)
    rw [membersKept_bridge]
    simp [State.bridge]

/-! ## Destinations (R62, R121) -/

theorem removeDestination_of_kept {old : Vector Record 8}
    (h : ∀ b : BridgeId, destinationIn old p = some b → (s.record b).destinations.getLsbD p = true) :
    s.removeDestination old p = s := by
  refine if_neg fun removed => ?_
  obtain ⟨b, was, gone⟩ := (Option.any_eq_true ..).mp removed
  rw [show s.activeRecords[b] = s.record b from rfl, h b was] at gone
  cases gone

theorem removeDestination_of_gone {old : Vector Record 8} (was : destinationIn old p = some b)
    (gone : (s.record b).destinations.getLsbD p = false) : s.removeDestination old p = match (s.port p).key with
      | .keyed | .drain | .hang => s.enterBlank false p
      | .deferred => s.setKey p .idle 0 0
      | .idle | .blank | .cool => s := by
  refine if_pos ((Option.any_eq_true ..).mpr ⟨b, was, ?_⟩)
  rw [show s.activeRecords[b] = s.record b from rfl, gone]
  rfl

theorem removeDestination_of_still (old : Vector Record 8)
    (h : (s.port p).key = .idle ∨ (s.port p).key = .blank ∨ (s.port p).key = .cool) :
    s.removeDestination old p = s := by
  unfold State.removeDestination
  split
  · rcases h with h | h | h <;> rw [h]
  · rfl

/-- Settles O14: the two outcomes of the removal of non-members, and the destination removal by its key state. -/
theorem switchRemovesMembersAndDestinations : Obligations.SwitchRemovesMembersAndDestinations := by
  refine ⟨?_, ?_⟩
  · rintro s t b rfl
    have acts := actsOn_removeNonMembers s b
    have member {q : PortId} (place : ((s.removeNonMembers b).bridge b).hasPlace q = true) :
        (s.record b).members.getLsbD q = true := ((hasPlace_removeNonMembers s b).mp place).2
    have reported := stackReported_removeNonMembers s b
    refine ⟨fun e he => member (hasPlace_iff _ _ |>.mpr (.inr (.inr ⟨e, he, rfl⟩))),
      fun e he valid => member (hasPlace_iff _ _ |>.mpr (.inr (.inl ⟨e, he, rfl, valid⟩))),
      fun h p held who => member (hasPlace_iff _ _ |>.mpr (.inl ⟨h, held, who⟩)),
      fun h held con => ?_, fun h p held who isMember => ?_, acts.other, fun limit time r hlimit htime hr => ?_,
      acts.ports, acts.bidCounter, removeNonMembers_backdrop s b, ?_, fun _ src => ?_⟩
    · rw [removeNonMembers_bridge_of_kept fun p ⟨h', held', who⟩ => by
        rw [held] at held'; cases held'; rw [con] at who; cases who]
      simp [Bridge.membersOnly, held, limitHolder_eq, con]
    · rw [removeNonMembers_bridge_of_kept fun q ⟨h', held', who'⟩ => by
        rw [held] at held'; cases held'; rw [who] at who'; cases who'; exact isMember]
      refine ⟨limitTime (s.record b).talkLimit h.timer, ?_, fun none => ?_, fun some => ?_, rfl, ?_, ?_, fun i => ?_⟩
      · simp [Bridge.membersOnly, held, limitHolder_eq, who]
      · rw [limitTime_eq, if_pos none]
      · rw [limitTime_eq, if_neg some]
      · rw [membersOnly_eq, List.map_map]
        exact List.map_congr_left fun e _ => by simp only [Function.comp]; split_ifs <;> rfl
      · rw [membersOnly_eq, List.map_map]
        exact List.map_congr_left fun e _ => by simp only [Function.comp]; split_ifs <;> rfl
      · rw [membersOnly_eq, List.getElem?_map]
        simp only [limitTime_eq]
        split_ifs <;> rfl
    · have same : r = (s.bridge b).membersOnly (s.record b).members (s.record b).talkLimit := by
        have times : time = limitTime (s.record b).talkLimit := by
          funext x
          rw [htime, limitTime_eq, hlimit]
          simp
        rw [hr, times, membersOnly_eq]
      rw [same]
      refine ⟨fun stays => removeNonMembers_bridge_of_kept fun p ⟨h, held, who⟩ => ?_,
        fun h p held who out => removeNonMembers_bridge_of_out ⟨h, held, who⟩ out⟩
      rcases stays with free | ⟨h', held', members⟩
      · rw [free] at held
        cases held
      · rw [held] at held'
        cases held'
        exact members p who
    · have frame := acts.frame
      rw [removeNonMembers_flags] at frame
      exact frame
    · rw [(reported src).2]
      cases s.notices.switches[src] <;>
        cases (s.bridge b).sameReported ((s.removeNonMembers b).bridge b) <;> simp
  · rintro s t old p rfl
    refine ⟨removeDestination_of_kept, removeDestination_of_still old, fun b was gone => ?_⟩
    rw [removeDestination_of_gone was gone]
    refine ⟨fun deferred => ?_, fun sending pos => ?_, fun sending zero => ?_⟩
    · rw [deferred]
      exact setKey_eq s p .idle 0 0
    · refine Eq.trans ?_ (enterBlank_of_pos false pos)
      rcases sending with key | key | key <;> rw [key]
    · refine Eq.trans ?_ (enterBlank_of_zero false zero ?_)
      all_goals rcases sending with key | key | key <;> rw [key] <;> exact nofun

end

end Sys2Proof.Machine
end

section
/-! SUPPORT. An operation taken for every bridge in turn, what the whole of a plan switch does (R58 to R66), and the
statement on the switch (O13). -/

namespace Sys2Proof.Machine

section
variable {s t : State} {b c : BridgeId} {p : PortId}

/-! ## An operation taken for every bridge in turn -/

/-- An operation that, at each bridge, changes that bridge by itself alone and, where the condition holds, reports it.
-/
structure ActsPerBridge (f : State → BridgeId → State) (C : State → BridgeId → Prop) : Prop where
  acts : ∀ (s : State) (b : BridgeId), s.actsOn b (f s b)
  bridge : ∀ (s t : State) (b c : BridgeId), s.actsOn c t → b ≠ c → (f t b).bridge b = (f s b).bridge b
  cond : ∀ (s t : State) (b c : BridgeId), s.actsOn c t → b ≠ c → (C t b ↔ C s b)
  flags : ∀ s b, (f s b).notices.flags = s.notices.flags
  marks : ∀ (s : State) (b : BridgeId) (src : Source), (f s b).notices.marks[src] = true ↔ s.notices.marks[src] = true
    ∨ (src = srcBridge b ∧ s.notices.switches[src] = true ∧ C s b)

namespace ActsPerBridge
variable {f : State → BridgeId → State} {C : State → BridgeId → Prop}

theorem foldl_frame (k : ActsPerBridge f C) (bs : List BridgeId) (s : State) : bs.foldl f s = { s with
    bridges := (bs.foldl f s).bridges, notices := { s.notices with marks := (bs.foldl f s).notices.marks } } := by
  induction bs generalizing s with
  | nil => rfl
  | cons b bs ih =>
    have first := (k.acts s b).frame
    rw [k.flags] at first
    have rest := ih (f s b)
    rw [List.foldl_cons]
    generalize bs.foldl f (f s b) = u at rest
    rw [first] at rest
    exact rest

theorem foldl_plans (k : ActsPerBridge f C) (bs : List BridgeId) (s : State) : (bs.foldl f s).plans = s.plans := by
  have frame := congrArg State.plans (k.foldl_frame bs s)
  exact frame

theorem foldl_switches (k : ActsPerBridge f C) (bs : List BridgeId) (s : State) :
    (bs.foldl f s).notices.switches = s.notices.switches := by
  have frame := congrArg (·.notices.switches) (k.foldl_frame bs s)
  exact frame

theorem foldl_bridge (k : ActsPerBridge f C) (bs : List BridgeId) (once : bs.Nodup) (s : State) (c : BridgeId) :
    (bs.foldl f s).bridge c = if c ∈ bs then (f s c).bridge c else s.bridge c := by
  induction bs generalizing s with
  | nil => rfl
  | cons b bs ih =>
    obtain ⟨new, rest⟩ := List.nodup_cons.mp once
    rw [List.foldl_cons, ih rest]
    by_cases here : c = b
    · subst here
      rw [if_neg new, if_pos List.mem_cons_self]
    · rw [k.bridge s (f s b) c b (k.acts s b) here, (k.acts s b).other c here]
      simp only [List.mem_cons, here, false_or]

theorem foldl_marks (k : ActsPerBridge f C) (bs : List BridgeId) (once : bs.Nodup) (s : State) (src : Source) :
    (bs.foldl f s).notices.marks[src] = true ↔ s.notices.marks[src] = true
      ∨ ∃ c ∈ bs, src = srcBridge c ∧ s.notices.switches[src] = true ∧ C s c := by
  induction bs generalizing s with
  | nil => simp
  | cons b bs ih =>
    obtain ⟨new, rest⟩ := List.nodup_cons.mp once
    have later (c : BridgeId) (hc : c ∈ bs) : C (f s b) c ↔ C s c :=
      k.cond s (f s b) c b (k.acts s b) fun same => new (same ▸ hc)
    rw [List.foldl_cons, ih rest, k.marks, (k.acts s b).switches, or_assoc]
    refine or_congr_right ?_
    constructor
    · rintro (now | ⟨c, hc, is, on, cond⟩)
      · exact ⟨b, List.mem_cons_self, now⟩
      · exact ⟨c, List.mem_cons_of_mem b hc, is, on, (later c hc).mp cond⟩
    · rintro ⟨c, hc, is, on, cond⟩
      rcases List.mem_cons.mp hc with rfl | hc
      · exact .inl ⟨is, on, cond⟩
      · exact .inr ⟨c, hc, is, on, (later c hc).mpr cond⟩

end ActsPerBridge

theorem nodup_allBridges : allBridges.Nodup := by decide

/-! ## Step 1 of the switch for every bridge -/

theorem removeNonMembers_bridge_congr (acts : s.actsOn c t) (other : b ≠ c) :
    (t.removeNonMembers b).bridge b = (s.removeNonMembers b).bridge b := by
  have bridge := acts.other b other
  have record := acts.record b
  by_cases out : ∃ p, (s.bridge b).heldBy p ∧ (s.record b).members.getLsbD p = false
  · obtain ⟨p, held, out⟩ := out
    rw [removeNonMembers_bridge_of_out held out,
      removeNonMembers_bridge_of_out (s := t) (bridge.symm ▸ held) (record.symm ▸ out), bridge, record]
    exact release_bridge_congr (by simp [State.bridge]) (funext acts.effPriority) record
  · have stays (q : PortId) (held : (s.bridge b).heldBy q) : (s.record b).members.getLsbD q = true := by
      by_contra no
      exact out ⟨q, held, Bool.eq_false_of_not_eq_true no⟩
    rw [removeNonMembers_bridge_of_kept stays,
      removeNonMembers_bridge_of_kept (s := t) (by rw [bridge, record]; exact stays), bridge, record]

theorem removesNonMembers_perBridge : ActsPerBridge State.removeNonMembers
    fun s b => (s.bridge b).sameReported ((s.removeNonMembers b).bridge b) = false where
  acts := actsOn_removeNonMembers
  bridge s t b c acts other := removeNonMembers_bridge_congr acts other
  cond s t b c acts other := by rw [removeNonMembers_bridge_congr acts other, acts.other b other]
  flags := removeNonMembers_flags
  marks s b src := by
    rw [(stackReported_removeNonMembers s b src).2]
    simp

theorem actsOn_adjustBurst (s : State) (b : BridgeId) : s.actsOn b (s.adjustBurst b) := by
  unfold State.adjustBurst
  dsimp only
  split
  · exact .refl b s
  · have set (r : Bridge) : s.actsOn b (s.setBridge b r) :=
      ⟨rfl, fun c other => by rw [bridge_setBridge, if_neg other]⟩
    exact (set _).trans (actsOn_reportChange _ b _)

theorem adjustsBursts_perBridge : ActsPerBridge State.adjustBurst
    fun s b => s.alertFrames b < (s.bridge b).burst where
  acts := actsOn_adjustBurst
  bridge s t b c acts other := by
    rw [adjustBurst_bridge, adjustBurst_bridge, acts.other b other, alertFrames_of_plans acts.plans]
  cond s t b c acts other := by rw [acts.other b other, alertFrames_of_plans acts.plans]
  flags s b := by
    unfold State.adjustBurst
    dsimp only
    split
    · rfl
    · exact State.reportChange_flags ..
  marks s b src := by
    unfold State.adjustBurst
    dsimp only
    split
    · next fits => simp [State.alertFrames, Nat.not_lt.mpr fits]
    · next longer =>
      rw [reportChange_marks]
      simp only [State.alertFrames, Nat.lt_of_not_le longer, and_true, Bool.or_eq_true, decide_eq_true_iff]
      exact or_congr_right (and_congr_right fun is => by subst is; rfl)

/-! ## The state after step 1 -/

/-- The plans exchanged (R59). -/
def State.exchanged (s : State) : State :=
  { s with plans := { s.plans with active := s.plans.active + 1, switchPending := false } }

/-- Non-members removed and bursts adjusted, in every bridge (R60, R61, R65). -/
def State.adjusted (s : State) : State :=
  allBridges.foldl State.adjustBurst (allBridges.foldl State.removeNonMembers s)

theorem adjusted_frame (s : State) : s.adjusted = { s with
    bridges := s.adjusted.bridges, notices := { s.notices with marks := s.adjusted.notices.marks } } := by
  have adjusts := adjustsBursts_perBridge.foldl_frame allBridges (allBridges.foldl State.removeNonMembers s)
  have removes := removesNonMembers_perBridge.foldl_frame allBridges s
  unfold State.adjusted
  generalize allBridges.foldl State.adjustBurst _ = u at adjusts ⊢
  rw [removes] at adjusts
  exact adjusts

theorem removeNonMembers_burst (s : State) (b : BridgeId) :
    ((s.removeNonMembers b).bridge b).burst = (s.bridge b).burst
      ∧ ((s.removeNonMembers b).bridge b).phase = (s.bridge b).phase := by
  have back := rest_bridge (rest_of_backdrop (removeNonMembers_backdrop s b)) b
  have burst := congrArg Bridge.burst back
  have phase := congrArg Bridge.phase back
  exact ⟨burst, phase⟩

theorem adjusted_bridge (s : State) (b : BridgeId) : s.adjusted.bridge b = { (s.removeNonMembers b).bridge b with
    burst := min (s.bridge b).burst (s.alertFrames b)
    phase := if s.alertFrames b = 0 ∧ (s.bridge b).burst ≠ 0 then .start else (s.bridge b).phase } := by
  have kept := alertFrames_of_plans (removesNonMembers_perBridge.foldl_plans allBridges s) b
  obtain ⟨burst, phase⟩ := removeNonMembers_burst s b
  rw [State.adjusted, adjustsBursts_perBridge.foldl_bridge _ nodup_allBridges, if_pos (mem_allBridges b),
    adjustBurst_bridge, kept, removesNonMembers_perBridge.foldl_bridge _ nodup_allBridges, if_pos (mem_allBridges b),
    burst, phase]
  by_cases longer : s.alertFrames b < (s.bridge b).burst
  · rw [if_pos ⟨rfl, longer⟩, Nat.min_eq_right longer.le]
    simp only [Nat.ne_of_gt (Nat.zero_lt_of_lt longer), ne_eq, not_false_eq_true, and_true]
  · have none : ¬ (s.alertFrames b = 0 ∧ (s.bridge b).burst ≠ 0) := by omega
    rw [if_neg fun both => longer both.2, if_neg none, Nat.min_eq_left (Nat.le_of_not_lt longer), ← burst, ← phase]

theorem adjusted_marks (s : State) (src : Source) : s.adjusted.notices.marks[src] = true ↔ s.notices.marks[src] = true
    ∨ ∃ b : BridgeId, src = srcBridge b ∧ s.notices.switches[src] = true
      ∧ ((s.bridge b).sameReported (s.adjusted.bridge b) = false ∨ (s.adjusted.bridge b).burst ≠
        (s.bridge b).burst) := by
  have alert := alertFrames_of_plans (removesNonMembers_perBridge.foldl_plans allBridges s)
  have switches := removesNonMembers_perBridge.foldl_switches allBridges s
  have burst (b : BridgeId) : ((allBridges.foldl State.removeNonMembers s).bridge b).burst = (s.bridge b).burst := by
    rw [removesNonMembers_perBridge.foldl_bridge _ nodup_allBridges, if_pos (mem_allBridges b)]
    exact (removeNonMembers_burst s b).1
  have places (b : BridgeId) : (s.bridge b).sameReported (s.adjusted.bridge b)
      = (s.bridge b).sameReported ((s.removeNonMembers b).bridge b) := by rw [adjusted_bridge]; rfl
  have shorter (b : BridgeId) : (s.adjusted.bridge b).burst ≠ (s.bridge b).burst
      ↔ s.alertFrames b < (s.bridge b).burst := by
    rw [adjusted_bridge]
    simp
  rw [State.adjusted, adjustsBursts_perBridge.foldl_marks _ nodup_allBridges,
    removesNonMembers_perBridge.foldl_marks _ nodup_allBridges, switches]
  rw [← State.adjusted]
  simp only [alert, burst, places, shorter, mem_allBridges, true_and, and_or_left, exists_or, or_assoc]

/-- Where no bid is on its way, the ports lose their removed destinations one by one, each with its bid. -/
theorem removeDestination_bids (old : Vector Record 8) (p : PortId) (h : s.bids = []) :
    (s.removeDestination old p).bids = [] ∨ (s.removeDestination old p).bids = [p] := by
  have handed : (s.removeDestination old p).bidsBy p s.bids := by
    unfold State.removeDestination
    split
    · split
      · exact bidsBy_enterBlank s p
      · exact bidsBy_enterBlank s p
      · exact bidsBy_enterBlank s p
      · exact bidsBy_setKey ..
      · exact .inl rfl
      · exact .inl rfl
      · exact .inl rfl
    · exact .inl rfl
  rw [State.bidsBy, h] at handed
  exact handed.imp_right And.left

/-! ## The whole switch -/

theorem switchPlans_eq (s : State) : s.switchPlans = (allPorts.foldl
    (fun z p => if newlyMember s.activeRecords z.activeRecords p then z.takeBid p else z)
    (allPorts.foldl (fun z p => (z.removeDestination s.activeRecords p).takeHandedBids) s.exchanged.adjusted)).handOn :=
  rfl

theorem switchPlans_backdrop (s : State) : s.switchPlans.backdrop = s.exchanged.adjusted.backdrop := by
  rw [switchPlans_eq, handOn_backdrop, foldl_backdrop, foldl_backdrop]
  · exact fun z p => (takeHandedBids_backdrop _).trans (removeDestination_backdrop z _ p)
  · intro z p
    split
    · exact takeBid_backdrop z p
    · rfl

/-- Two states that differ in bridges and marks alone, with the same backdrop of each bridge. -/
theorem backdrop_of_frames {v x u : State} (hu : u = { v with bridges := u.bridges })
    (hx : x = { v with bridges := x.bridges, notices := { v.notices with marks := x.notices.marks } })
    (h : ∀ b, (x.bridge b).backdrop = (u.bridge b).backdrop) : x.backdrop = u.backdrop := by
  have maps : x.bridges.map Bridge.backdrop = u.bridges.map Bridge.backdrop := by
    ext i hi : 1
    have here := h ⟨i, hi⟩
    rw [Vector.getElem_map, Vector.getElem_map]
    exact here
  calc x.backdrop = { v.backdrop with bridges := x.bridges.map Bridge.backdrop } := congrArg State.backdrop hx
    _ = { v.backdrop with bridges := u.bridges.map Bridge.backdrop } := by rw [maps]
    _ = u.backdrop := (congrArg State.backdrop hu).symm

theorem takeBid_eq (s : State) (p : PortId) : s.takeBid p = match s.memberOf p with
    | some b => if (s.port p).engaged = true ∧ (s.port p).bar = false ∧ (s.bridge b).hasPlace p = false
        then s.bid b (.port p) else s
    | none => s := by
  unfold State.takeBid
  cases s.memberOf p with
  | none => rfl
  | some b => simp only [Bool.and_eq_true, Bool.not_eq_true', and_assoc]

/-- The ports lose their removed destinations one by one, each with the bid that it brings (log entry 32). -/
theorem foldl_removeDestination_eq {old : Vector Record 8} {removed : State → PortId → State}
    (h : ∀ z p, removed z p = if (z.removeDestination old p).bids = [] then z.removeDestination old p
      else State.takeBid p { z.removeDestination old p with bids := [] }) (ps : List PortId) (bids : s.bids = []) :
    ps.foldl (fun z p => (z.removeDestination old p).takeHandedBids) s = ps.foldl removed s := by
  induction ps generalizing s with
  | nil => rfl
  | cons p ps ih =>
    rw [List.foldl_cons, List.foldl_cons, ih (takeHandedBids_bids _), h]
    rcases removeDestination_bids old p bids with none | one
    · rw [if_pos none, takeHandedBids_of_nil none]
    · rw [if_neg (by rw [one]; exact nofun), takeHandedBids_of_one one]

theorem startFrame_of_idle (runs : s.mixer.mode = .run) (idle : s.mixer.frame = none) : s.startFrame =
    { (if s.plans.switchPending then s.makeSwitch else s) with
      mixer := { (if s.plans.switchPending then s.makeSwitch else s).mixer with
        frame := some ⟨0, (if s.plans.switchPending then s.makeSwitch else s).latch⟩ } } := if_pos ⟨runs, idle⟩

/-! ## O13 -/

/-- Settles O13: what the switch leaves is read off step by step, and its three ways are requests and commands that make
it. -/
theorem planSwitchWaitsAndIsMade : Obligations.PlanSwitchWaitsAndIsMade := by
  intro s u exchanged bid removed joined switched made
  have u_bridge (b : BridgeId) : u.bridge b = { s.bridge b with
      burst := min (s.bridge b).burst (s.exchanged.alertFrames b)
      phase := if s.exchanged.alertFrames b = 0 ∧ (s.bridge b).burst ≠ 0 then .start else (s.bridge b).phase } :=
    Vector.getElem_ofFn ..
  have x_bridge (b : BridgeId) : s.exchanged.adjusted.bridge b = { (exchanged.removeNonMembers b).bridge b with
      burst := (u.bridge b).burst, phase := (u.bridge b).phase } := by
    rw [u_bridge]
    exact adjusted_bridge s.exchanged b
  have back : s.switchPlans.backdrop = u.backdrop := by
    rw [switchPlans_backdrop]
    refine backdrop_of_frames (v := s.exchanged) rfl (adjusted_frame s.exchanged) fun b => ?_
    have bare := rest_bridge (rest_of_backdrop (removeNonMembers_backdrop exchanged b)) b
    have timed := congrArg (fun r : Bridge => { r with burst := (u.bridge b).burst, phase := (u.bridge b).phase }) bare
    rw [x_bridge]
    refine timed.trans ?_
    rw [u_bridge]
    rfl
  have bid_eq (z : State) (p : PortId) : bid z p = z.takeBid p := (takeBid_eq z p).symm
  have removed_eq (z : State) (p : PortId) : removed z p = if (z.removeDestination s.activeRecords p).bids = []
      then z.removeDestination s.activeRecords p
      else State.takeBid p { z.removeDestination s.activeRecords p with bids := [] } := by
    rw [← bid_eq]
  have joined_eq (z : State) (p : PortId) : joined z p =
      if newlyMember s.activeRecords z.activeRecords p then z.takeBid p else z := by
    rw [← bid_eq]
    rfl
  have all (bids : s.bids = []) : switched s.switchPlans := by
    refine ⟨s.exchanged.adjusted, adjusted_frame s.exchanged, x_bridge, fun _ => adjusted_marks s.exchanged, ?_⟩
    have noBids : s.exchanged.adjusted.bids = [] := by
      have frame := congrArg State.bids (adjusted_frame s.exchanged)
      exact frame.trans bids
    rw [switchPlans_eq, foldl_removeDestination_eq removed_eq allPorts noBids,
      show joined = _ from funext fun z => funext (joined_eq z)]
  refine ⟨fun h runs => ?_, fun h halted => ⟨s.switchPlans, ?_, back, all⟩, fun calm runs idle pending => ?_⟩
  · rw [show exec .planSwitch s = request 0x0A [] switchPlan s from rfl,
      request_of_ready h 0x0A (by simp [Config.maxPayload])]
    unfold switchPlan
    rw [show s.accepting.mixer.mode = _ from runs]
    obtain ⟨-, -, none_reserved, -⟩ := h
    simp only [State.formReply, State.accepting, State.endReception, State.reserve, fillPlace_reserved none_reserved]
  · refine request_of_withLink (act := switchPlan) (a := .ok _) h 0x0A (by simp [Config.maxPayload]) (fun l => ?_)
      (switchPlans_link s)
    unfold switchPlan
    rw [show (s.withLink l).mixer.mode = _ from halted]
    dsimp only
    rw [switchPlans_withLink, plans_withLink, switchPlans_plans]
    rfl
  · have plans := switchPlans_plans s
    refine ⟨s.switchPlans, s.makeSwitch, ?_, back, all, ?_, ?_⟩
    · exact (operate_of_calm calm State.switchAtFrame).trans (congrArg _ (if_pos ⟨runs, idle, pending⟩))
    · rw [State.makeSwitch, State.formSwitchReply, plans, switchPlans_link]
      rfl
    · have mixer : s.makeSwitch.mixer = s.mixer := switchPlans_mixer s
      have off : s.makeSwitch.plans.switchPending = false := congrArg Plans.switchPending plans
      have still : s.makeSwitch.calm := ⟨(congrArg State.inReset back).trans calm.1,
        (congrArg State.due back).trans calm.2⟩
      rw [exec_frameStart calm, exec_frameStart still, startFrame_of_idle runs idle, if_pos pending,
        startFrame_of_idle (s := s.makeSwitch) (by rw [mixer]; exact runs) (by rw [mixer]; exact idle),
        if_neg (by rw [off]; exact nofun)]

end

end Sys2Proof.Machine
end

section
/-! SUPPORT. UNIT_ENTER and UNIT_REMOVE (R43, R44), and the ports that a changed override priority reaches (R47). -/

namespace Sys2Proof.Machine

section
variable {s v : State} {u : UnitId}

/-! ## The entry found (R35) -/

/-- A lookup finds no way above one that holds an entry of the unit. -/
theorem Directory.find_le {d : Directory} {w w' : Fin 4} {e : Entry} (found : d.find u = some w)
    (there : d.at (hashSet u) w' = some e) (unit : e.unit = u) : w ≤ w' := by
  obtain ⟨-, before, after, split, none_before⟩ := List.find?_eq_some_iff_append.mp found
  have order : (before ++ w :: after).Pairwise (· < ·) := split ▸ pairwise_allWays
  have place : w' ∈ before ++ w :: after := split ▸ mem_allWays w'
  rw [List.pairwise_append, List.pairwise_cons] at order
  rcases List.mem_append.mp place with early | late
  · have other := none_before w' early
    simp [there, unit] at other
  · rcases List.mem_cons.mp late with rfl | later
    · exact le_rfl
    · exact (order.2.1.1 w' later).le

/-- The entry written at the way found, or at a new way of a unit that had none, is the unit's entry. -/
theorem Directory.find_put {d : Directory} {w : Fin 4} {e : Entry} (unit : e.unit = u)
    (h : d.find u = some w ∨ d.find u = none) : (d.put (hashSet u) w (some e)).find u = some w := by
  have here : (d.put (hashSet u) w (some e)).at (hashSet u) w = some e := by rw [Directory.put_at, if_pos ⟨rfl, rfl⟩]
  cases found : (d.put (hashSet u) w (some e)).find u with
  | none => exact absurd unit (Directory.unit_ne_of_find_none found here)
  | some w' =>
    have low := Directory.find_le found here unit
    obtain ⟨e', there, unit'⟩ := Directory.at_of_find found
    by_cases same : w' = w
    · rw [same]
    · rw [Directory.put_at, if_neg fun both => same both.2] at there
      rcases h with h | h
      · exact absurd (le_antisymm low (Directory.find_le h there unit')) same
      · exact absurd unit' (Directory.unit_ne_of_find_none h there)

theorem overrideFor_put_self {w : Fin 4} {e : Entry} (unit : e.unit = u)
    (h : s.dir.find u = some w ∨ s.dir.find u = none) :
    ({ s with dir := s.dir.put (hashSet u) w (some e) } : State).overrideFor (some u) = e.override := by
  have found := Directory.find_put unit h
  have here : (s.dir.put (hashSet u) w (some e)).at (hashSet u) w = some e := by rw [Directory.put_at, if_pos
    ⟨rfl, rfl⟩]
  simp [State.overrideFor, Directory.entry, found, here]

/-! ## The ports reached (R47) -/

/-- One port of the unit whose override priority has changed hands its effective priority to its arbiter. -/
def State.reachUnit (before : State) (u : UnitId) (z : State) (p : PortId) : State :=
  if (z.port p).unit = some u then z.handPriority p (before.effPriority p) else z

theorem reachUnit_eq (before : State) (u : UnitId) (z : State) (p : PortId) :
    before.reachUnit u z p = match z.memberOf p with
      | some b => if (z.port p).unit = some u ∧ (z.port p).engaged = true ∧ z.effPriority p ≠ before.effPriority p
          then (z.takePriority b p).handOn else z
      | none => z := by
  unfold State.reachUnit
  cases member : z.memberOf p with
  | none => split <;> simp [handPriority_unchanged (.inr (.inr member))]
  | some b =>
    dsimp only
    split
    · next is =>
      split
      · next all => exact handPriority_of_member all.2.2 all.2.1 member
      · next fails =>
        refine handPriority_unchanged ?_
        by_contra no
        simp only [not_or, Bool.not_eq_false] at no
        exact fails ⟨is, no.2.1, no.1⟩
    · next other => rw [if_neg fun all => other all.1]

theorem reachUnit_withLink (before : State) (u : UnitId) (z : State) (l : Link) (p : PortId) :
    before.reachUnit u (z.withLink l) p = (before.reachUnit u z p).withLink l := by
  unfold State.reachUnit
  rw [port_withLink, handPriority_withLink]
  exact (apply_ite (State.withLink l) _ _ _).symm

theorem handOverride_of_changed (before : State) (u : UnitId) (v : State) : before.handOverride u v =
    if before.overrideFor (some u) = v.overrideFor (some u) then v else allPorts.foldl (before.reachUnit u) v := rfl

theorem handOverride_backdrop (before : State) (u : UnitId) (v : State) :
    (before.handOverride u v).backdrop = v.backdrop := by
  rw [handOverride_of_changed]
  split
  · rfl
  · refine foldl_backdrop _ (fun z p => ?_) _ _
    unfold State.reachUnit
    split
    · exact handPriority_backdrop ..
    · rfl

theorem handOverride_withLink (before : State) (u : UnitId) (v : State) (l : Link) :
    (before.withLink l).handOverride u (v.withLink l) = (before.handOverride u v).withLink l := by
  rw [handOverride_of_changed, handOverride_of_changed, foldl_withLink _ (reachUnit_withLink _ u)]
  exact (apply_ite (State.withLink l) _ _ _).symm

/-- Where the override priority is unchanged, so is each effective priority, and no port is reached. -/
theorem handOverride_eq (ports : v.ports = s.ports) : s.handOverride u v = allPorts.foldl (s.reachUnit u) v := by
  rw [handOverride_of_changed]
  split
  · next same =>
    refine Eq.symm (KeptByOperations.foldl (P := fun z => z = v) (fun z p hz => ?_) allPorts rfl)
    subst hz
    unfold State.reachUnit
    split
    · next unit =>
      have port := port_of_ports ports p
      refine handPriority_unchanged (.inl (effPriority_of_override_same ?_ ?_ ?_))
      · rw [port]
      · rw [port]
      · rw [unit, ← port, unit, same]
    · rfl
  · rfl

/-! ## The requests -/

theorem overrideOf_eq_none {x : Byte} (above : 3 < x.toNat) (other : x ≠ 0x0F) : overrideOf x = none := by
  rw [overrideOf, if_neg other, if_neg (Nat.not_le.mpr above)]

theorem overrideOf_overrideByte {o : Option Nat} (h : ∀ n, o = some n → n ≤ 3) :
    overrideOf (overrideByte o) = some o := by
  cases o with
  | none => rfl
  | some n =>
    have small := h n rfl
    have value : (natByte n).toNat = n := (natByte_toNat n).trans (Nat.mod_eq_of_lt (by omega))
    have other : natByte n ≠ 0x0F := fun is => by
      rw [is] at value
      have : (0x0F : Byte).toNat = 15 := rfl
      omega
    show overrideOf (natByte n) = some (some n)
    rw [overrideOf, if_neg other, value, if_pos small]

theorem validUnit_of_ne (zero : u ≠ 0) (ones : u ≠ 0xFFFF) : validUnit u = true :=
  Bool.eq_true_of_not_eq_false fun no => (validUnit_eq_false_iff.mp no).elim zero ones

theorem handOverride_link (before : State) (u : UnitId) (v : State) : (before.handOverride u v).link = v.link := by
  have link := congrArg State.link (handOverride_backdrop before u v)
  exact link

theorem enter_of_invalid (invalid : u = 0 ∨ u = 0xFFFF) (agency role ovr : Byte) (s : State) :
    enter u agency role ovr s = s.refuse resRefusedRange := if_pos (validUnit_eq_false_iff.mpr invalid)

theorem enter_of_unlisted {ovr : Byte} (h : overrideOf ovr = none) (agency role : Byte) (s : State) :
    enter u agency role ovr s = s.refuse resRefusedRange := by
  unfold enter
  split
  · rfl
  · rw [h]

section
variable {a : BitVec 4} {r : BitVec 3} {o : Option Nat} {agency role : Byte} {w : Fin 4} {e : Entry}

theorem enter_of_listed (valid : validUnit u = true) (bounded : ∀ n, o = some n → n ≤ 3)
    (ha : a.toNat = min agency.toNat 15) (hr : r.toNat = min role.toNat 7) (s : State) :
    enter u agency role (overrideByte o) s = match s.enterUnit u a r o with
      | none => s.refuse resFull
      | some (w, d) => (State.handOverride s u { s with dir := d },
          some ⟨okOr (15 < agency.toNat || 7 < role.toNat), [natByte (hashSet u).val, natByte w.val]⟩) := by
  have agency_eq : BitVec.ofNat 4 (clamp 0 15 agency.toNat) = a := BitVec.eq_of_toNat_eq (by simp [clamp]; omega)
  have role_eq : BitVec.ofNat 3 (clamp 0 7 role.toNat) = r := BitVec.eq_of_toNat_eq (by simp [clamp]; omega)
  unfold enter
  rw [if_neg (by rw [valid]; exact nofun), overrideOf_overrideByte bounded, agency_eq, role_eq] <;> rfl

/-- The way and the entry that UNIT_ENTER writes (R43 steps 4 and 5). -/
def State.enters (s : State) (u : UnitId) (a : BitVec 4) (r : BitVec 3) (o : Option Nat) (w : Fin 4) (e : Entry) :
    Prop :=
  s.dir.find u = some w ∧ (∃ old : Entry, s.dir.at (hashSet u) w = some old
      ∧ e = { old with kind := .registered, agency := a, role := r, override := o })
    ∨ s.dir.find u = none ∧ s.dir.room (hashSet u) = some w
      ∧ e = { unit := u, kind := .registered, agency := a, role := r, override := o
              emergency := decide (∃ p : PortId, (s.port p).emergency = .active (some u))
              lastPort := none, stamp := s.dir.count }

theorem enterUnit_of_enters (h : s.enters u a r o w e) :
    s.enterUnit u a r o = some (w, s.dir.put (hashSet u) w (some e)) := by
  unfold State.enterUnit
  rcases h with ⟨found, old, there, rfl⟩ | ⟨found, room, rfl⟩
  · simp only [found, Directory.modify_of_find found, there, Option.map_some]
  · simp only [found, room, Option.map_some, State.enteredEntry, anySourced_eq]

theorem override_of_enters (h : s.enters u a r o w e) :
    ({ s with dir := s.dir.put (hashSet u) w (some e) } : State).overrideFor (some u) = o := by
  rcases h with ⟨found, old, there, rfl⟩ | ⟨found, room, rfl⟩
  · obtain ⟨x, at_w, unit⟩ := Directory.at_of_find found
    rw [there] at at_w
    cases at_w
    exact overrideFor_put_self unit (.inl found)
  · exact overrideFor_put_self rfl (.inr found)

end

theorem remove_of_found {w : Fin 4} {e : Entry} (valid : validUnit u = true) (found : s.dir.find u = some w)
    (there : s.dir.at (hashSet u) w = some e) : remove u s = if e.emergency then s.refuse resRefusedState
      else State.answerOk [] (State.handOverride s u { s with dir := s.dir.put (hashSet u) w none }) := by
  unfold remove
  rw [if_neg (by rw [valid]; exact nofun), found]
  dsimp only
  rw [there]
  rfl

/-- Where each unit has one entry, one that loses it has no override priority. -/
theorem overrideFor_freed_self {w : Fin 4} (rule : s.directoryRule) (found : s.dir.find u = some w) :
    ({ s with dir := s.dir.put (hashSet u) w none } : State).overrideFor (some u) = none := by
  refine Option.eq_none_iff_forall_ne_some.mpr fun o is => ?_
  obtain ⟨w', e, there, unit, -⟩ := (overrideFor_iff (directoryRule_freed found rule)).mp is
  rw [Directory.put_at] at there
  split at there
  · cases there
  · next other =>
    have same := (find_eq_some_iff rule).mpr ⟨e, there, unit⟩
    rw [found] at same
    cases same
    exact other ⟨rfl, rfl⟩

/-- Settles O15: each refusal by its step, and what is written by what it hands to the ports of the unit. -/
theorem unitEntriesAreEnteredAndRemoved : Obligations.UnitEntriesAreEnteredAndRemoved := by
  unfold Obligations.UnitEntriesAreEnteredAndRemoved
  intro reached
  have reached_eq (s : State) (u : UnitId) : reached s u = s.reachUnit u :=
    funext fun z => funext fun p => (reachUnit_eq s u z p).symm
  refine ⟨fun s u agency role ovr h => ⟨fun invalid => ?_, fun above other => ?_,
    fun o a r zero ones listed bounded ha hr => ⟨fun found full => ?_, fun w e enters => ?_⟩⟩,
    fun s u h => ⟨fun invalid => ?_, fun zero ones => ⟨fun found => ?_,
      fun w e found there => ⟨fun emergency => ?_, fun clear => ?_⟩⟩⟩⟩
  · exact request_unchanged (act := enter u agency role ovr) (a := .bare _) h 0x0D
      (by simp [Config.maxPayload, halfBytes])
      (enter_of_invalid invalid agency role ovr _)
  · exact request_unchanged (act := enter u agency role ovr) (a := .bare _) h 0x0D
      (by simp [Config.maxPayload, halfBytes])
      (enter_of_unlisted (overrideOf_eq_none above other) agency role _)
  · subst listed
    refine request_unchanged (act := enter u agency role _) (a := .bare _) h 0x0D
      (by simp [Config.maxPayload, halfBytes]) ?_
    rw [enter_of_listed (validUnit_of_ne zero ones) bounded ha hr, State.enterUnit, accepting_dir, found]
    dsimp only
    rw [full]
    rfl
  · subst listed
    have written := override_of_enters enters
    obtain ⟨v, hv⟩ : ∃ v : State, v = { s with dir := s.dir.put (hashSet u) w (some e) } := ⟨_, rfl⟩
    rw [← hv] at written
    refine ⟨_, v, okOr (15 < agency.toNat || 7 < role.toNat),
      request_of_withLink (t := s.handOverride u v) (act := enter u agency role (overrideByte o))
        (a := ⟨okOr (15 < agency.toNat || 7 < role.toNat), [natByte (hashSet u).val, natByte w.val]⟩) h 0x0D
        (by simp [Config.maxPayload, halfBytes]) (fun l => ?_) (by rw [handOverride_link, hv]), ?_, hv, ?_,
      fun same => ?_, ?_⟩
    · rw [enter_of_listed (validUnit_of_ne zero ones) bounded ha hr,
        enterUnit_of_enters (s := s.withLink l) (w := w) (e := e) enters]
      refine Prod.ext ?_ rfl
      rw [hv]
      exact handOverride_withLink s u { s with dir := s.dir.put (hashSet u) w (some e) } l
    · refine okOr_cases (P := agency.toNat ≤ 15 ∧ role.toNat ≤ 7) (by simp) |>.imp_right fun ⟨code, not⟩ => ⟨code, ?_⟩
      omega
    · exact answered_backdrop_congr (handOverride_backdrop ..)
    · rw [handOverride_of_changed, if_pos (same.trans written.symm)]
      rfl
    · rw [handOverride_eq (by rw [hv]), reached_eq]
      rfl
  · exact request_unchanged (act := remove u) (a := .bare _) h 0x0E (by simp [Config.maxPayload, halfBytes])
      (if_pos (validUnit_eq_false_iff.mpr invalid))
  · refine request_unchanged (act := remove u) (a := .bare _) h 0x0E (by simp [Config.maxPayload, halfBytes]) ?_
    unfold remove
    rw [if_neg (by rw [validUnit_of_ne zero ones]; exact nofun), accepting_dir, found]
    rfl
  · refine request_unchanged (act := remove u) (a := .bare _) h 0x0E (by simp [Config.maxPayload, halfBytes]) ?_
    rw [remove_of_found (s := s.accepting) (validUnit_of_ne zero ones) found there, if_pos emergency]
    rfl
  · refine ⟨_, { s with dir := s.dir.put (hashSet u) w none },
      request_of_withLink (t := s.handOverride u { s with dir := s.dir.put (hashSet u) w none }) (act := remove u)
        (a := .ok []) h 0x0E (by simp [Config.maxPayload, halfBytes]) (fun l => ?_)
          (handOverride_link s u _), rfl, ?_, fun rule none => ?_, ?_⟩
    · rw [remove_of_found (s := s.withLink l) (validUnit_of_ne zero ones) found there, if_neg
        (by rw [clear]; exact nofun)]
      exact Prod.ext (handOverride_withLink s u { s with dir := s.dir.put (hashSet u) w none } l) rfl
    · exact answered_backdrop_congr (handOverride_backdrop ..)
    · have had : s.overrideFor (some u) = Option.none := by
        simp [State.overrideFor, Directory.entry, found, there, none]
      rw [handOverride_of_changed, if_pos (had.trans (overrideFor_freed_self rule found).symm)]
      rfl
    · rw [handOverride_eq (s := s) (v := { s with dir := s.dir.put (hashSet u) w none }) rfl, reached_eq]
      rfl

end

end Sys2Proof.Machine
end

section
/-! SUPPORT. CLEAR_BRIDGES and MIXER_HALT (R94, R95, R122, R129): what they make of every bridge and every port, and
what they report. -/

namespace Sys2Proof.Machine

section
variable {s t : State} {b : BridgeId} {p : PortId} {q : Port}

/-! ## A change of every port, reported (R20) -/

/-- Every port of a list changed by itself, with each change reported. -/
@[irreducible] def State.portsReported (g : Port → Port) (ps : List PortId) (s : State) : State :=
  ps.foldl (fun s p => s.portReported p (g (s.port p))) s

theorem portsReported_nil (g : Port → Port) (s : State) : s.portsReported g [] = s := by
  rw [State.portsReported, List.foldl_nil]

theorem portsReported_cons (g : Port → Port) (p : PortId) (ps : List PortId) (s : State) :
    s.portsReported g (p :: ps) = (s.portReported p (g (s.port p))).portsReported g ps := by
  rw [State.portsReported, State.portsReported, List.foldl_cons]

theorem portsReported_frame (g : Port → Port) (ps : List PortId) (s : State) : s.portsReported g ps = { s with
    ports := (s.portsReported g ps).ports
    notices := { s.notices with marks := (s.portsReported g ps).notices.marks } } := by
  induction ps generalizing s with
  | nil => rw [portsReported_nil]
  | cons p ps ih => rw [portsReported_cons]; exact ih _

theorem portsReported_port (g : Port → Port) (ps : List PortId) (once : ps.Nodup) (s : State) (r : PortId) :
    (s.portsReported g ps).port r = if r ∈ ps then g (s.port r) else s.port r := by
  induction ps generalizing s with
  | nil => rw [portsReported_nil, if_neg List.not_mem_nil]
  | cons p ps ih =>
    obtain ⟨new, rest⟩ := List.nodup_cons.mp once
    rw [portsReported_cons, ih rest, port_portReported]
    by_cases here : r = p
    · subst here
      rw [if_neg new, if_pos rfl, if_pos List.mem_cons_self]
    · simp only [here, if_false, List.mem_cons, false_or]

theorem portReported_marks (s : State) (p : PortId) (q : Port) (src : Source) :
    (s.portReported p q).notices.marks[src] = true ↔ s.notices.marks[src] = true
      ∨ src = srcPort p ∧ s.notices.switches[src] = true ∧ (s.port p).sameReported q = false := by
  rw [show (s.portReported p q).notices.marks[src] = _ from marksIf_getElem s _ _ src]
  simp only [Bool.or_eq_true, Bool.and_eq_true, decide_eq_true_iff, Bool.not_eq_true']
  tauto

theorem portsReported_marks (g : Port → Port) (ps : List PortId) (once : ps.Nodup) (s : State) (src : Source) :
    (s.portsReported g ps).notices.marks[src] = true ↔ s.notices.marks[src] = true
      ∨ ∃ p ∈ ps, src = srcPort p ∧ s.notices.switches[src] = true ∧ (s.port p).sameReported (g
        (s.port p)) = false := by
  induction ps generalizing s with
  | nil => rw [portsReported_nil]; exact ⟨.inl, fun h => h.resolve_right fun ⟨p, hp, _⟩ => nomatch hp⟩
  | cons p ps ih =>
    obtain ⟨new, rest⟩ := List.nodup_cons.mp once
    have port (r : PortId) (hr : r ∈ ps) : (s.portReported p (g (s.port p))).port r = s.port r := by
      rw [port_portReported, if_neg fun same : r = p => new (same ▸ hr)]
    rw [portsReported_cons, ih rest, portReported_marks, or_assoc]
    refine or_congr_right ?_
    constructor
    · rintro (now | ⟨r, hr, is, on, changed⟩)
      · exact ⟨p, List.mem_cons_self, now⟩
      · rw [port r hr] at changed
        exact ⟨r, List.mem_cons_of_mem p hr, is, on, changed⟩
    · rintro ⟨r, hr, is, on, changed⟩
      rcases List.mem_cons.mp hr with rfl | hr
      · exact .inl ⟨is, on, changed⟩
      · exact .inr ⟨r, hr, is, on, by rw [port r hr]; exact changed⟩

/-- Operations on the ports in turn that are, while a condition on the bridges and plans stands, reported changes. -/
theorem foldl_eq_portsReported {f : State → PortId → State} {P : State → Prop} (g : Port → Port)
    (same : ∀ s t : State, t.bridges = s.bridges → P s → P t)
    (eq : ∀ s p, P s → f s p = s.portReported p (g (s.port p))) (ps : List PortId) (hs : P s) :
    ps.foldl f s = s.portsReported g ps := by
  induction ps generalizing s with
  | nil => rw [List.foldl_nil, portsReported_nil]
  | cons p ps ih =>
    rw [List.foldl_cons, portsReported_cons, eq s p hs]
    exact ih (same s _ rfl hs)

theorem portReported_self (s : State) (p : PortId) : s.portReported p (s.port p) = s := by
  have set : s.ports.set p (s.port p) = s.ports := by simp [State.port]
  have marks : s.marksIf (!(s.port p).sameReported (s.port p)) (srcPort p) = s.notices.marks := by
    rw [Port.sameReported_self]
    rfl
  unfold State.portReported
  rw [set, marks]

theorem bridgeReported_self (s : State) (b : BridgeId) : s.bridgeReported false b (s.bridge b) = s := by
  have set : s.bridges.set b (s.bridge b) = s.bridges := by simp [State.bridge]
  have marks : s.marksIf (false || !(s.bridge b).sameReported (s.bridge b)) (srcBridge b) = s.notices.marks := by
    rw [Bridge.sameReported_refl]
    rfl
  unfold State.bridgeReported
  rw [set, marks]

/-! ## Bars (R94 step 3) -/

/-- A port that is engaged is barred. -/
def Port.barredIf (q : Port) : Port := { q with bar := q.bar || q.engaged }

theorem barEngaged_eq (s : State) (p : PortId) : s.barEngaged p = s.portReported p (s.port p).barredIf := by
  unfold State.barEngaged Port.barredIf
  cases engaged : (s.port p).engaged with
  | true =>
    rw [if_pos rfl, Bool.or_true]
    exact (updatePort_eq rfl).trans (by rw [engaged])
  | false =>
    rw [if_neg nofun, Bool.or_false]
    exact (portReported_self s p).symm.trans (by rw [← engaged])

/-! ## Key machines cleared (R122) -/

/-- A port whose engagement has been judged, a beginning barred (R16, R17, R18). -/
def Port.judgedBarred (q : Port) : Port :=
  if q.engaged = false ∧ q.mayEngage = true then { q with
    engaged := true, bar := true, pendingId := none, unit := (q.pendingId.map (·.unit)).or q.unit }
  else if q.engaged = true ∧ q.mayEngage = false then { q with engaged := false, bar := false, unit := none }
  else q

/-- A port whose key machine has been cleared (R122). -/
def Port.cleared (q : Port) : Port :=
  match q.key with
  | .keyed | .drain | .hang =>
    if q.lifecycle = .active ∧ q.setup.blank ≠ 0 then q.moved .blank else (q.moved .idle).judgedBarred
  | .blank | .cool => (q.moved .idle).judgedBarred
  | .deferred => q.moved .idle
  | .idle => q

/-- No bridge has a holder, an entry of its stack or one of its queue. -/
def State.bridgesVacant (s : State) : Prop :=
  ∀ b : BridgeId, (s.bridge b).holder = none ∧ (s.bridge b).stack = [] ∧ (s.bridge b).queue = []

theorem leavePlace_of_vacant (h : s.bridgesVacant) : (s.leavePlace b p).bridge b = s.bridge b := by
  obtain ⟨holder, stack, queue⟩ := h b
  unfold State.leavePlace
  rw [if_neg (by rw [holder]; exact nofun), State.bridge_updateBridge_same, stack, queue]
  cases r : s.bridge b
  rw [r] at stack queue
  cases stack
  cases queue
  rfl

theorem endEngagement_of_vacant (h : s.bridgesVacant) (on : (s.port p).engaged = true) :
    s.endEngagement p = s.portReported p { s.port p with engaged := false, bar := false, unit := none } := by
  have changed : (s.port p).sameReported { s.port p with engaged := false, bar := false, unit := none } = false := by
    simp [Port.sameReported, on]
  rcases endEngagement_eq s p with ⟨b, w, r, -, rfl, rfl, eq⟩ | ⟨-, eq⟩
  · have still : (s.portReported p { s.port p with engaged := false }).bridgeReported false b (s.bridge b)
        = s.portReported p { s.port p with engaged := false } := bridgeReported_self _ b
    rw [eq, leavePlace_of_vacant h, still, portReported_portReported changed]
  · rw [eq, portReported_portReported changed]

theorem judgeEngagement_of_vacant (h : s.bridgesVacant) :
    s.judgeEngagement true p = s.portReported p (s.port p).judgedBarred := by
  unfold Port.judgedBarred
  cases on : (s.port p).engaged <;> cases may : (s.port p).mayEngage
  · rw [judgeEngagement_of_right (on.trans may.symm)]
    exact (portReported_self s p).symm
  · rw [judgeEngagement_of_begins on may, beginEngagement_eq]
    rfl
  · rw [judgeEngagement_of_ends on may]
    exact endEngagement_of_vacant h on
  · rw [judgeEngagement_of_right (on.trans may.symm)]
    exact (portReported_self s p).symm

theorem judged_key (q : Port) : q.judgedBarred.key = q.key := by
  unfold Port.judgedBarred
  split
  · rfl
  · split <;> rfl

/-- The engagement judged on a port whose key machine has just entered IDLE, as one change. -/
theorem enterIdle_of_vacant (h : s.bridgesVacant) (moves : (s.port p).key ≠ .idle) :
    (s.portReported p ((s.port p).moved .idle)).judgeEngagement true p
      = s.portReported p ((s.port p).moved .idle).judgedBarred := by
  rw [judgeEngagement_of_vacant (s := s.portReported p ((s.port p).moved .idle)) h, port_portReported_same]
  exact portReported_portReported (sameReported_of_key (by rw [judged_key]; exact moves))

/-- With every bridge vacant, a key machine that is cleared changes its port alone, by the port (R122). -/
theorem clearKey_of_vacant (h : s.bridgesVacant) (p : PortId) :
    s.clearKey p = s.portReported p (s.port p).cleared := by
  have idle (moves : (s.port p).key ≠ .idle) : s.enterIdle true p
      = s.portReported p ((s.port p).moved .idle).judgedBarred := (enterIdle_eq s true p).trans
        (enterIdle_of_vacant h moves)
  have asserted (moves : (s.port p).key ≠ .idle) : (if (s.port p).lifecycle = .active then s.enterBlank true p
      else s.enterIdle true p) = s.portReported p (if (s.port p).lifecycle = .active ∧ (s.port p).setup.blank ≠ 0
        then (s.port p).moved .blank else ((s.port p).moved .idle).judgedBarred) := by
    by_cases active : (s.port p).lifecycle = .active
    · by_cases zero : (s.port p).setup.blank = 0
      · rw [if_pos active, if_neg fun both => both.2 zero, enterBlank_of_zero true zero moves, enterIdle_of_vacant h
          moves]
      · rw [if_pos active, if_pos ⟨active, zero⟩, enterBlank_of_pos true zero]
    · rw [if_neg active, if_neg fun both => active both.1, idle moves]
  unfold State.clearKey Port.cleared
  dsimp only
  cases key : (s.port p).key with
  | idle => exact (portReported_self s p).symm
  | deferred => exact setKey_eq s p .idle 0 0
  | keyed => exact asserted (by rw [key]; exact nofun)
  | drain => exact asserted (by rw [key]; exact nofun)
  | hang => exact asserted (by rw [key]; exact nofun)
  | blank => exact idle (by rw [key]; exact nofun)
  | cool => exact idle (by rw [key]; exact nofun)

/-- A port that is barred where it is engaged, cleared, is so too (R94, R122). -/
theorem barred_judged (h : q.engaged = true → q.bar = true) (on : q.judgedBarred.engaged = true) :
    q.judgedBarred.bar = true := by
  unfold Port.judgedBarred at on ⊢
  split at on
  · next begins => rw [if_pos begins]
  · next stays =>
    split at on
    · cases on
    · next still => rw [if_neg stays, if_neg still]; exact h on

theorem barred_cleared (h : q.engaged = true → q.bar = true) (on : q.cleared.engaged = true) :
    q.cleared.bar = true := by
  unfold Port.cleared at on ⊢
  have asserted : (if q.lifecycle = .active ∧ q.setup.blank ≠ 0 then q.moved .blank
        else (q.moved .idle).judgedBarred).engaged = true → (if q.lifecycle = .active ∧ q.setup.blank ≠ 0
        then q.moved .blank else (q.moved .idle).judgedBarred).bar = true := by
    split
    · exact h
    · exact barred_judged h
  cases key : q.key with
  | idle => rw [key] at on; exact h on
  | deferred => rw [key] at on; exact h on
  | keyed => rw [key] at on; exact asserted on
  | drain => rw [key] at on; exact asserted on
  | hang => rw [key] at on; exact asserted on
  | blank => rw [key] at on; exact barred_judged h on
  | cool => rw [key] at on; exact barred_judged h on

theorem barred_barredIf (q : Port) (on : q.barredIf.engaged = true) : q.barredIf.bar = true := by
  have engaged : q.engaged = true := on
  simp [Port.barredIf, engaged]

/-- A bar and a clearing are reported exactly where the port has changed by both. -/
theorem sameReported_cleared (q : Port) : q.sameReported q.barredIf.cleared = false
    ↔ q.sameReported q.barredIf = false ∨ q.barredIf.sameReported q.barredIf.cleared = false := by
  cases same : q.sameReported q.barredIf with
  | true => rw [Port.sameReported_trans same]; simp
  | false =>
    refine iff_of_true (Bool.eq_false_of_not_eq_true fun all => ?_) (.inl rfl)
    obtain ⟨-, engaged, bar, -, -⟩ := Port.sameReported_iff.mp all
    have barred (on : q.engaged = true) : q.bar = true :=
      bar.trans (barred_cleared (barred_barredIf q) (engaged.symm.trans on))
    have kept : (q.bar || q.engaged) = q.bar := by
      cases on : q.engaged with
      | true => rw [barred on]; rfl
      | false => rw [Bool.or_false]
    have none : q.barredIf = q := by rw [Port.barredIf, kept]
    rw [none, Port.sameReported_self] at same
    cases same

/-! ## Every bridge emptied (R94 step 2) -/

/-- Everything of a bridge's runtime record but its write position at rest (R94). -/
def Bridge.emptied (r : Bridge) : Bridge :=
  { r with holder := none, stack := [], queue := [], burst := 0, phase := .start, ring := [] }

theorem emptiesBridges_perBridge : ActsPerBridge State.emptyBridge fun s b => (s.bridge b).holder ≠ none
    ∨ (s.bridge b).stack ≠ [] ∨ (s.bridge b).queue ≠ [] ∨ (s.bridge b).burst ≠ 0 where
  acts s b := by
    unfold State.emptyBridge State.reportIf
    dsimp only
    split
    · exact (actsOn_updateBridge s b _).trans (actsOn_reportChange _ b _)
    · exact actsOn_updateBridge s b _
  bridge s t b c acts other := by rw [emptyBridge_bridge, emptyBridge_bridge, acts.other b other]
  cond s t b c acts other := by rw [acts.other b other]
  flags s b := by
    unfold State.emptyBridge
    dsimp only
    rw [State.reportIf_flags, State.updateBridge_flags]
  marks s b src := by
    have changed (r : Bridge) : r.sameReported r.emptied = false ↔ r.holder ≠ none ∨ r.stack ≠ [] ∨ r.queue ≠ [] := by
      rw [← Bool.not_eq_true, Bridge.sameReported_iff]
      simp only [Bridge.emptied, stackView, Option.map_eq_none_iff, List.map_eq_nil_iff, Option.map_none, List.map_nil]
      tauto
    have here := changed (s.bridge b)
    unfold State.emptyBridge
    dsimp only
    rw [reportIf_marks, updateBridge_marks, State.updateBridge_switches]
    rw [Bridge.emptied] at here
    by_cases is : src = srcBridge b
    · subst is
      simp only [here, Bool.or_eq_true, decide_eq_true_iff, bne_iff_ne]
      tauto
    · simp [is]

/-- The console off and every bridge empty, with each change reported (R94 steps 1 and 2). -/
@[irreducible] def State.bridgesEmptied (s : State) : State := allBridges.foldl State.emptyBridge
  (State.reportIf (s.console.talk != 0) srcConsole { s with console := { s.console with talk := 0 } })

theorem bridgesEmptied_frame (s : State) : s.bridgesEmptied = { s with
    console := { s.console with talk := 0 }, bridges := s.bridgesEmptied.bridges
    notices := { s.notices with marks := s.bridgesEmptied.notices.marks } } := by
  have frame := emptiesBridges_perBridge.foldl_frame allBridges
    (State.reportIf (s.console.talk != 0) srcConsole { s with console := { s.console with talk := 0 } })
  unfold State.bridgesEmptied
  generalize allBridges.foldl State.emptyBridge _ = x at frame ⊢
  rw [reportIf_eq] at frame
  exact frame

theorem bridgesEmptied_bridge (s : State) (b : BridgeId) : s.bridgesEmptied.bridge b = (s.bridge b).emptied := by
  unfold State.bridgesEmptied
  rw [emptiesBridges_perBridge.foldl_bridge _ nodup_allBridges, if_pos
    (mem_allBridges b), emptyBridge_bridge, if_pos rfl,
    bridge_reportIf]
  rfl

theorem bridgesEmptied_marks (s : State) (src : Source) : s.bridgesEmptied.notices.marks[src] = true
    ↔ (s.notices.marks[src] = true ∨ src = srcConsole ∧ s.notices.switches[src] = true ∧ s.console.talk ≠ 0)
      ∨ ∃ b : BridgeId, src = srcBridge b ∧ s.notices.switches[src] = true ∧ ((s.bridge b).holder ≠ none
        ∨ (s.bridge b).stack ≠ [] ∨ (s.bridge b).queue ≠ [] ∨ (s.bridge b).burst ≠ 0) := by
  unfold State.bridgesEmptied
  rw [emptiesBridges_perBridge.foldl_marks _ nodup_allBridges, State.reportIf_switches, reportIf_marks]
  simp only [bridge_reportIf, mem_allBridges, true_and, Bool.or_eq_true, decide_eq_true_iff, bne_iff_ne,
    and_comm (a := s.console.talk ≠ 0)]
  exact or_congr_left (or_congr_right (and_congr_right fun is => by subst is; rfl))

theorem nodup_allPorts : allPorts.Nodup := by decide

theorem bridgesEmptied_vacant (s : State) : s.bridgesEmptied.bridgesVacant := fun b => by
  rw [bridgesEmptied_bridge]
  exact ⟨rfl, rfl, rfl⟩

/-! ## The whole of CLEAR_BRIDGES -/

theorem foldl_barEngaged_eq (ps : List PortId) (s : State) :
    ps.foldl State.barEngaged s = s.portsReported Port.barredIf ps :=
  foldl_eq_portsReported (P := fun _ => True) Port.barredIf (fun _ _ _ _ => trivial) (fun s p _ => barEngaged_eq s p) ps
    trivial

theorem foldl_clearKey_eq (ps : List PortId) (h : s.bridgesVacant) :
    ps.foldl State.clearKey s = s.portsReported Port.cleared ps :=
  foldl_eq_portsReported Port.cleared (fun s t same h b => by rw [bridge_of_bridges same]; exact h b)
    (fun s p h => clearKey_of_vacant h p) ps h

theorem portsReported_vacant (g : Port → Port) (ps : List PortId) (h : s.bridgesVacant) :
    (s.portsReported g ps).bridgesVacant := fun b => by
  have frame := congrArg State.bridges (portsReported_frame g ps s)
  rw [bridge_of_bridges (s := s) frame]
  exact h b

theorem clearAllBridges_eq (s : State) : s.clearAllBridges
    = (s.bridgesEmptied.portsReported Port.barredIf allPorts).portsReported Port.cleared allPorts := by
  have whole : s.clearAllBridges = allPorts.foldl State.clearKey
    (allPorts.foldl State.barEngaged s.bridgesEmptied) := by
    unfold State.bridgesEmptied State.clearAllBridges
    dsimp only
  rw [whole, foldl_barEngaged_eq]
  exact foldl_clearKey_eq allPorts (portsReported_vacant _ _ (bridgesEmptied_vacant s))

theorem clearAllBridges_frame (s : State) : s.clearAllBridges = { s with
    console := { s.console with talk := 0 }, bridges := s.bridgesEmptied.bridges, ports := s.clearAllBridges.ports
    notices := { s.notices with marks := s.clearAllBridges.notices.marks } } := by
  have emptied := bridgesEmptied_frame s
  have barred := portsReported_frame Port.barredIf allPorts s.bridgesEmptied
  have cleared := portsReported_frame Port.cleared allPorts (s.bridgesEmptied.portsReported Port.barredIf allPorts)
  rw [← clearAllBridges_eq] at cleared
  generalize s.clearAllBridges = z at cleared ⊢
  rw [barred] at cleared
  have both : z = { s.bridgesEmptied with ports := z.ports
                                          notices := { s.bridgesEmptied.notices with marks := z.notices.marks } } :=
                                            cleared
  rw [emptied] at both
  exact both

theorem clearAllBridges_bridge (s : State) (b : BridgeId) : s.clearAllBridges.bridge b = (s.bridge b).emptied := by
  have frame := congrArg State.bridges (clearAllBridges_frame s)
  rw [bridge_of_bridges (s := s.bridgesEmptied) frame]
  exact bridgesEmptied_bridge s b

theorem bridgesEmptied_port (s : State) (p : PortId) : s.bridgesEmptied.port p = s.port p := by
  have frame := congrArg State.ports (bridgesEmptied_frame s)
  exact port_of_ports frame p

theorem clearAllBridges_port (s : State) (p : PortId) :
    s.clearAllBridges.port p = (s.port p).barredIf.cleared := by
  rw [clearAllBridges_eq, portsReported_port _ _ nodup_allPorts, if_pos (mem_allPorts p),
    portsReported_port _ _ nodup_allPorts, if_pos (mem_allPorts p), bridgesEmptied_port]

theorem clearAllBridges_marks (s : State) (src : Source) : s.clearAllBridges.notices.marks[src] = true
    ↔ s.bridgesEmptied.notices.marks[src] = true ∨ ∃ p : PortId, src = srcPort p
      ∧ s.notices.switches[src] = true ∧ (s.port p).sameReported (s.clearAllBridges.port p) = false := by
  have switches (x : State) (h : x.notices.switches = s.bridgesEmptied.notices.switches) :
      x.notices.switches = s.notices.switches := h.trans (congrArg (·.notices.switches) (bridgesEmptied_frame s))
  have barred := congrArg (·.notices.switches) (portsReported_frame Port.barredIf allPorts s.bridgesEmptied)
  simp only [clearAllBridges_port, sameReported_cleared]
  rw [clearAllBridges_eq, portsReported_marks _ _ nodup_allPorts, portsReported_marks _ _ nodup_allPorts,
    switches _ barred, switches _ rfl]
  simp only [portsReported_port _ _ nodup_allPorts, mem_allPorts, if_true, bridgesEmptied_port, true_and, and_or_left,
    exists_or, or_assoc]

/-! ## What becomes of a port, as CLEAR_BRIDGES says it -/

/-- The key state of a port whose key machine has been cleared (R122). -/
def Port.restKey (q : Port) : KeyState :=
  if q.key.asserted = true ∧ q.lifecycle = .active ∧ q.setup.blank ≠ 0 then .blank else .idle

/-- A port barred and cleared, its engagement not yet judged. -/
def Port.still (q : Port) : Port := { q with
  bar := q.bar || q.engaged, key := q.restKey
  timing := if q.key = .idle then q.timing else 0
  keyUp := if q.key = .idle then q.keyUp else 0 }

/-- The key machine leaves for IDLE and has ended its blanking. -/
def Port.unblanks (q : Port) : Prop := q.restKey = .idle ∧ q.key ≠ .idle ∧ q.key ≠ .deferred

theorem still_of_moving (moves : q.key ≠ .idle) : q.still = q.barredIf.moved q.restKey := by
  rw [Port.still, if_neg moves, if_neg moves]
  rfl

theorem cleared_of_asserted (h : q.key.asserted = true) : q.cleared = if q.lifecycle = .active ∧ q.setup.blank ≠ 0
    then q.moved .blank else (q.moved .idle).judgedBarred := by
  unfold Port.cleared
  cases key : q.key with
  | keyed => rfl
  | drain => rfl
  | hang => rfl
  | idle => rw [key] at h; cases h
  | deferred => rw [key] at h; cases h
  | blank => rw [key] at h; cases h
  | cool => rw [key] at h; cases h

theorem cleared_of_silent (h : q.key = .blank ∨ q.key = .cool) : q.cleared = (q.moved .idle).judgedBarred := by
  unfold Port.cleared
  rcases h with key | key <;> rw [key]

theorem restKey_of_silent (h : q.key.asserted = false) : q.restKey = .idle :=
  if_neg fun all => by rw [h] at all; cases all.1

theorem asserted_or_silent (moves : q.key ≠ .idle) (undeferred : q.key ≠ .deferred) :
    q.key.asserted = true ∨ q.key.asserted = false ∧ (q.key = .blank ∨ q.key = .cool) := by
  cases key : q.key with
  | keyed => exact .inl rfl
  | drain => exact .inl rfl
  | hang => exact .inl rfl
  | idle => exact absurd key moves
  | deferred => exact absurd key undeferred
  | blank => exact .inr ⟨rfl, .inl rfl⟩
  | cool => exact .inr ⟨rfl, .inr rfl⟩

theorem cleared_of_unblanks (h : q.unblanks) : q.barredIf.cleared = q.still.judgedBarred := by
  obtain ⟨rest, moves, undeferred⟩ := h
  rw [still_of_moving moves, rest]
  rcases asserted_or_silent moves undeferred with asserted | ⟨-, silent⟩
  · refine (cleared_of_asserted (q := q.barredIf) asserted).trans (if_neg fun both => ?_)
    rw [Port.restKey, if_pos ⟨asserted, both⟩] at rest
    cases rest
  · exact cleared_of_silent (q := q.barredIf) silent

theorem cleared_of_not_unblanks (h : ¬ q.unblanks) : q.barredIf.cleared = q.still := by
  by_cases idle : q.key = .idle
  · have rest : q.restKey = q.key := (restKey_of_silent (by rw [idle]; rfl)).trans idle.symm
    have cleared : q.barredIf.cleared = q.barredIf := by
      unfold Port.cleared
      rw [show q.barredIf.key = _ from idle]
    rw [cleared, Port.still, if_pos idle, if_pos idle, rest]
    rfl
  · rw [still_of_moving idle]
    by_cases deferred : q.key = .deferred
    · rw [restKey_of_silent (by rw [deferred]; rfl)]
      unfold Port.cleared
      rw [show q.barredIf.key = _ from deferred]
    · have blanks : q.restKey ≠ .idle := fun rest => h ⟨rest, idle, deferred⟩
      rcases asserted_or_silent idle deferred with asserted | ⟨silent, -⟩
      · have both : q.lifecycle = .active ∧ q.setup.blank ≠ 0 := by
          by_contra no
          exact blanks (if_neg fun all => no all.2)
        rw [show q.restKey = .blank from if_pos ⟨asserted, both⟩]
        exact (cleared_of_asserted (q := q.barredIf) asserted).trans (if_pos both)
      · exact absurd (restKey_of_silent silent) blanks

/-- The judgement of an engagement leaves key machine and VOX sum alone. -/
theorem judgedBarred_keeps (q : Port) : q.judgedBarred.key = q.key ∧ q.judgedBarred.timing = q.timing
    ∧ q.judgedBarred.keyUp = q.keyUp ∧ q.judgedBarred.voxSum = q.voxSum := by
  unfold Port.judgedBarred
  split
  · exact ⟨rfl, rfl, rfl, rfl⟩
  · split <;> exact ⟨rfl, rfl, rfl, rfl⟩

theorem cleared_keeps (q : Port) : q.barredIf.cleared.key = q.restKey
    ∧ (q.key ≠ .idle → q.barredIf.cleared.timing = 0 ∧ q.barredIf.cleared.keyUp = 0)
    ∧ q.barredIf.cleared.voxSum = q.voxSum := by
  have still : q.still.key = q.restKey ∧ (q.key ≠ .idle → q.still.timing = 0 ∧ q.still.keyUp = 0)
      ∧ q.still.voxSum = q.voxSum := ⟨rfl, fun moves => ⟨if_neg moves, if_neg moves⟩, rfl⟩
  by_cases h : q.unblanks
  · obtain ⟨key, timing, keyUp, voxSum⟩ := judgedBarred_keeps q.still
    rw [cleared_of_unblanks h, key, timing, keyUp, voxSum]
    exact still
  · rw [cleared_of_not_unblanks h]
    exact still

/-! ## The requests -/

theorem emptyBridge_withLink (s : State) (l : Link) (b : BridgeId) :
    (s.withLink l).emptyBridge b = (s.emptyBridge b).withLink l := by
  simp only [State.emptyBridge, bridge_withLink, updateBridge_withLink, reportIf_withLink]

theorem barEngaged_withLink (s : State) (l : Link) (p : PortId) :
    (s.withLink l).barEngaged p = (s.barEngaged p).withLink l := by
  simp only [State.barEngaged, port_withLink, updatePort_withLink, apply_ite (State.withLink l)]

theorem clearKey_withLink (s : State) (l : Link) (p : PortId) :
    (s.withLink l).clearKey p = (s.clearKey p).withLink l := by
  simp only [State.clearKey, port_withLink, enterBlank_withLink, enterIdle_withLink, setKey_withLink]
  cases (s.port p).key with
  | keyed => exact (apply_ite (State.withLink l) _ _ _).symm
  | drain => exact (apply_ite (State.withLink l) _ _ _).symm
  | hang => exact (apply_ite (State.withLink l) _ _ _).symm
  | idle => rfl
  | deferred => rfl
  | blank => rfl
  | cool => rfl

theorem clearAllBridges_withLink (s : State) (l : Link) :
    (s.withLink l).clearAllBridges = s.clearAllBridges.withLink l := by
  unfold State.clearAllBridges
  dsimp only
  have off : (State.reportIf ((s.withLink l).console.talk != 0) srcConsole
      { s.withLink l with console := { (s.withLink l).console with talk := 0 } })
      = (State.reportIf (s.console.talk != 0) srcConsole
        { s with console := { s.console with talk := 0 } }).withLink l :=
    reportIf_withLink { s with console := { s.console with talk := 0 } } l _ _
  rw [off, foldl_withLink _ emptyBridge_withLink, foldl_withLink _ barEngaged_withLink, foldl_withLink _
    clearKey_withLink]

theorem barEngaged_backdrop (s : State) (p : PortId) : (s.barEngaged p).backdrop = s.backdrop := by
  unfold State.barEngaged
  split
  · exact updatePort_backdrop s p _ rfl
  · rfl

theorem clearAllBridges_backdrop (s : State) : s.clearAllBridges.backdrop = State.backdrop { s with
    console := { s.console with talk := 0 }, bridges := Vector.ofFn fun b => (s.bridge b).emptied } := by
  have whole : s.clearAllBridges = allPorts.foldl State.clearKey
    (allPorts.foldl State.barEngaged s.bridgesEmptied) := by
    unfold State.bridgesEmptied State.clearAllBridges
    dsimp only
  rw [whole, foldl_backdrop _ clearKey_backdrop, foldl_backdrop _ barEngaged_backdrop]
  refine backdrop_of_frames (v := { s with console := { s.console with talk := 0 } }) rfl (bridgesEmptied_frame s)
    fun b => ?_
  rw [bridgesEmptied_bridge]
  exact congrArg Bridge.backdrop (Vector.getElem_ofFn (f := fun b => (s.bridge b).emptied) b.isLt).symm

theorem clearAllBridges_link (s : State) : s.clearAllBridges.link = s.link := by
  have link := congrArg State.link (clearAllBridges_frame s)
  exact link

theorem exec_clearBridges (h : s.linkReady) :
    exec .clearBridges s = .next (s.clearAllBridges.answered 0x0C [0x00]) := by
  refine request_of_withLink (t := s.clearAllBridges) (act := clearBridges) (a := .ok []) h 0x0C
    (by simp [Config.maxPayload]) (fun l => ?_) (clearAllBridges_link s)
  unfold clearBridges
  rw [clearAllBridges_withLink]
  rfl

theorem exec_mixerHalt_of_halted (h : s.linkReady) (halted : s.mixer.mode = .halted) :
    exec .mixerHalt s = .next (s.clearAllBridges.answered 0x19 [0x00]) := by
  refine request_of_withLink (act := halt) (a := .ok []) h 0x19 (by simp [Config.maxPayload]) (fun l => ?_)
    (clearAllBridges_link s)
  unfold halt
  rw [show (s.withLink l).mixer.mode = _ from halted, clearAllBridges_withLink]
  rfl

theorem haltMixer_link (s : State) : s.haltMixer.link = s.link := rfl

theorem haltMixer_withLink (s : State) (l : Link) : (s.withLink l).haltMixer = s.haltMixer.withLink l := rfl

theorem haltMixer_backdrop (s : State) : s.haltMixer.backdrop = s.backdrop.haltMixer := by
  simp only [State.backdrop, State.haltMixer, Vector.map_map]
  rfl

theorem exec_mixerHalt_of_running (h : s.linkReady) (runs : s.mixer.mode = .run) :
    exec .mixerHalt s = .next (s.clearAllBridges.haltMixer.answered 0x19 [0x00]) := by
  refine request_of_withLink (t := s.clearAllBridges.haltMixer) (act := halt) (a := .ok []) h 0x19
    (by simp [Config.maxPayload]) (fun l => ?_) ((haltMixer_link _).trans (clearAllBridges_link s))
  unfold halt
  rw [show (s.withLink l).mixer.mode = _ from runs, clearAllBridges_withLink]
  exact congrArg (State.answerOk []) (haltMixer_withLink _ l)

/-! ## O37 -/

theorem srcBridge_inj {b c : BridgeId} (h : srcBridge b = srcBridge c) : b = c := by
  simpa [srcBridge, Fin.ext_iff] using h

theorem srcPort_inj {p r : PortId} (h : srcPort p = srcPort r) : p = r := by
  simpa [srcPort, Fin.ext_iff] using h

theorem srcBridge_ne_srcPort (b : BridgeId) (p : PortId) : srcBridge b ≠ srcPort p := by
  simp only [srcBridge, srcPort, ne_eq, Fin.ext_iff]
  omega

theorem srcDevice_apart : srcDevice ≠ srcConsole ∧ (∀ b : BridgeId, srcDevice ≠ srcBridge b)
    ∧ ∀ p : PortId, srcDevice ≠ srcPort p := ⟨by decide, by decide, by decide⟩

theorem srcConsole_apart : (∀ b : BridgeId, srcConsole ≠ srcBridge b) ∧ ∀ p : PortId, srcConsole ≠ srcPort p :=
  ⟨by decide, by decide⟩

/-- The marks of each source after CLEAR_BRIDGES. -/
theorem clearAllBridges_marks_by_source (s : State) :
    s.clearAllBridges.notices.marks[srcDevice] = s.notices.marks[srcDevice]
    ∧ s.clearAllBridges.notices.marks[srcConsole] = (s.notices.marks[srcConsole]
        || (s.notices.switches[srcConsole] && decide (s.console.talk ≠ 0)))
    ∧ (∀ b : BridgeId, s.clearAllBridges.notices.marks[srcBridge b] = (s.notices.marks[srcBridge b]
        || (s.notices.switches[srcBridge b] && decide ((s.bridge b).holder ≠ none ∨ (s.bridge b).stack ≠ []
          ∨ (s.bridge b).queue ≠ [] ∨ (s.bridge b).burst ≠ 0))))
    ∧ ∀ p : PortId, s.clearAllBridges.notices.marks[srcPort p] = (s.notices.marks[srcPort p]
        || (s.notices.switches[srcPort p] && !(s.port p).sameReported (s.clearAllBridges.port p))) := by
  obtain ⟨device, device_bridge, device_port⟩ := srcDevice_apart
  obtain ⟨console_bridge, console_port⟩ := srcConsole_apart
  have whole := clearAllBridges_marks s
  have first := bridgesEmptied_marks s
  refine ⟨?_, ?_, fun b => ?_, fun p => ?_⟩ <;> rw [Bool.eq_iff_iff, whole, first]
  · simp only [device, device_bridge, device_port, false_and, or_false, exists_false]
  · simp only [console_bridge, console_port, false_and, or_false, exists_false, true_and, Bool.or_eq_true,
      Bool.and_eq_true, decide_eq_true_iff]
  · have own (c : BridgeId) : srcBridge b = srcBridge c ↔ c = b := ⟨fun h => (srcBridge_inj h).symm, fun h => by rw [h]⟩
    simp only [(console_bridge b).symm, srcBridge_ne_srcPort, own, false_and, or_false, exists_false, exists_eq_left,
      Bool.or_eq_true, Bool.and_eq_true, decide_eq_true_iff]
  · have own (r : PortId) : srcPort p = srcPort r ↔ r = p := ⟨fun h => (srcPort_inj h).symm, fun h => by rw [h]⟩
    simp only [(console_port p).symm, (srcBridge_ne_srcPort _ p).symm, own, false_and, or_false, exists_false,
      exists_eq_left, Bool.or_eq_true, Bool.and_eq_true, Bool.not_eq_true']

/-- Settles O37: every bridge, every port and every mark after the clearing, and what the halt adds. -/
theorem clearBridgesAndMixerHalt : Obligations.ClearBridgesAndMixerHalt := by
  intro s h empty u m rest still unblanked becomes cleared
  have cleared_port := clearAllBridges_port s
  have cleared_bridge := clearAllBridges_bridge s
  have frame := clearAllBridges_frame s
  have bids := clearAllBridges_bids s
  obtain ⟨device, console, bridge, source⟩ := clearAllBridges_marks_by_source s
  have engagement : s.engagementRule → s.clearAllBridges.engagementRule :=
    fun rule => keptInPort_engaged.requests.clearAllBridges s rule trivial
  have halted_engagement : s.engagementRule → s.clearAllBridges.haltMixer.engagementRule :=
    fun rule => keptInPort_engaged.requests.haltMixer s.clearAllBridges (engagement rule) trivial
  have back := clearAllBridges_backdrop s
  have clears := exec_clearBridges h
  have halts := exec_mixerHalt_of_running h
  have stays := exec_mixerHalt_of_halted h
  -- from here on the cleared state is known by these facts alone
  generalize s.clearAllBridges = z at *
  have port (p : PortId) : becomes p { z.port p with voxSum := (s.port p).voxSum } := by
    obtain ⟨-, -, voxSum⟩ := cleared_keeps (s.port p)
    have same : ({ (s.port p).barredIf.cleared with voxSum := (s.port p).voxSum } : Port)
        = (s.port p).barredIf.cleared := by rw [← voxSum]
    rw [cleared_port, same]
    refine ⟨fun right => ?_, fun unblanks off may => ?_, fun unblanks on may => ?_⟩
    · by_cases unblanks : (s.port p).unblanks
      · have judged := right.resolve_left fun no => no unblanks
        rw [cleared_of_unblanks unblanks, Port.judgedBarred, if_neg, if_neg]
        · exact rfl
        · rintro ⟨on, may⟩
          exact absurd (on.symm.trans (judged.trans may)) nofun
        · rintro ⟨off, may⟩
          exact absurd (off.symm.trans (judged.trans may)) nofun
      · exact cleared_of_not_unblanks unblanks
    · rw [cleared_of_unblanks unblanks]
      exact if_pos ⟨off, may⟩
    · rw [cleared_of_unblanks unblanks]
      refine (if_neg ?_).trans (if_pos ⟨on, may⟩)
      rintro ⟨off, -⟩
      exact absurd (on.symm.trans off) nofun
  -- the halt leaves the VOX sums alone behind, at 0
  have common (t : State) (bridges : t.bridges = z.bridges) (sameBids : t.bids = z.bids)
      (notices : t.notices = z.notices) (counter : t.bidCounter = z.bidCounter)
      (ports : ∀ p, ∃ v, t.port p = { z.port p with voxSum := v })
      (engaged : s.engagementRule → t.engagementRule) : cleared t := by
    have marks := congrArg State.notices frame
    have counted := congrArg State.bidCounter frame
    refine ⟨fun b => ?_, fun p => ?_, sameBids.trans bids, ?_, ?_, ?_, fun b => ?_, fun p => ?_, fun p on => ?_,
      fun p => ?_, fun p moves => ?_, engaged, counter.trans counted⟩
    · rw [bridge_of_bridges bridges]
      exact cleared_bridge b
    · obtain ⟨v, eq⟩ := ports p
      rw [eq]
      exact port p
    · rw [notices]
      exact marks
    · rw [notices]
      exact device
    · rw [notices]
      exact console
    · rw [notices]
      exact bridge b
    · obtain ⟨v, eq⟩ := ports p
      rw [notices, eq]
      exact source p
    · obtain ⟨v, eq⟩ := ports p
      rw [eq, cleared_port] at on ⊢
      exact barred_cleared (barred_barredIf _) on
    · obtain ⟨v, eq⟩ := ports p
      rw [eq, cleared_port]
      exact (cleared_keeps (s.port p)).1
    · obtain ⟨v, eq⟩ := ports p
      rw [eq, cleared_port]
      exact (cleared_keeps (s.port p)).2.1 moves
  have plain (kind : Byte) (pl : List Byte) : cleared (z.answered kind pl) :=
    common _ rfl rfl rfl rfl (fun p => ⟨_, rfl⟩) engagement
  refine ⟨⟨_, clears, plain _ _, answered_backdrop_congr back⟩, ?_⟩
  have mixer : z.mixer = s.mixer := by
    have mixer := congrArg State.mixer frame
    exact mixer
  cases mode : s.mixer.mode with
  | halted =>
    have same : m = s.mixer := if_pos mode
    refine ⟨_, { u with mixer := m, ports := s.ports }, stays mode, plain _ _, mixer.trans same.symm, by rw [if_pos
      rfl], ?_⟩
    rw [same]
    exact answered_backdrop_congr back
  | run =>
    have other : m = { s.mixer with
        mode := .halted, frame := none, forming := [], sending := [], sbout := silence } := if_neg
          (by rw [mode]; exact nofun)
    refine ⟨_, _, halts mode, common _ rfl rfl rfl rfl (fun p =>
      ⟨0, ?_⟩) halted_engagement, ?_, by rw [if_neg nofun], ?_⟩
    · simp [State.answered, State.haltMixer, State.port]
    · rw [other]
      show ({ z.mixer with mode := .halted, frame := none, forming := [], sending := [], sbout := silence } : Mixer) = _
      rw [mixer]
    · rw [other]
      refine answered_backdrop_congr ((haltMixer_backdrop z).trans ?_)
      rw [back]
      exact (haltMixer_backdrop u).symm

end

end Sys2Proof.Machine
end

section
/-! SUPPORT. CONSOLE_TALK and CONSOLE_RELEASE (R148 to R152): the bridges left and joined in order, and the console's
  hold
on the bridges that it keeps. -/

namespace Sys2Proof.Machine

section
variable {s t : State} {b : BridgeId} {h : Holder}

/-! ## A bridge that the console keeps -/

/-- The console has this hold of the bridge, which no port can outrank (R72, R80). -/
def State.keepsHold (b : BridgeId) (h : Holder) (s : State) : Prop :=
  s.settingsInRange ∧ (s.bridge b).holder = some h ∧ h.who = .con ∧ h.priority = 5

theorem State.keepsHold.of_holder (hs : s.keepsHold b h) (back : t.backdrop = s.backdrop)
    (same : (t.bridge b).holder = (s.bridge b).holder) : t.keepsHold b h :=
  ⟨settingsInRange_kept.backdrop back hs.1, same.trans hs.2.1, hs.2.2⟩

theorem State.keepsHold.not_outranked (hs : s.keepsHold b h) (p : PortId) : ¬ s.outranked b (.port p) h := by
  obtain ⟨range, -, -, five⟩ := hs
  intro above
  obtain ⟨-, lower⟩ := above.resolve_left nofun
  have highest : s.talkerPriority (.port p) ≤ 4 := effPriority_le_four range p
  omega

theorem keepsHold_leavePlace (c : BridgeId) (p : PortId) (hs : s.keepsHold b h) : (s.leavePlace c p).keepsHold b h := by
  refine hs.of_holder (leavePlace_backdrop s c p) ?_
  obtain ⟨-, held, con, -⟩ := hs
  by_cases here : b = c
  · subst here
    unfold State.leavePlace
    rw [if_neg, State.bridge_updateBridge_same]
    rw [held]
    simp [con]
  · rw [leavePlace_eq, show State.bridge (State.bridgeReported _ _ _ _) b
      = _ from bridge_setBridge s c b _, if_neg here]

theorem keepsHold_takeBid (p : PortId) (hs : s.keepsHold b h) : (s.takeBid p).keepsHold b h := by
  refine hs.of_holder (takeBid_backdrop s p) ?_
  rcases takeBid_cases s p with same | ⟨c, -, -, -, -, bid⟩
  · rw [same]
  · rw [bid]
    by_cases here : b = c
    · subst here
      rw [bid_bridge_of_under hs.2.1 (hs.not_outranked p)]
      rfl
    · rw [bid_bridge_ne here]

theorem keepsHold_keying (b : BridgeId) (h : Holder) : KeptByKeying (State.keepsHold b h) where
  setKey s p key timing keyUp hs :=
    hs.of_holder (setKey_backdrop ..) (places_bridge (places_updatePort ..) b).1
  beginEngagement s barred p _ hs :=
    hs.of_holder (beginEngagement_backdrop ..) (places_bridge (places_beginEngagement ..) b).1
  endEngagement s p _ hs := by
    unfold State.endEngagement
    dsimp only
    have off := hs.of_holder (t := s.updatePort p fun q => { q with engaged := false })
      (updatePort_backdrop s p _ rfl) (places_bridge (places_updatePort ..) b).1
    have left : ∀ t : State, t.keepsHold b h → (t.updatePort p fun q => { q with bar := false, unit := none
      }).keepsHold b h :=
      fun t ht => ht.of_holder (updatePort_backdrop t p _ rfl) (places_bridge (places_updatePort ..) b).1
    refine left _ ?_
    split
    · exact keepsHold_leavePlace _ p off
    · exact off
  keyLimit s p hs := hs.of_holder (raise_backdrop ..) (places_bridge (places_raise ..) b).1
  takeHandedBids s := takeHandedBids_keeps (P := State.keepsHold b h)
    (fun hs => hs) fun s p hs => keepsHold_takeBid p hs

/-- The console leaves or joins other bridges than this one, each change handed on before the next. -/
theorem keepsHold_foldl {op : State → BridgeId → State} (only : BridgeSet) (spared : only.getLsbD b = false)
    (acts : ∀ (t : State) (c : BridgeId), c ≠ b → (op t c).backdrop = t.backdrop ∧ (op t c).bridge b = t.bridge b)
    (hs : s.keepsHold b h) :
    (allBridges.foldl (fun z (c : BridgeId) => if only.getLsbD c then (op z c).handOn else z) s).keepsHold b h := by
  refine KeptByOperations.foldl (P := State.keepsHold b h) (fun t c ht => ?_) allBridges hs
  split
  · next chosen =>
    obtain ⟨back, other⟩ := acts t c fun same => by rw [same, spared] at chosen; cases chosen
    exact (keepsHold_keying b h).handOn (ht.of_holder back (by rw [other]))
  · exact ht

theorem consoleLeave_other (t : State) {c : BridgeId} (other : b ≠ c) : (t.consoleLeave c).bridge b = t.bridge b := by
  unfold State.consoleLeave
  split
  · exact (actsOn_release t c).other b other
  · rfl

/-! ## The move of the console (R148 to R150) -/

/-- Every bridge left and joined, before the talk set is written. -/
def State.consoleMoved (carried : BridgeSet) (s : State) : State :=
  (s.leaveBridges (s.console.talk &&& ~~~carried)).joinBridges (carried &&& ~~~s.console.talk)

theorem getLsbD_without (x y : BridgeSet) (b : BridgeId) :
    (x &&& ~~~y).getLsbD b = true ↔ x.getLsbD b = true ∧ y.getLsbD b = false := by
  simp

theorem consoleMoved_eq (carried : BridgeSet) (s : State) : s.consoleMoved carried
    = allBridges.foldl (fun z (b : BridgeId) =>
        if carried.getLsbD b = true ∧ s.console.talk.getLsbD b = false then (z.bid b .con).handOn else z)
      (allBridges.foldl (fun z (b : BridgeId) =>
        if s.console.talk.getLsbD b = true ∧ carried.getLsbD b = false then
          (if (z.bridge b).holder.any (·.who == .con) = true then z.release b else z).handOn else z) s) := by
  unfold State.consoleMoved State.leaveBridges State.joinBridges
  simp only [getLsbD_without]
  rfl

theorem leaveBridges_backdrop (leaving : BridgeSet) (s : State) : (s.leaveBridges leaving).backdrop = s.backdrop := by
  refine foldl_backdrop _ (fun z b => ?_) _ _
  split
  · rw [handOn_backdrop, consoleLeave_backdrop]
  · rfl

theorem joinBridges_backdrop (joining : BridgeSet) (s : State) : (s.joinBridges joining).backdrop = s.backdrop := by
  refine foldl_backdrop _ (fun z b => ?_) _ _
  split
  · rw [handOn_backdrop, bid_backdrop]
  · rfl

theorem consoleMoved_backdrop (carried : BridgeSet) (s : State) : (s.consoleMoved carried).backdrop = s.backdrop :=
  (joinBridges_backdrop ..).trans (leaveBridges_backdrop ..)

theorem leaveBridges_none (s : State) : s.leaveBridges 0 = s := rfl

theorem joinBridges_none (s : State) : s.joinBridges 0 = s := rfl

theorem consoleMoved_same (s : State) : s.consoleMoved s.console.talk = s := by
  have none : s.console.talk &&& ~~~s.console.talk = 0 := BitVec.and_not_self _
  rw [State.consoleMoved, none, leaveBridges_none, joinBridges_none]

theorem moveConsole_eq (carried : BridgeSet) (s : State) : s.moveConsole carried = { s.consoleMoved carried with
    console := { s.console with talk := carried }
    notices := { (s.consoleMoved carried).notices with
      marks := (s.consoleMoved carried).marksIf (decide (carried ≠ s.console.talk)) srcConsole } } := by
  have console : (s.consoleMoved carried).console = s.console := console_of_backdrop (consoleMoved_backdrop carried s)
  have whole : s.moveConsole carried = (s.consoleMoved carried).writeTalk carried := rfl
  rw [whole]
  generalize s.consoleMoved carried = w at console ⊢
  unfold State.writeTalk
  rw [reportIf_eq, console]
  have changed : (s.console.talk != carried) = decide (carried ≠ s.console.talk) := by
    rw [Bool.eq_iff_iff, bne_iff_ne, decide_eq_true_iff, ne_comm]
  rw [changed]
  rfl

theorem moveConsole_backdrop (carried : BridgeSet) (s : State) : (s.moveConsole carried).backdrop
    = State.backdrop { s with console := { s.console with talk := carried } } := by
  rw [moveConsole_eq]
  exact congrArg (fun z : State => { z with console := { s.console with talk := carried } })
    (consoleMoved_backdrop carried s)

theorem moveConsole_link (carried : BridgeSet) (s : State) : (s.moveConsole carried).link = s.link := by
  have link := congrArg State.link (moveConsole_backdrop carried s)
  exact link

theorem leaveBridges_withLink (leaving : BridgeSet) (s : State) (l : Link) :
    (s.withLink l).leaveBridges leaving = (s.leaveBridges leaving).withLink l := by
  refine foldl_withLink _ (fun z l b => ?_) ..
  rw [consoleLeave_withLink, handOn_withLink]
  exact (apply_ite (State.withLink l) _ _ _).symm

theorem joinBridges_withLink (joining : BridgeSet) (s : State) (l : Link) :
    (s.withLink l).joinBridges joining = (s.joinBridges joining).withLink l := by
  refine foldl_withLink _ (fun z l b => ?_) ..
  rw [bid_withLink, handOn_withLink]
  exact (apply_ite (State.withLink l) _ _ _).symm

theorem moveConsole_withLink (carried : BridgeSet) (s : State) (l : Link) :
    (s.withLink l).moveConsole carried = (s.moveConsole carried).withLink l := by
  have moved : (s.withLink l).consoleMoved carried = (s.consoleMoved carried).withLink l := by
    unfold State.consoleMoved
    rw [leaveBridges_withLink, joinBridges_withLink]
    rfl
  rw [moveConsole_eq, moveConsole_eq, moved]
  rfl

/-- The console keeps its hold of a bridge of both sets. -/
theorem moveConsole_holder {carried : BridgeSet} (range : s.settingsInRange) (rule : s.consoleRule)
    (before : s.console.talk.getLsbD b = true) (after : carried.getLsbD b = true) :
    ((s.moveConsole carried).bridge b).holder = (s.bridge b).holder := by
  obtain ⟨holds, alike⟩ := rule b
  rw [before] at holds
  obtain ⟨h, held, con⟩ := (Option.any_eq_true ..).mp holds
  rw [beq_iff_eq] at con
  have kept : s.keepsHold b h := ⟨range, held, con, (alike h held con).1⟩
  have left : (s.leaveBridges (s.console.talk &&& ~~~carried)).keepsHold b h := by
    refine keepsHold_foldl (op := fun z c => z.consoleLeave c) _ ?_ (fun t c other => ?_) kept
    · rw [Bool.eq_false_iff, ne_eq, getLsbD_without, after]
      exact nofun
    · exact ⟨consoleLeave_backdrop t c, consoleLeave_other t other.symm⟩
  have moved : (s.consoleMoved carried).keepsHold b h := by
    refine keepsHold_foldl (op := fun z c => z.bid c .con) _ ?_ (fun t c other => ?_) left
    · rw [Bool.eq_false_iff, ne_eq, getLsbD_without, before]
      exact nofun
    · exact ⟨bid_backdrop t c .con, bid_bridge_ne other.symm⟩
  rw [moveConsole_eq, held]
  exact moved.2.1

/-! ## O38 -/

theorem pairwise_allBridges : allBridges.Pairwise (· < ·) := by decide

theorem exec_consoleTalk (hs : s.linkReady) (runs : s.mixer.mode = .run) (carried : BridgeSet) :
    exec (.consoleTalk carried) s = .next ((s.moveConsole carried).answered 0x15 [0x00, carried]) := by
  refine request_of_withLink (t := s.moveConsole carried) (act := talk carried) (a := .ok [carried]) hs 0x15
    (by simp [Config.maxPayload]) (fun l => ?_) (moveConsole_link carried s)
  unfold talk
  rw [show (s.withLink l).mixer.mode = _ from runs, moveConsole_withLink]
  rfl

theorem exec_consoleRelease (hs : s.linkReady) (runs : s.mixer.mode = .run) :
    exec .consoleRelease s = .next ((s.moveConsole 0).answered 0x16 [0x00, 0]) := by
  refine request_of_withLink (t := s.moveConsole 0) (act := releaseConsole) (a := .ok [0]) hs 0x16
    (by simp [Config.maxPayload]) (fun l => ?_) (moveConsole_link 0 s)
  unfold releaseConsole
  rw [show (s.withLink l).mixer.mode = _ from runs, moveConsole_withLink]
  rfl

/-- Settles O38: both requests move the console, whose holds then are its talk set, and keep the holds of both sets. -/
theorem consoleHoldsItsTalkSet : Obligations.ConsoleHoldsItsTalkSet := by
  refine ⟨⟨pairwise_allBridges, mem_allBridges⟩, fun s hs => ⟨fun halted => ⟨fun carried => ?_, ?_⟩,
    fun runs c kind carried which => ?_⟩⟩
  · refine request_unchanged (act := talk carried) (a := .bare _) hs 0x15 (by simp [Config.maxPayload]) ?_
    unfold talk
    rw [show s.accepting.mixer.mode = _ from halted]
    rfl
  · refine request_unchanged (act := releaseConsole) (a := .bare _) hs 0x16 (by simp [Config.maxPayload]) ?_
    unfold releaseConsole
    rw [show s.accepting.mixer.mode = _ from halted]
    rfl
  · refine ⟨(s.moveConsole carried).answered kind [0x00, carried], _, ?_, rfl,
      answered_backdrop_congr (moveConsole_backdrop carried s), fun same => ?_, fun w moved => ?_,
      fun range rule b => ?_⟩
    · rcases which with ⟨rfl, rfl⟩ | ⟨rfl, rfl, rfl⟩
      · exact exec_consoleTalk hs runs carried
      · exact exec_consoleRelease hs runs
    · rw [same, moveConsole_eq, consoleMoved_same]
      simp only [ne_eq, not_true_eq_false, decide_false]
      rfl
    · rw [moved, ← consoleMoved_eq, moveConsole_eq]
    · have holds := consoleRule_moveConsole carried range rule b
      have talk : (s.moveConsole carried).console.talk = carried := by rw [moveConsole_eq]
      rw [talk] at holds
      obtain ⟨holder, alike⟩ := holds
      refine ⟨fun after before => moveConsole_holder range rule before after, fun on => ?_, fun off h held con => ?_⟩
      · rw [on] at holder
        obtain ⟨h, held, con⟩ := (Option.any_eq_true ..).mp holder
        rw [beq_iff_eq] at con
        exact ⟨h, held, con, alike h held con⟩
      · rw [off, show ((s.moveConsole carried).bridge b).holder = some h from held] at holder
        simp [con] at holder

end

end Sys2Proof.Machine
end

section
/-! SUPPORT. Emergencies (spec/09): the change of a port's emergency, the bridges alerted and their bursts, and the
  marks
that stand through whatever is handed on. -/

namespace Sys2Proof.Machine

section
variable {s t : State} {p : PortId} {b : BridgeId}

/-! ## A mark that stands (R174) -/

/-- The source's notice is pending. -/
def State.marked (src : Source) (s : State) : Prop := s.notices.marks[src] = true

section
variable {src : Source}

theorem marked_marksIf {changed : Bool} {other : Source} (h : s.marked src) :
    (s.marksIf changed other)[src] = true := by
  rw [marksIf_getElem, show s.notices.marks[src] = true from h, Bool.true_or]

theorem marked_portReported (p : PortId) (q : Port) (h : s.marked src) : (s.portReported p q).marked src :=
  marked_marksIf h

theorem marked_stackReported {spills : Bool} (reported : s.stackReported spills b t) (h : s.marked src) :
    t.marked src := by
  unfold State.marked at *
  rw [(reported src).2, h, Bool.true_or]

theorem marked_raise (other : Source) (n : Nat) (h : s.marked src) : (s.raise other n).marked src := by
  unfold State.marked at *
  rw [raise_marks, h, Bool.true_or]

theorem marked_updatePort (p : PortId) (f : Port → Port) (h : s.marked src) : (s.updatePort p f).marked src := by
  unfold State.marked State.updatePort at *
  dsimp only
  have reported : ((s.setPort p (f (s.port p))).reportIf (!(s.port p).sameReported (f (s.port p)))
    (srcPort p)).marked src := by
    unfold State.marked
    rw [reportIf_marks, show (s.setPort p _).notices.marks[src] = true from h, Bool.true_or]
  split
  · exact reported
  · rw [State.setPending, getElem_set_source]
    split
    · rfl
    · exact reported

theorem marked_bid (b : BridgeId) (who : Talker) (h : s.marked src) : (s.bid b who).marked src := by
  by_cases spills : 4 ≤ ((s.bridge b).ownRemoved who).stack.length
      ∧ ∃ h, (s.bridge b).holder = some h ∧ s.outranked b who h
  · exact marked_stackReported (bid_stackReported s b who true ⟨fun _ => spills, fun _ => rfl⟩) h
  · exact marked_stackReported (bid_stackReported s b who false ⟨nofun, fun yes => absurd yes spills⟩) h

theorem marked_takeBid (p : PortId) (h : s.marked src) : (s.takeBid p).marked src := by
  rcases takeBid_cases s p with same | ⟨b, -, -, -, -, bid⟩
  · rw [same]; exact h
  · rw [bid]; exact marked_bid b _ h

theorem marked_keying (src : Source) : KeptByKeying (State.marked src) where
  setKey s p key timing keyUp hs := marked_updatePort p _ hs
  beginEngagement s barred p _ hs := by
    rw [beginEngagement_eq]
    exact marked_portReported p _ hs
  endEngagement s p _ hs := by
    unfold State.endEngagement
    dsimp only
    refine marked_updatePort p _ ?_
    split
    · rw [leavePlace_eq]
      exact marked_marksIf (marked_updatePort p _ hs)
    · exact marked_updatePort p _ hs
  keyLimit s p hs := marked_raise _ _ hs
  takeHandedBids s := takeHandedBids_keeps (P := State.marked src) (fun hs => hs) fun s p hs => marked_takeBid p hs

theorem marked_takePriority (b : BridgeId) (p : PortId) (h : s.marked src) : (s.takePriority b p).marked src := by
  by_cases spills : 4 ≤ (s.bridge b).stack.length ∧ (s.record b).preempt = true
      ∧ (∃ e ∈ (s.bridge b).queue, e.port = p)
      ∧ ∃ h, (s.bridge b).holder = some h ∧ h.who ≠ .port p ∧ h.priority < s.effPriority p
  · exact marked_stackReported (takePriority_stackReported s b p true ⟨fun _ => spills, fun _ => rfl⟩) h
  · exact marked_stackReported (takePriority_stackReported s b p false ⟨nofun, fun yes => absurd yes spills⟩) h

theorem marked_handPriority (p : PortId) (old : Nat) (h : s.marked src) : (s.handPriority p old).marked src := by
  unfold State.handPriority
  split
  · exact h
  · split
    · exact (marked_keying src).handOn (marked_takePriority _ p h)
    · exact h

theorem marked_startBurst (b : BridgeId) (h : s.marked src) : (s.startBurst b).marked src := by
  rw [startBurst_eq]
  refine (marked_keying src).handOn ?_
  unfold State.burstStarted State.marked
  dsimp only
  split
  · rw [reportChange_marks, show (s.setBridge b _).notices.marks[src] = true from h, Bool.true_or]
  · exact h

end

/-! ## The change of an emergency (R158, R159) -/

/-- The port's emergency changed, its notice made pending whatever the switch (R159). -/
def State.called (p : PortId) (e : Emergency) (s : State) : State := { s with
  ports := s.ports.set p { s.port p with emergency := e }
  notices := { s.notices with
    marks := if (s.port p).emergency = e then s.notices.marks else s.notices.marks.set (srcPort p) true } }

theorem updatePort_emergency (s : State) (p : PortId) (e : Emergency) :
    s.updatePort p (fun q => { q with emergency := e }) = s.called p e := by
  have same : (s.port p).sameReported { s.port p with emergency := e } = true := Port.sameReported_self _
  unfold State.updatePort State.called
  dsimp only
  rw [same]
  split
  · rfl
  · rfl

theorem called_port (s : State) (p : PortId) (e : Emergency) :
    (s.called p e).port p = { s.port p with emergency := e } := by
  simp [State.called, State.port]

theorem called_marked {e : Emergency} (changed : (s.port p).emergency ≠ e) : (s.called p e).marked (srcPort p) := by
  unfold State.called State.marked
  dsimp only
  rw [if_neg changed, getElem_set_source, if_pos rfl]

/-! ## The bridges alerted (R160, R164) -/

theorem xor_and_eq_zero_iff {n : Nat} (x y m : BitVec n) : (x ^^^ y) &&& m = 0 ↔ x &&& m = y &&& m := by
  have zero (i : Nat) (hi : i < n) : (0 : BitVec n)[i] = false := BitVec.getElem_zero ..
  constructor
  · intro none
    ext i hi
    have bit := congrArg (·.getLsbD i) none
    simp only [BitVec.getLsbD_eq_getElem hi, BitVec.getElem_and, BitVec.getElem_xor, zero i hi] at bit ⊢
    revert bit
    cases x[i] <;> cases y[i] <;> cases m[i] <;> decide
  · intro same
    ext i hi
    have bit := congrArg (·.getLsbD i) same
    simp only [BitVec.getLsbD_eq_getElem hi, BitVec.getElem_and, BitVec.getElem_xor, zero i hi] at bit ⊢
    revert bit
    cases x[i] <;> cases y[i] <;> cases m[i] <;> decide

theorem fits_iff {r : Rule} {agency : BitVec 4} {role : BitVec 3} : r.fits agency role = true ↔ r.enabled = true
    ∧ agency &&& r.agencyCare = r.agencyCompare &&& r.agencyCare
    ∧ role &&& r.roleCare = r.roleCompare &&& r.roleCare := by
  simp only [Rule.fits, Bool.and_eq_true, beq_iff_eq, xor_and_eq_zero_iff, and_assoc]

/-- The bridge is to be alerted for a caller with these attributes (R160 step 2, R164). -/
def State.alerts (s : State) (p : PortId) (caller : BitVec 4 × BitVec 3) (b : BridgeId) : Prop :=
  (s.record b).alertLength ≠ 0 ∧ (s.memberOf p = some b
    ∨ ∃ n : Fin 8, s.watch[n].enabled = true ∧ s.watch[n].bridges.getLsbD b = true
      ∧ caller.1 &&& s.watch[n].agencyCare = s.watch[n].agencyCompare &&& s.watch[n].agencyCare
      ∧ caller.2 &&& s.watch[n].roleCare = s.watch[n].roleCompare &&& s.watch[n].roleCare)

theorem mem_alertedBridges_iff : b ∈ s.alertedBridges p ↔ s.alerts p (s.callerAttributes p) b := by
  unfold State.alertedBridges State.alerts State.ruleSelects
  simp only [List.mem_filter, mem_allBridges, true_and, Bool.and_eq_true, Bool.or_eq_true, beq_iff_eq, bne_iff_ne,
    List.any_eq_true, fits_iff]
  rw [and_comm]
  refine and_congr_right fun _ => or_congr_right ?_
  constructor
  · rintro ⟨r, there, ⟨enabled, agency, role⟩, named⟩
    obtain ⟨i, hi, rfl⟩ := List.mem_iff_getElem.mp there
    exact ⟨⟨i, by simpa using hi⟩, by simpa using enabled, by simpa using named, by simpa using agency, by simpa using
      role⟩
  · rintro ⟨n, enabled, named, agency, role⟩
    exact ⟨s.watch[n], by simp, ⟨enabled, agency, role⟩, named⟩

theorem pairwise_alertedBridges (s : State) (p : PortId) : (s.alertedBridges p).Pairwise (· < ·) :=
  pairwise_allBridges.filter _

/-- The bridges whose bursts an entry of emergency starts: none with the mixer HALTED (R162). -/
def State.alertedNow (s : State) (p : PortId) : List BridgeId :=
  if s.mixer.mode = .run then s.alertedBridges p else []

theorem mem_alertedNow_iff : b ∈ s.alertedNow p ↔ s.mixer.mode = .run ∧ s.alerts p (s.callerAttributes p) b := by
  unfold State.alertedNow
  split
  · next runs => rw [mem_alertedBridges_iff]; simp [runs]
  · next halted => simp [halted]

theorem pairwise_alertedNow (s : State) (p : PortId) : (s.alertedNow p).Pairwise (· < ·) := by
  unfold State.alertedNow
  split
  · exact pairwise_alertedBridges s p
  · exact .nil

theorem enterEmergency_eq (s : State) (p : PortId) (source : Option UnitId) : s.enterEmergency p source
    = ((s.called p (.active source)).alertedNow p).foldl State.startBurst (s.called p (.active source)) := by
  unfold State.enterEmergency State.alertedNow
  dsimp only
  rw [updatePort_emergency]
  split <;> rfl

/-! ## Bursts started (R161) -/

/-- A burst of so many completions started or reloaded, its phase at the start or kept. -/
def Bridge.alerted (frames : Nat) (r : Bridge) : Bridge :=
  { r with burst := frames, phase := if r.burst = 0 then ⟨.first, 0, true, 0⟩ else r.phase }

/-- A burst of so many completions started or reloaded in one bridge. -/
def State.sounded (frames : Nat) (b : BridgeId) (s : State) : State :=
  if (s.bridge b).burst = 0
  then s.bridgeReported true b { s.bridge b with burst := frames, phase := ⟨.first, 0, true, 0⟩ }
  else { s with bridges := s.bridges.set b { s.bridge b with burst := frames } }

theorem sounded_bridge (frames : Nat) (b c : BridgeId) (s : State) : (s.sounded frames b).bridge c
    = if c = b then (s.bridge b).alerted frames else s.bridge c := by
  unfold State.sounded
  split
  · next silent =>
    rw [show (s.bridgeReported true b _).bridge c = _ from bridge_setBridge s b c _]
    simp only [Bridge.alerted, silent, if_true]
  · next sounding =>
    rw [show State.bridge { s with bridges := s.bridges.set b _ } c = _ from bridge_setBridge s b c _]
    simp only [Bridge.alerted, sounding, if_false]

theorem sounded_frame (frames : Nat) (b : BridgeId) (s : State) : s.sounded frames b = { s with
    bridges := (s.sounded frames b).bridges
    notices := { s.notices with marks := (s.sounded frames b).notices.marks } } := by
  unfold State.sounded
  split <;> rfl

theorem startBurst_of_frames (s : State) (b : BridgeId) (frames : Nat)
    (given : frames = (s.record b).alertLength * Config.framesPerSecond) : s.startBurst b
    = if (s.bridge b).burst = 0
      then ((s.setBridge b { s.bridge b with burst := frames, phase := .start }).reportChange (srcBridge b)).handOn
      else (s.setBridge b { s.bridge b with burst := frames }).handOn := by
  subst given
  rfl

theorem startBurst_eq_sounded (s : State) (b : BridgeId) :
    s.startBurst b = (s.sounded (s.alertFrames b) b).handOn := by
  have set_eq : s.setBridge b { s.bridge b with burst := s.alertFrames b }
      = { s with bridges := s.bridges.set b { s.bridge b with burst := s.alertFrames b } } := rfl
  rw [startBurst_of_frames s b (s.alertFrames b) rfl, setBridge_reportChange_eq, set_eq, State.sounded,
    apply_ite State.handOn]
  rfl

theorem foldl_startBurst_eq (bs : List BridgeId) (plans : t.plans = s.plans) : bs.foldl State.startBurst t
    = bs.foldl (fun z b => (z.sounded (s.alertFrames b) b).handOn) t := by
  induction bs generalizing t with
  | nil => rw [List.foldl_nil, List.foldl_nil]
  | cons b bs ih =>
    have turn := startBurst_eq_sounded t b
    rw [alertFrames_of_plans plans] at turn
    rw [List.foldl_cons, List.foldl_cons, ← turn, ih ((startBurst_plans t b).trans plans)]

/-- The bursts of a list of bridges started or reloaded. -/
def State.alerted (bs : List BridgeId) (s : State) : State :=
  { s with
    bridges := Vector.ofFn fun b : BridgeId =>
      if b ∈ bs then (s.bridge b).alerted (s.alertFrames b) else s.bridge b }

theorem alerted_bridge (bs : List BridgeId) (s : State) (b : BridgeId) : (s.alerted bs).bridge b
    = if b ∈ bs then (s.bridge b).alerted (s.alertFrames b) else s.bridge b := Vector.getElem_ofFn ..

theorem backdrop_bridge (s : State) (b : BridgeId) : s.backdrop.bridge b = (s.bridge b).backdrop := by
  simp [State.backdrop, State.bridge]

theorem alerted_of_rest (bs : List BridgeId) (same : t.backdrop = s.backdrop) :
    (t.alerted bs).backdrop = (s.alerted bs).backdrop := by
  have rest := rest_of_backdrop same
  have bridges : (t.alerted bs).bridges.map Bridge.backdrop = (s.alerted bs).bridges.map Bridge.backdrop := by
    ext i hi : 1
    rw [Vector.getElem_map, Vector.getElem_map]
    have left := alerted_bridge bs t ⟨i, hi⟩
    have right := alerted_bridge bs s ⟨i, hi⟩
    have here := rest_bridge rest ⟨i, hi⟩
    rw [alertFrames_of_plans (rest_plans rest)] at left
    refine (congrArg Bridge.backdrop left).trans (Eq.trans ?_ (congrArg Bridge.backdrop right).symm)
    split
    · have burst := congrArg Bridge.burst here
      have phase := congrArg Bridge.phase here
      have writePos := congrArg Bridge.writePos here
      have ring := congrArg Bridge.ring here
      simp only [Bridge.backdrop] at burst phase writePos ring
      simp only [Bridge.backdrop, Bridge.alerted, burst, phase, writePos, ring]
    · exact here
  have frame := congrArg (fun z : State => { z with bridges := (s.alerted bs).bridges.map Bridge.backdrop }) same
  calc (t.alerted bs).backdrop
      = { t.backdrop with bridges := (t.alerted bs).bridges.map Bridge.backdrop } := rfl
    _ = { s.backdrop with bridges := (s.alerted bs).bridges.map Bridge.backdrop } := by rw [bridges, same]
    _ = (s.alerted bs).backdrop := rfl

theorem startBurst_backdrop (s : State) (b : BridgeId) : (s.startBurst b).backdrop = (s.alerted [b]).backdrop := by
  rw [startBurst_eq_sounded, handOn_backdrop]
  refine backdrop_of_frames (v := s) rfl (sounded_frame ..) fun c => congrArg Bridge.backdrop ?_
  rw [alerted_bridge, sounded_bridge]
  by_cases here : c = b
  · subst here
    rw [if_pos rfl, if_pos (List.mem_singleton.mpr rfl)]
  · rw [if_neg here, if_neg (by simpa using here)]

theorem alerted_cons (s : State) (b : BridgeId) (bs : List BridgeId) (fresh : b ∉ bs) :
    (s.alerted [b]).alerted bs = s.alerted (b :: bs) := by
  have bridges (c : BridgeId) : ((s.alerted [b]).alerted bs).bridge c = (s.alerted (b :: bs)).bridge c := by
    rw [alerted_bridge, alerted_bridge, alerted_bridge, show (s.alerted [b]).alertFrames c = s.alertFrames c from rfl]
    by_cases here : c = b
    · subst here
      simp [fresh]
    · simp [here]
  exact congrArg (fun v => { s with bridges := v }) (Vector.ext fun i hi => bridges ⟨i, hi⟩)

theorem foldl_startBurst_backdrop (bs : List BridgeId) (once : bs.Nodup) (s : State) :
    (bs.foldl State.startBurst s).backdrop = (s.alerted bs).backdrop := by
  induction bs generalizing s with
  | nil =>
    have same : s.alerted [] = s := congrArg (fun v => { s with bridges := v })
      (Vector.ext fun i hi => alerted_bridge [] s ⟨i, hi⟩)
    rw [List.foldl_nil, same]
  | cons b bs ih =>
    obtain ⟨fresh, once⟩ := List.nodup_cons.mp once
    rw [List.foldl_cons, ih once, alerted_of_rest bs (startBurst_backdrop s b), alerted_cons s b bs fresh]

end

end Sys2Proof.Machine
end

section
/-! SUPPORT. EMERGENCY_DECLARE (spec/09 R166): the set answered, and the bursts and the priority that it brings. -/

namespace Sys2Proof.Machine

section
variable {s t : State} {p : PortId} {b : BridgeId}

/-! ## A set from its names, and the names of a set -/

theorem getLsbD_foldl_or_one {n : Nat} (xs : List (Fin n)) (m : BitVec n) (x : Fin n) :
    (xs.foldl (fun m x => m ||| (1#n <<< x.val)) m).getLsbD x.val = (m.getLsbD x || decide (x ∈ xs)) := by
  induction xs generalizing m with
  | nil => simp
  | cons y ys ih =>
    have bit : (1#n <<< y.val).getLsbD x = decide (x = y) := by
      rw [← BitVec.twoPow_eq, BitVec.getLsbD_twoPow]
      simp [Fin.ext_iff, eq_comm]
    rw [List.foldl_cons, ih, BitVec.getLsbD_or, bit, Bool.or_assoc]
    simp [List.mem_cons]

theorem getLsbD_bridgeSet (bs : List BridgeId) (b : BridgeId) : (bridgeSet bs).getLsbD b = decide (b ∈ bs) := by
  rw [bridgeSet, getLsbD_foldl_or_one]
  simp

theorem getLsbD_portSet (ps : List PortId) (p : PortId) : (portSet ps).getLsbD p = decide (p ∈ ps) := by
  rw [portSet, getLsbD_foldl_or_one]
  simp

theorem filter_eq_of_rising {n : Nat} {all xs : List (Fin n)} {f : Fin n → Bool} (rises : all.Pairwise (· < ·))
    (every : ∀ x, x ∈ all) (rising : xs.Pairwise (· < ·)) (names : ∀ x, f x = decide (x ∈ xs)) : all.filter f = xs := by
  have nodup {ys : List (Fin n)} (h : ys.Pairwise (· < ·)) : ys.Nodup := h.imp fun lt => lt.ne
  refine List.Perm.eq_of_pairwise (fun _ _ _ _ lt gt => absurd lt (lt_asymm gt)) (rises.filter f) rising
    ((List.perm_ext_iff_of_nodup (nodup (rises.filter f)) (nodup rising)).mpr fun x => ?_)
  rw [List.mem_filter, names x]
  simp [every x]

/-! ## The entry without a source unit -/

theorem callerAttributes_of_unsourced (h : (s.port p).emergency = .none ∨ (s.port p).emergency = .active none) :
    s.callerAttributes p = ((s.port p).setup.homeAgency, (s.port p).setup.homeRole) := by
  unfold State.callerAttributes
  rcases h with h | h <;> simp [h]

theorem alertedNow_called (quiet : (s.port p).emergency = .none) :
    (s.called p (.active none)).alertedNow p = s.alertedNow p := by
  have attributes : (s.called p (.active none)).callerAttributes p = s.callerAttributes p := by
    rw [callerAttributes_of_unsourced (.inl quiet), callerAttributes_of_unsourced (.inr
      (by rw [called_port])), called_port]
  have selects (b : BridgeId) : (s.called p (.active none)).ruleSelects p b = s.ruleSelects p b := by
    rw [State.ruleSelects, attributes]
    rfl
  unfold State.alertedNow State.alertedBridges
  simp only [selects]
  rfl

theorem alertedNow_withLink (s : State) (l : Link) (p : PortId) : (s.withLink l).alertedNow p = s.alertedNow p := rfl

theorem enterEmergency_withLink (s : State) (l : Link) (p : PortId) (source : Option UnitId) :
    (s.withLink l).enterEmergency p source = (s.enterEmergency p source).withLink l := by
  rw [enterEmergency_eq, enterEmergency_eq, show (s.withLink l).called p (.active source)
    = (s.called p (.active source)).withLink l from rfl, alertedNow_withLink, foldl_withLink _ startBurst_withLink]

theorem enterEmergency_backdrop (s : State) (p : PortId) (source : Option UnitId) :
    (s.enterEmergency p source).backdrop
      = ((s.called p (.active source)).alerted ((s.called p (.active source)).alertedNow p)).backdrop := by
  rw [enterEmergency_eq]
  exact foldl_startBurst_backdrop _ ((pairwise_alertedNow _ p).imp fun lt => lt.ne) _

theorem emergency_of_backdrop (h : t.backdrop = s.backdrop) (p : PortId) :
    (t.port p).emergency = (s.port p).emergency := by
  have ports := congrArg (fun z : State => (z.port p).emergency) h
  simpa [State.backdrop, State.port, Port.backdrop] using ports

theorem marked_enterEmergency {source : Option UnitId} (enters : (s.port p).emergency ≠ .active source) :
    (s.enterEmergency p source).marked (srcPort p) := by
  rw [enterEmergency_eq]
  generalize State.alertedNow _ p = bs
  have start := called_marked enters
  generalize s.called p (.active source) = t at start
  induction bs generalizing t with
  | nil => exact start
  | cons b bs ih => exact ih _ (marked_startBurst b start)

theorem enterEmergency_of_quiet (quiet : (s.port p).emergency = .none) : s.enterEmergency p none
    = (s.alertedNow p).foldl State.startBurst (s.called p (.active none)) := by
  rw [enterEmergency_eq, alertedNow_called quiet]

theorem enterEmergency_backdrop_of_quiet (quiet : (s.port p).emergency = .none) : (s.enterEmergency p none).backdrop
    = ((s.called p (.active none)).alerted (s.alertedNow p)).backdrop := by
  rw [enterEmergency_backdrop, alertedNow_called quiet]

/-- The state that a declaration for a port in NONE leaves, before its reply. -/
def State.declared (p : PortId) (s : State) : State :=
  (s.enterEmergency p none).handPriority p (s.effPriority p)

theorem declare_of_none (quiet : (s.port p).emergency = .none) (l : Link) : declare (natByte p.val) (s.withLink l)
    = ((s.declared p).withLink l, some (.ok [bridgeSet (s.alertedNow p)])) := by
  have quiet' : ((s.withLink l).port p).emergency = .none := quiet
  simp only [declare, portOf_natByte, quiet']
  rw [enterEmergency_withLink, effPriority_withLink, handPriority_withLink]
  rfl

theorem declare_of_active {source : Option UnitId} (active : (s.port p).emergency = .active source) :
    declare (natByte p.val) s = (s, some (.ok [0])) := by
  simp only [declare, portOf_natByte, active]
  rfl

theorem declared_backdrop (quiet : (s.port p).emergency = .none) : (s.declared p).backdrop
    = ((s.called p (.active none)).alerted (s.alertedNow p)).backdrop := by
  rw [State.declared, handPriority_backdrop, enterEmergency_backdrop_of_quiet quiet]

theorem called_ports_backdrop (e : Emergency) (bs : List BridgeId) : ((s.called p e).alerted bs).backdrop
    = ({ s with ports := (s.called p e).ports, bridges := ((s.called p e).alerted bs).bridges } : State).backdrop := rfl

end

/-- Settles O40: the entry is the fold of the bursts of the bridges alerted, over whose backdrop its outcome is read. -/
theorem emergencyDeclareAlertsItsBridges : Obligations.EmergencyDeclareAlertsItsBridges := by
  intro s ready
  have short (n : Byte) : [n].length ≤ Config.maxPayload := by simp [Config.maxPayload]
  refine ⟨fun n beyond => ?_, fun p => ⟨fun source active => ?_, fun quiet => ?_⟩⟩
  · exact request_unchanged (a := .bare resRefusedRange) (act := declare n) ready 0x13 (short n)
      (by simp only [declare, portOf_eq_none beyond]; rfl)
  · exact request_unchanged (a := .ok [0]) ready 0x13 (short _) (declare_of_active (s := s.accepting) active)
  have back := declared_backdrop quiet
  have link : (s.declared p).link = s.link := (link_of_backdrop back).trans rfl
  have entered := enterEmergency_backdrop_of_quiet quiet
  have active : ((s.enterEmergency p none).port p).emergency = .active none :=
    (emergency_of_backdrop entered p).trans (congrArg Port.emergency (called_port s p _))
  have names (b : BridgeId) := getLsbD_bridgeSet (s.alertedNow p) b
  refine ⟨(s.declared p).answered 0x13 [0x00, bridgeSet (s.alertedNow p)], _, bridgeSet
    (s.alertedNow p), ?_, fun b => ?_,
    rfl, answered_backdrop_congr ?_, ?_, ?_, ?_⟩
  · exact request_of_withLink (s := s) (t := s.declared p) (a := .ok _) ready 0x13 (short _)
      (declare_of_none quiet) link
  · rw [names, decide_eq_true_iff, mem_alertedNow_iff, callerAttributes_of_unsourced (.inl quiet)]
    rfl
  · rw [back, called_ports_backdrop]
    refine congrArg (fun v : Vector Bridge 8 => State.backdrop { s with
      ports := s.ports.set p { s.port p with emergency := .active none }, bridges := v }) (congrArg Vector.ofFn ?_)
    funext b
    rw [names]
    simp only [decide_eq_true_eq]
    rfl
  · exact marked_handPriority p _ (marked_enterEmergency (by rw [quiet]; nofun))
  · exact effPriority_of_active (source := none)
      ((emergency_of_backdrop (handPriority_backdrop _ p _) p).trans active)
  · intro called z hcalled hz
    have called_eq : called = s.called p (.active none) := by
      rw [hcalled, State.called, if_neg (by rw [quiet]; nofun)]
    have z_eq : z = s.enterEmergency p none := by
      rw [hz, called_eq, filter_eq_of_rising pairwise_allBridges mem_allBridges (pairwise_alertedNow s p) names,
        enterEmergency_of_quiet quiet, foldl_startBurst_eq (s := s) (t := s.called p (.active none)) _ rfl]
      rfl
    have priority : z.effPriority p = 4 := effPriority_of_active (source := none) (by rw [z_eq]; exact active)
    have member : z.memberOf p = s.memberOf p := by
      have plans : z.plans = s.plans := by rw [z_eq]; exact (plans_of_backdrop entered).trans rfl
      exact memberOf_of_records (congrArg Plans.records plans) (congrArg Plans.active plans) p
    have declared : s.declared p = z.handPriority p (s.effPriority p) := by rw [z_eq]; rfl
    rw [declared]
    refine ⟨fun stays => ?_, fun b moves engaged here => ?_⟩
    · rw [handPriority_unchanged]
      rw [priority, member]
      exact stays.imp_left Eq.symm
    · rw [handPriority_of_member (by rw [priority]; exact Ne.symm moves) engaged (member.trans here)]

end Sys2Proof.Machine
end

section
/-! SUPPORT. EMERGENCY_CLEAR (spec/09 R168, R169): the ports that leave, one after the other in port order. -/

namespace Sys2Proof.Machine

section
variable {s t z : State} {p r : PortId}

/-! ## One port leaves (R169) -/

theorem leaveEmergency_eq (z : State) (r : PortId) :
    z.leaveEmergency r = (z.called r .none).handPriority r (z.effPriority r) := by
  rw [State.leaveEmergency, updatePort_emergency]

theorem leaveEmergency_emergency (z : State) (p r : PortId) :
    ((z.leaveEmergency p).port r).emergency = if r = p then .none else (z.port r).emergency := by
  rw [leaveEmergency_eq, emergency_of_backdrop (handPriority_backdrop _ p _) r]
  by_cases here : r = p
  · rw [here, called_port, if_pos rfl]
  · rw [if_neg here]
    exact congrArg Port.emergency (State.port_setPort_ne z _ (Ne.symm here))

theorem marked_called {src : Source} (e : Emergency) (h : z.marked src) : (z.called p e).marked src := by
  rw [← updatePort_emergency]
  exact marked_updatePort p _ h

theorem marked_leaveEmergency {src : Source} (p : PortId) (h : z.marked src) : (z.leaveEmergency p).marked src := by
  rw [leaveEmergency_eq]
  exact marked_handPriority p _ (marked_called _ h)

theorem marked_of_left (declared : (z.port p).emergency ≠ .none) : (z.leaveEmergency p).marked (srcPort p) := by
  rw [leaveEmergency_eq]
  exact marked_handPriority p _ (called_marked declared)

/-! ## Several ports leave, in order -/

/-- The emergencies of a list of ports gone. -/
def State.quieted (ps : List PortId) (z : State) : State :=
  { z with
    ports := Vector.ofFn fun r : PortId => if r ∈ ps then { z.port r with emergency := .none } else z.port r }

theorem quieted_port (ps : List PortId) (z : State) (r : PortId) : (z.quieted ps).port r
    = if r ∈ ps then { z.port r with emergency := .none } else z.port r := Vector.getElem_ofFn ..

theorem called_none_eq_quieted (z : State) (p : PortId) : (z.called p .none).ports = (z.quieted [p]).ports := by
  refine Vector.ext fun i hi => ?_
  have right := quieted_port [p] z ⟨i, hi⟩
  have left : (z.called p .none).port ⟨i, hi⟩
      = if (⟨i, hi⟩ : PortId) = p then { z.port p with emergency := .none } else z.port ⟨i, hi⟩ :=
    port_setPort z p ⟨i, hi⟩ _
  refine left.trans (Eq.trans ?_ right.symm)
  by_cases here : (⟨i, hi⟩ : PortId) = p
  · subst here
    simp
  · simp [here]

theorem leaveEmergency_backdrop (z : State) (p : PortId) : (z.leaveEmergency p).backdrop =
    (z.quieted [p]).backdrop := by
  rw [leaveEmergency_eq, handPriority_backdrop]
  exact congrArg (fun v : Vector Port 12 => State.backdrop { z with ports := v }) (called_none_eq_quieted z p)

theorem quieted_backdrop_congr (ps : List PortId) (same : t.backdrop = s.backdrop) :
    (t.quieted ps).backdrop = (s.quieted ps).backdrop := by
  have ports : (t.quieted ps).ports.map Port.backdrop = (s.quieted ps).ports.map Port.backdrop := by
    ext i hi : 1
    rw [Vector.getElem_map, Vector.getElem_map]
    have left := quieted_port ps t ⟨i, hi⟩
    have right := quieted_port ps s ⟨i, hi⟩
    have here : (t.port ⟨i, hi⟩).backdrop = (s.port ⟨i, hi⟩).backdrop := by
      have ports := congrArg (fun z : State => z.ports[i]) same
      simpa [State.backdrop, State.port] using ports
    refine (congrArg Port.backdrop left).trans (Eq.trans ?_ (congrArg Port.backdrop right).symm)
    split
    · exact congrArg (fun q : Port => { q with emergency := .none }) here
    · exact here
  calc (t.quieted ps).backdrop
      = { t.backdrop with ports := (t.quieted ps).ports.map Port.backdrop } := rfl
    _ = { s.backdrop with ports := (s.quieted ps).ports.map Port.backdrop } := by rw [ports, same]
    _ = (s.quieted ps).backdrop := rfl

theorem quieted_cons (z : State) (p : PortId) (ps : List PortId) :
    (z.quieted [p]).quieted ps = z.quieted (p :: ps) := by
  have ports (r : PortId) : ((z.quieted [p]).quieted ps).port r = (z.quieted (p :: ps)).port r := by
    rw [quieted_port, quieted_port, quieted_port]
    by_cases here : r = p <;> by_cases there : r ∈ ps <;> simp [here, there]
  exact congrArg (fun v => { z with ports := v }) (Vector.ext fun i hi => ports ⟨i, hi⟩)

theorem foldl_leaveEmergency_backdrop (ps : List PortId) (z : State) :
    (ps.foldl State.leaveEmergency z).backdrop = (z.quieted ps).backdrop := by
  induction ps generalizing z with
  | nil =>
    have same : z.quieted [] = z := congrArg (fun v => { z with ports := v })
      (Vector.ext fun i hi => quieted_port [] z ⟨i, hi⟩)
    rw [List.foldl_nil, same]
  | cons p ps ih =>
    rw [List.foldl_cons, ih, quieted_backdrop_congr ps (leaveEmergency_backdrop z p), quieted_cons]

theorem marked_foldl_leaveEmergency {src : Source} (ps : List PortId) (h : z.marked src) :
    (ps.foldl State.leaveEmergency z).marked src := by
  induction ps generalizing z with
  | nil => exact h
  | cons p ps ih => exact ih (marked_leaveEmergency p h)

theorem marked_of_leaving {ps : List PortId} (there : r ∈ ps) (declared : (z.port r).emergency ≠ .none) :
    (ps.foldl State.leaveEmergency z).marked (srcPort r) := by
  induction ps generalizing z with
  | nil => simp at there
  | cons p ps ih =>
    rw [List.foldl_cons]
    by_cases here : r = p
    · subst here
      exact marked_foldl_leaveEmergency ps (marked_of_left declared)
    · refine ih ((List.mem_cons.mp there).resolve_left here) ?_
      rw [leaveEmergency_emergency, if_neg here]
      exact declared

theorem sourcedFrom_iff {x : UnitId} : z.sourcedFrom x r = true ↔ (z.port r).emergency = .active (some x) := by
  simp [State.sourcedFrom]

/-- A port that leaves does not change which ports after it are sourced from the unit. -/
theorem foldl_sourced_eq (x : UnitId) (ps : List PortId) (once : ps.Nodup) (z : State) :
    ps.foldl (fun s p => if s.sourcedFrom x p then s.leaveEmergency p else s) z
      = (ps.filter (z.sourcedFrom x)).foldl State.leaveEmergency z := by
  induction ps generalizing z with
  | nil => rw [List.filter_nil, List.foldl_nil, List.foldl_nil]
  | cons p ps ih =>
    obtain ⟨fresh, once⟩ := List.nodup_cons.mp once
    rw [List.foldl_cons, ih once]
    cases sourced : z.sourcedFrom x p with
    | true =>
      have later : ps.filter ((z.leaveEmergency p).sourcedFrom x) = ps.filter (z.sourcedFrom x) := by
        refine List.filter_congr fun r there => ?_
        have other : r ≠ p := fun same => fresh (same ▸ there)
        rw [State.sourcedFrom, State.sourcedFrom, leaveEmergency_emergency, if_neg other]
      rw [if_pos rfl, later, List.filter_cons_of_pos sourced, List.foldl_cons]
    | false =>
      rw [if_neg Bool.false_ne_true, List.filter_cons_of_neg (by simp [sourced])]

theorem leaveAllSourced_eq (x : UnitId) (z : State) : z.leaveAllSourced x
    = (allPorts.filter (z.sourcedFrom x)).foldl State.leaveEmergency z := foldl_sourced_eq x allPorts nodup_allPorts z

/-! ## The request (R168) -/

/-- The ports that a clearance of this port reaches. -/
def State.clearing (p : PortId) (source : Option UnitId) (s : State) : List PortId :=
  match source with
  | none => [p]
  | some x => allPorts.filter (s.sourcedFrom x)

/-- The directory after a clearance of this source. -/
def State.unflagged (source : Option UnitId) (s : State) : Directory :=
  match source with
  | none => s.dir
  | some x => s.dir.modify x fun e => { e with emergency := false }

theorem pairwise_clearing (p : PortId) (source : Option UnitId) (s : State) :
    (s.clearing p source).Pairwise (· < ·) := by
  cases source with
  | none => exact List.pairwise_singleton _ _
  | some x => exact pairwise_allPorts.filter _

theorem mem_clearing_iff {source : Option UnitId} (active : (s.port p).emergency = .active source) :
    r ∈ s.clearing p source ↔ r = p ∨ ∃ x : UnitId, source = some x ∧ (s.port r).emergency = .active (some x) := by
  cases source with
  | none => simp [State.clearing]
  | some x =>
    simp only [State.clearing, List.mem_filter, mem_allPorts, true_and, sourcedFrom_iff, Option.some.injEq,
      exists_eq_left']
    exact ⟨.inr, fun h => h.elim (fun same => same ▸ active) id⟩

theorem clearEmergency_of_none (quiet : (s.port p).emergency = .none) :
    clearEmergency (natByte p.val) s = (s, some (.ok (halfBytes 0))) := by
  simp only [clearEmergency, portOf_natByte, quiet]
  rfl

theorem clearEmergency_of_active {source : Option UnitId} (active : (s.port p).emergency = .active source) (l : Link) :
    clearEmergency (natByte p.val) (s.withLink l)
      = (State.withLink l ((s.clearing p source).foldl State.leaveEmergency { s with dir := s.unflagged source }),
        some (.ok (halfBytes ((portSet (s.clearing p source)).zeroExtend 16)))) := by
  have active' : ((s.withLink l).port p).emergency = .active source := active
  rw [← foldl_withLink _ leaveEmergency_withLink]
  cases source with
  | none =>
    simp only [clearEmergency, portOf_natByte, active']
    rfl
  | some x =>
    simp only [clearEmergency, portOf_natByte, active', leaveAllSourced_eq]
    rfl

end

/-- Settles O41: the clearance is the fold of the ports that leave, over whose backdrop its outcome is read. -/
theorem emergencyClearReachesItsSource : Obligations.EmergencyClearReachesItsSource := by
  have short (n : Byte) : [n].length ≤ Config.maxPayload := by simp [Config.maxPayload]
  refine ⟨?_, fun s ready => ⟨fun n beyond => ?_, fun p => ⟨fun quiet => ?_, fun source active => ?_⟩⟩⟩
  · rintro z t x r rfl declared hx
    have gone : z.called r .none = x := by rw [hx, State.called, if_neg declared]
    have place : (x.port r).engaged = (z.port r).engaged ∧ x.memberOf r = z.memberOf r := by
      rw [← gone, called_port]
      exact ⟨rfl, rfl⟩
    rw [leaveEmergency_eq, gone]
    refine ⟨fun stays => handPriority_unchanged ?_, fun b moves engaged member => ?_⟩
    · rw [place.1, place.2]
      exact stays
    · exact handPriority_of_member moves (place.1.trans engaged) (place.2.trans member)
  · exact request_unchanged (a := .bare resRefusedRange) (act := clearEmergency n) ready 0x14 (short n)
      (by simp only [clearEmergency, portOf_eq_none beyond]; rfl)
  · exact request_unchanged (a := .ok (halfBytes 0)) ready 0x14 (short _) (clearEmergency_of_none
      (s := s.accepting) quiet)
  have back := foldl_leaveEmergency_backdrop (s.clearing p source) { s with dir := s.unflagged source }
  have names (r : PortId) := getLsbD_portSet (s.clearing p source) r
  refine ⟨_, _, portSet (s.clearing p source), request_of_withLink (s := s)
    (t := (s.clearing p source).foldl State.leaveEmergency { s with dir := s.unflagged source }) (a := .ok _) ready 0x14
    (short _) (clearEmergency_of_active active) ((link_of_backdrop back).trans rfl), fun r => ?_, rfl,
    answered_backdrop_congr ?_, fun r went => ?_, ?_⟩
  · rw [names, decide_eq_true_iff, mem_clearing_iff active]
  · rw [back]
    refine congrArg (fun v : Vector Port 12 => State.backdrop { s with dir := s.unflagged source, ports := v })
      (congrArg Vector.ofFn ?_)
    funext r
    rw [names]
    simp only [decide_eq_true_eq]
    rfl
  · rw [names, decide_eq_true_iff] at went
    refine marked_of_leaving (z := { s with dir := s.unflagged source }) went (show (s.port r).emergency ≠ _ from ?_)
    rcases (mem_clearing_iff active).mp went with rfl | ⟨x, -, sourced⟩
    · rw [active]; nofun
    · rw [sourced]; nofun
  · rw [filter_eq_of_rising pairwise_allPorts mem_allPorts (pairwise_clearing p source s) names]
    rfl

end Sys2Proof.Machine
end

section
/-! SUPPORT. What an accepted report does to identity and emergency (spec/02 R27 to R31, spec/09 R158 to R164), step by
step. -/

namespace Sys2Proof.Machine

section
variable {s t v z : State} {p r : PortId} {b : BridgeId} {u : UnitId}

/-! ## A change of one entry -/

theorem Directory.entry_modify {d : Directory} {change : Entry → Entry} (unit : ∀ e, (change e).unit = e.unit) :
    (d.modify u change).entry u = (d.entry u).map change := by
  cases found : d.find u with
  | none => rw [Directory.modify_of_find_none found, Directory.entry_of_find_none found, Option.map_none]
  | some w =>
    obtain ⟨e, there, here⟩ := Directory.at_of_find found
    rw [Directory.modify_of_find found, Directory.entry_of_find found, there, Option.map_some,
      Directory.entry_of_find (Directory.find_put ((unit e).trans here) (.inl found)), Directory.put_at,
      if_pos ⟨rfl, rfl⟩]

/-! ## The report heard (R24, log entries 4 and 10) -/

/-- The report's last stop bit is noted as a high level, and the receiver hunts. -/
def State.heard (p : PortId) (s : State) : State := { s with
  dataLines := s.dataLines ||| (1#12 <<< p.val), ports := s.ports.set p { s.port p with receiver := .hunting } }

theorem takeReport_of_wellFormed {kind : Byte} {accept : State → State} (valid : validUnit u = true)
    (carriable : reportCarriable kind u = true) (receiving : (s.port p).receiving = true) :
    s.takeReport p kind u accept = accept (s.heard p) := by
  unfold State.takeReport
  rw [valid, carriable, receiving]
  rfl

theorem heard_port (s : State) (p r : PortId) :
    (s.heard p).port r = if r = p then { s.port p with receiver := .hunting } else s.port r :=
  port_setPort s p r { s.port p with receiver := .hunting }

theorem heard_emergency (s : State) (p r : PortId) : ((s.heard p).port r).emergency = (s.port r).emergency := by
  rw [heard_port]
  split
  · next same => rw [same]
  · rfl

theorem effPriority_heard (s : State) (p : PortId) : (s.heard p).effPriority p = s.effPriority p := by
  have port := heard_port s p p
  rw [if_pos rfl] at port
  refine effPriority_of_override_same ?_ ?_ ?_ <;> rw [port]
  rfl

theorem dirReport_frame (s : State) (p : PortId) (u : UnitId) : s.dirReport p u = { s with
    dir := (s.dirReport p u).dir
    notices := (s.dirReport p u).notices } := by
  unfold State.dirReport
  split
  · rfl
  · split
    · rfl
    · rw [raise_eq]

/-! ## The talker's identity (R28) -/

/-- The unit taken as the identity of the talker. -/
def Port.identified (u : UnitId) (q : Port) : Port :=
  if q.engaged then { q with unit := some u } else { q with pendingId := some ⟨u, 250⟩ }

theorem identified_emergency (u : UnitId) (q : Port) : (q.identified u).emergency = q.emergency := by
  unfold Port.identified
  split <;> rfl

theorem identified_backdrop (u : UnitId) (q : Port) : (q.identified u).backdrop = q.backdrop := by
  unfold Port.identified
  split <;> rfl

theorem takeIdentity_eq (s : State) (p : PortId) (u : UnitId) :
    s.takeIdentity p u = s.portReported p ((s.port p).identified u) :=
  updatePort_eq (identified_emergency u (s.port p))

theorem takeIdentity_backdrop (s : State) (p : PortId) (u : UnitId) : (s.takeIdentity p u).backdrop = s.backdrop := by
  rw [takeIdentity_eq, portReported_backdrop, backdrop_setPort_congr (identified_backdrop u (s.port p))]
  simp [State.setPort, State.port]

/-! ## The emergency taken up (R158, R160) -/

/-- The attributes of the unit that calls (R164). -/
def State.callerOf (p : PortId) (u : UnitId) (s : State) : BitVec 4 × BitVec 3 :=
  ((s.dir.entry u).map fun e => (e.agency, e.role)).getD ((s.port p).setup.homeAgency, (s.port p).setup.homeRole)

theorem callerAttributes_called (s : State) (p : PortId) (u : UnitId) :
    (s.called p (.active (some u))).callerAttributes p = s.callerOf p u := by
  have port := called_port s p (.active (some u))
  have dir : (s.called p (.active (some u))).dir = s.dir := rfl
  unfold State.callerAttributes State.callerOf
  rw [port, dir]
  cases entry : s.dir.entry u <;> simp [entry]

/-- The bridges whose bursts start as the port takes up the emergency: none where it already was in one. -/
def State.alertedFor (p : PortId) (u : UnitId) (s : State) : List BridgeId :=
  if (s.port p).emergency = .none then (s.called p (.active (some u))).alertedNow p else []

theorem mem_alertedFor_iff : b ∈ s.alertedFor p u ↔
    (s.port p).emergency = .none ∧ s.mixer.mode = .run ∧ s.alerts p (s.callerOf p u) b := by
  unfold State.alertedFor
  split
  · next quiet =>
    rw [mem_alertedNow_iff, callerAttributes_called]
    exact (and_iff_right quiet).symm
  · next active => simp [active]

theorem pairwise_alertedFor (s : State) (p : PortId) (u : UnitId) : (s.alertedFor p u).Pairwise (· < ·) := by
  unfold State.alertedFor
  split
  · exact pairwise_alertedNow _ p
  · exact .nil

theorem takeEmergency_eq (s : State) (p : PortId) (u : UnitId) : s.takeEmergency p u
    = (s.alertedFor p u).foldl State.startBurst (s.called p (.active (some u))) := by
  unfold State.takeEmergency State.alertedFor
  cases emergency : (s.port p).emergency with
  | none =>
    rw [if_pos rfl]
    exact enterEmergency_eq s p (some u)
  | active source =>
    rw [if_neg nofun, List.foldl_nil]
    exact updatePort_emergency s p _

theorem takeEmergency_backdrop (s : State) (p : PortId) (u : UnitId) : (s.takeEmergency p u).backdrop
    = ((s.called p (.active (some u))).alerted (s.alertedFor p u)).backdrop := by
  rw [takeEmergency_eq]
  exact foldl_startBurst_backdrop _ ((pairwise_alertedFor s p u).imp fun lt => lt.ne) _

theorem marked_foldl_startBurst {src : Source} (bs : List BridgeId) (h : z.marked src) :
    (bs.foldl State.startBurst z).marked src := by
  induction bs generalizing z with
  | nil => exact h
  | cons b bs ih => exact ih (marked_startBurst b h)

theorem marked_takeEmergency (enters : (s.port p).emergency ≠ .active (some u)) :
    (s.takeEmergency p u).marked (srcPort p) := by
  rw [takeEmergency_eq]
  exact marked_foldl_startBurst _ (called_marked enters)

theorem marked_takeIdentity {src : Source} (h : s.marked src) : (s.takeIdentity p u).marked src :=
  marked_updatePort p _ h

/-! ## What a report's emergency leaves -/

/-- The part of an entry that its report fixes: the state `z` in which the directory has taken the report, but for the
marks and for what arbitration and keying may change; the emergency; and the identity where no burst has come of it. -/
def State.enteredAs (s z : State) (p : PortId) (u : UnitId) (bs : List BridgeId) (t : State) : Prop :=
  t.backdrop = ({ z with
      ports := z.ports.set p { z.port p with emergency := .active (some u) }
      bridges := Vector.ofFn fun b : BridgeId => if b ∈ bs then { s.bridge b with
          burst := (s.record b).alertLength * 250
          phase := if (s.bridge b).burst = 0 then ⟨.first, 0, true, 0⟩ else (s.bridge b).phase }
        else s.bridge b } : State).backdrop
    ∧ (t.port p).emergency = .active (some u) ∧ t.effPriority p = 4
    ∧ ((s.port p).emergency ≠ .active (some u) → t.notices.marks[srcPort p] = true)
    ∧ ((s.port p).emergency ≠ .none → (t.port p).engaged = (s.port p).engaged
      ∧ ((s.port p).engaged = true → (t.port p).unit = some u)
      ∧ ((s.port p).engaged = false → (t.port p).pendingId = some ⟨u, 250⟩ ∧ (t.port p).unit = (s.port p).unit))

/-- A state differs from the one that heard the report in directory, flags and marks at most. -/
def State.hears (p : PortId) (s z : State) : Prop :=
  z = { s.heard p with dir := z.dir, notices := z.notices }

theorem hears_port (hz : s.hears p z) (r : PortId) : z.port r = (s.heard p).port r := by
  have ports := congrArg (fun x : State => x.port r) hz
  exact ports

theorem hears_bridge (hz : s.hears p z) (b : BridgeId) : z.bridge b = s.bridge b := by
  have bridges := congrArg (fun x : State => x.bridge b) hz
  exact bridges

theorem hears_plans (hz : s.hears p z) : z.plans = s.plans := by
  have plans := congrArg State.plans hz
  exact plans

theorem hears_emergency (hz : s.hears p z) (r : PortId) : (z.port r).emergency = (s.port r).emergency := by
  rw [hears_port hz, heard_emergency]

theorem alerted_of_hears (hz : s.hears p z) (e : Emergency) (bs : List BridgeId) : ((z.called p e).alerted bs).backdrop
    = ({ z with
        ports := z.ports.set p { z.port p with emergency := e }
        bridges := Vector.ofFn fun b : BridgeId => if b ∈ bs then { s.bridge b with
            burst := (s.record b).alertLength * 250
            phase := if (s.bridge b).burst = 0 then ⟨.first, 0, true, 0⟩ else (s.bridge b).phase }
          else s.bridge b } : State).backdrop := by
  refine congrArg (fun v : Vector Bridge 8 => State.backdrop { z with
    ports := z.ports.set p { z.port p with emergency := e }, bridges := v }) (congrArg Vector.ofFn ?_)
  funext b
  have frames : (z.called p e).alertFrames b = (s.record b).alertLength * 250 :=
    (alertFrames_of_plans (s := s) (t := z.called p e) (show z.plans = s.plans from hears_plans hz) b).trans rfl
  rw [frames, show (z.called p e).bridge b = s.bridge b from hears_bridge hz b]
  rfl

/-- A port already in an emergency is not moved by the priority: it stays at 4. -/
theorem handPriority_of_active {e e' : Option UnitId} (was : (s.port p).emergency = .active e)
    (is : (t.port p).emergency = .active e') : t.handPriority p (s.effPriority p) = t :=
  handPriority_unchanged (.inl (by rw [effPriority_of_active was, effPriority_of_active is]))

theorem enteredAs_of {x : State} {bs : List BridgeId} (hz : s.hears p z)
    (back : x.backdrop = ((z.called p (.active (some u))).alerted bs).backdrop)
    (mark : (z.port p).emergency ≠ .active (some u) → x.marked (srcPort p))
    (port : (z.port p).emergency ≠ .none → x.port p = { (z.port p).identified u with emergency := .active (some u) }) :
    s.enteredAs z p u bs (x.handPriority p (s.effPriority p)) := by
  have active : (x.port p).emergency = .active (some u) :=
    (emergency_of_backdrop back p).trans (congrArg Port.emergency (called_port z p _))
  have active' : ((x.handPriority p (s.effPriority p)).port p).emergency = .active (some u) :=
    (emergency_of_backdrop (handPriority_backdrop x p _) p).trans active
  refine ⟨?_, active', effPriority_of_active active', fun enters => ?_, fun already => ?_⟩
  · rw [handPriority_backdrop, back, alerted_of_hears hz]
  · rw [← hears_emergency hz] at enters
    exact marked_handPriority p _ (mark enters)
  · obtain ⟨source, was⟩ : ∃ source, (s.port p).emergency = .active source := by
      cases emergency : (s.port p).emergency with
      | none => exact absurd emergency already
      | active source => exact ⟨source, rfl⟩
    have here := hears_port hz p
    rw [heard_port, if_pos rfl] at here
    rw [handPriority_of_active was active, port (by rw [hears_emergency hz]; exact already), here]
    cases engaged : (s.port p).engaged <;> simp [Port.identified, engaged]

theorem rising_ext {n : Nat} {xs ys : List (Fin n)} (rising : xs.Pairwise (· < ·)) (rising' : ys.Pairwise (· < ·))
    (same : ∀ x, x ∈ xs ↔ x ∈ ys) : xs = ys :=
  ((List.perm_ext_iff_of_nodup (rising.imp fun lt => lt.ne) (rising'.imp fun lt => lt.ne)).mpr same).eq_of_pairwise
    (fun _ _ _ _ lt gt => absurd lt (lt_asymm gt)) rising rising'

theorem identified_setup (u : UnitId) (q : Port) : (q.identified u).setup = q.setup := by
  unfold Port.identified
  split <;> rfl

theorem port_takeIdentity (s : State) (p : PortId) (u : UnitId) :
    (s.takeIdentity p u).port p = (s.port p).identified u := by
  rw [takeIdentity_eq, port_portReported, if_pos rfl]

/-- An identity taken does not change which bridges the emergency alerts. -/
theorem alertedFor_takeIdentity (s : State) (p : PortId) (u : UnitId) :
    (s.takeIdentity p u).alertedFor p u = s.alertedFor p u := by
  refine rising_ext (pairwise_alertedFor ..) (pairwise_alertedFor ..) fun b => ?_
  have caller : (s.takeIdentity p u).callerOf p u = s.callerOf p u := by
    rw [State.callerOf, State.callerOf, port_takeIdentity, identified_setup, takeIdentity_eq]
    rfl
  rw [mem_alertedFor_iff, mem_alertedFor_iff, caller, port_takeIdentity, identified_emergency, takeIdentity_eq]
  rfl

theorem called_backdrop_congr (same : t.backdrop = s.backdrop) (p : PortId) (e : Emergency) :
    (t.called p e).backdrop = (s.called p e).backdrop := by
  have port : (t.port p).backdrop = (s.port p).backdrop := by
    have ports := congrArg (fun z : State => z.port p) same
    simpa [State.backdrop, State.port] using ports
  have ports : t.ports.map Port.backdrop = s.ports.map Port.backdrop := congrArg State.ports same
  have set : (t.called p e).ports.map Port.backdrop = (s.called p e).ports.map Port.backdrop := by
    simp only [State.called, Vector.map_set, ports]
    exact congrArg (fun q : Port => (s.ports.map Port.backdrop).set p { q with emergency := e }) port
  calc (t.called p e).backdrop
      = { t.backdrop with ports := (t.called p e).ports.map Port.backdrop } := rfl
    _ = { s.backdrop with ports := (s.called p e).ports.map Port.backdrop } := by rw [set, same]
    _ = (s.called p e).backdrop := rfl

theorem takeEmergency_of_already (already : (s.port p).emergency ≠ .none) :
    s.takeEmergency p u = s.called p (.active (some u)) := by
  rw [takeEmergency_eq, State.alertedFor, if_neg already, List.foldl_nil]

/-- An identity taken, then the emergency (IDENT, R28 and R160). -/
theorem enteredAs_of_ident (hz : s.hears p z) : s.enteredAs z p u (z.alertedFor p u)
    (((z.takeIdentity p u).takeEmergency p u).handPriority p (s.effPriority p)) := by
  have emergency : ((z.takeIdentity p u).port p).emergency = (z.port p).emergency := by
    rw [port_takeIdentity, identified_emergency]
  refine enteredAs_of hz ?_ (fun enters => marked_takeEmergency (by rw [emergency]; exact enters)) fun already => ?_
  · rw [takeEmergency_backdrop, alertedFor_takeIdentity]
    exact alerted_of_rest _ (called_backdrop_congr (takeIdentity_backdrop z p u) p _)
  · rw [takeEmergency_of_already (by rw [emergency]; exact already), called_port, port_takeIdentity]

/-- The emergency taken up, then an identity (EMERG, R29). -/
theorem enteredAs_of_emerg (hz : s.hears p z) : s.enteredAs z p u (z.alertedFor p u)
    (((z.takeEmergency p u).takeIdentity p u).handPriority p (s.effPriority p)) := by
  refine enteredAs_of hz ?_ (fun enters => marked_takeIdentity (marked_takeEmergency enters)) fun already => ?_
  · rw [takeIdentity_backdrop, takeEmergency_backdrop]
  · rw [port_takeIdentity, takeEmergency_of_already already, called_port]
    unfold Port.identified
    dsimp only
    split <;> rfl

/-! ## The bridges alerted, and the states on the way, by the state before -/

theorem mem_alertedFor_of_hears (hz : s.hears p z) : b ∈ z.alertedFor p u ↔ (s.port p).emergency = .none
    ∧ s.mixer.mode = .run ∧ (s.record b).alertLength ≠ 0 ∧ (s.memberOf p = some b
      ∨ ∃ n : Fin 8, s.watch[n].enabled = true ∧ s.watch[n].bridges.getLsbD b = true
        ∧ (z.callerOf p u).1 &&& s.watch[n].agencyCare = s.watch[n].agencyCompare &&& s.watch[n].agencyCare
        ∧ (z.callerOf p u).2 &&& s.watch[n].roleCare = s.watch[n].roleCompare &&& s.watch[n].roleCare) := by
  have mixer : z.mixer = s.mixer := by
    have mixer := congrArg State.mixer hz
    exact mixer
  have watch : z.watch = s.watch := by
    have watch := congrArg State.watch hz
    exact watch
  have plans := hears_plans hz
  rw [mem_alertedFor_iff, hears_emergency hz, mixer, State.alerts, watch, record_of_plans plans,
    memberOf_of_records (congrArg Plans.records plans) (congrArg Plans.active plans)]

theorem setup_of_hears (hz : s.hears p z) : (z.port p).setup = (s.port p).setup := by
  rw [hears_port hz, heard_port, if_pos rfl]

theorem hears_dir (hz : s.hears p z) (dir : Directory) : s.hears p { z with dir := dir } := by
  have changed := congrArg (fun x : State => ({ x with dir := dir } : State)) hz
  exact changed

theorem hears_dirReport (s : State) (p : PortId) (u : UnitId) : s.hears p ((s.heard p).dirReport p u) :=
  dirReport_frame (s.heard p) p u

/-- The attributes of the caller are none of the emergency flag's concern. -/
theorem callerOf_flagged (z : State) (p : PortId) (u : UnitId) (on : Bool) :
    State.callerOf p u { z with dir := z.dir.modify u fun e => { e with emergency := on } } = z.callerOf p u := by
  have entry : (z.dir.modify u fun e => { e with emergency := on }).entry u
      = (z.dir.entry u).map fun e => { e with emergency := on } := Directory.entry_modify fun _ => rfl
  unfold State.callerOf
  rw [entry, Option.map_map]
  rfl

theorem enteredAs_dir {bs : List BridgeId} (entered : s.enteredAs z p u bs t) : t.dir = z.dir :=
  (dir_of_backdrop entered.1).trans rfl

/-! ## The three reports -/

/-- What an IDENT leaves of the state in which the directory has taken it. -/
def State.identTaken (s v : State) (p : PortId) (u : UnitId) : State :=
  (if v.unitFlagged u then (v.takeIdentity p u).takeEmergency p u else v.takeIdentity p u).handPriority p
    (s.effPriority p)

theorem identTaken_of_clear (clear : v.unitFlagged u = false) :
    s.identTaken v p u = (v.takeIdentity p u).handPriority p (s.effPriority p) := by
  rw [State.identTaken, clear, if_neg Bool.false_ne_true]

theorem identTaken_of_flagged (flagged : v.unitFlagged u = true) : s.identTaken v p u
    = ((v.takeIdentity p u).takeEmergency p u).handPriority p (s.effPriority p) := by
  rw [State.identTaken, flagged, if_pos rfl]

theorem identTaken_dir (hv : s.hears p v) : (s.identTaken v p u).dir = v.dir := by
  cases flagged : v.unitFlagged u with
  | true =>
    rw [identTaken_of_flagged flagged]
    exact enteredAs_dir (enteredAs_of_ident hv)
  | false =>
    rw [identTaken_of_clear flagged]
    exact dir_of_backdrop ((handPriority_backdrop ..).trans (takeIdentity_backdrop v p u))

theorem ident_accepted (valid : validUnit u = true) (carriable : reportCarriable 1 u = true) (calm : s.calm)
    (receiving : (s.port p).receiving = true) (hv : v = (s.heard p).dirReport p u) : exec (.ident p u) s
    = .next (s.identTaken v p u) := by
  refine (operate_of_calm calm _).trans (congrArg Host.Outcome.next ?_)
  have flagged : (v.takeIdentity p u).unitFlagged u = v.unitFlagged u := by
    unfold State.unitFlagged
    rw [dir_of_backdrop (takeIdentity_backdrop v p u)]
  rw [takeReport_of_wellFormed valid carriable receiving, State.acceptIdent, effPriority_heard, ← hv,
    flagged, State.identTaken]

theorem emerg_accepted (valid : validUnit u = true) (carriable : reportCarriable 2 u = true) (calm : s.calm)
    (receiving : (s.port p).receiving = true) : exec (.emerg p u) s
    = .next ((((((s.heard p).dirReport p u).flagUnit u true).takeEmergency p u).takeIdentity p u).handPriority p
      (s.effPriority p)) := by
  refine (operate_of_calm calm _).trans (congrArg Host.Outcome.next ?_)
  rw [takeReport_of_wellFormed valid carriable receiving, State.acceptEmerg, effPriority_heard]

theorem emergClear_accepted (valid : validUnit u = true) (carriable : reportCarriable 3 u = true) (calm : s.calm)
    (receiving : (s.port p).receiving = true) : exec (.emergClear p u) s
    = .next ((((s.heard p).dirReport p u).flagUnit u false).leaveAllSourced u) := by
  refine (operate_of_calm calm _).trans (congrArg Host.Outcome.next ?_)
  rw [takeReport_of_wellFormed valid carriable receiving, State.acceptEmergClear]

theorem leaveAllSourced_of_hears (hz : s.hears p z) : z.leaveAllSourced u
    = (allPorts.filter fun r => (s.port r).emergency == .active (some u)).foldl State.leaveEmergency z := by
  have sourced : z.sourcedFrom u = fun r => (s.port r).emergency == .active (some u) :=
    funext fun r => by rw [State.sourcedFrom, hears_emergency hz]
  rw [leaveAllSourced_eq, sourced]

theorem quieted_sourced (s z : State) (u : UnitId) :
    z.quieted (allPorts.filter fun r => (s.port r).emergency == .active (some u)) = { z with
      ports := Vector.ofFn fun r : PortId => if (s.port r).emergency = .active (some u)
        then { z.port r with emergency := .none } else z.port r } := by
  unfold State.quieted
  simp only [List.mem_filter, mem_allPorts, true_and, beq_iff_eq]

theorem quieted_of_none (none : ∀ r, (s.port r).emergency ≠ .active (some u)) (z : State) :
    { z with
      ports := Vector.ofFn fun r : PortId => if (s.port r).emergency = .active (some u)
        then { z.port r with emergency := .none } else z.port r } = z := by
  have ports : (Vector.ofFn fun r : PortId => if (s.port r).emergency = .active (some u)
      then { z.port r with emergency := .none } else z.port r) = z.ports := by
    refine Vector.ext fun i hi => ?_
    rw [Vector.getElem_ofFn, if_neg (none _)]
    rfl
  rw [ports]

theorem foldl_alert_eq (bs : List BridgeId) (plans : t.plans = s.plans) : bs.foldl (fun z b => State.handOn
    (if (z.bridge b).burst = 0
      then z.bridgeReported true b { z.bridge b with
        burst := (s.record b).alertLength * 250, phase := ⟨.first, 0, true, 0⟩ }
      else { z with bridges := z.bridges.set b { z.bridge b with burst := (s.record b).alertLength * 250 } })) t
    = bs.foldl State.startBurst t := by
  rw [foldl_startBurst_eq bs plans]
  rfl

end

/-- Settles O52: each report as a fold of the steps of its rule on the state in which the directory has taken it. -/
theorem reportsActOnIdentityAndEmergency : Obligations.ReportsActOnIdentityAndEmergency := by
  refine ⟨fun v u => ?_, ?_⟩
  · rw [State.unitFlagged, Option.any_eq_true]
  intro s p u calm receiving w v marked identify call caller alerted frames alert entered
  have heard : v = (s.heard p).dirReport p u := rfl
  clear_value v
  have hv : s.hears p v := heard ▸ hears_dirReport s p u
  have hm (on : Bool) : s.hears p (marked on) := hears_dir hv _
  have identity (z : State) : identify z = z.takeIdentity p u := (takeIdentity_eq z p u).symm
  have calls (z : State) (same : (z.port p).emergency = (s.port p).emergency) :
      call z = z.called p (.active (some u)) := by
    rw [State.called, same]
  have bursts (z : State) (bs : List BridgeId) (plans : z.plans = s.plans) :
      bs.foldl alert z = bs.foldl State.startBurst z := foldl_alert_eq bs plans
  have callerEq : v.callerOf p u = caller := by
    rw [State.callerOf, setup_of_hears hv]
  have alertedIff (z : State) (hz : s.hears p z) (same : z.callerOf p u = caller) (b : BridgeId) :
      b ∈ z.alertedFor p u ↔ alerted b := by
    rw [mem_alertedFor_of_hears hz, same]
  have taken := takeIdentity_backdrop v p u
  have plans : (identify v).plans = s.plans := by
    rw [identity]
    exact (plans_of_backdrop taken).trans (hears_plans hv)
  have emergency : ((identify v).port p).emergency = (s.port p).emergency := by
    rw [identity, emergency_of_backdrop taken, hears_emergency hv]
  refine ⟨fun z => ⟨handPriority_unchanged, fun b => handPriority_of_member⟩, fun formed => ?_, fun formed => ?_,
    fun formed => ?_⟩ <;> obtain ⟨valid, carriable⟩ := Bool.and_eq_true_iff.mp formed
  · refine ⟨s.identTaken v p u, v.alertedFor p u, ident_accepted valid carriable calm receiving heard,
      alertedIff v hv callerEq, pairwise_alertedFor v p u, identTaken_dir hv, fun clear => ?_, fun flagged => ?_⟩
    · rw [identTaken_of_clear clear, identity, handPriority_backdrop]
      exact ⟨rfl, taken⟩
    · rw [identTaken_of_flagged flagged, calls _ emergency, bursts (State.called p _ (identify v)) _ plans, identity,
        ← alertedFor_takeIdentity v p u, ← takeEmergency_eq, alertedFor_takeIdentity]
      exact ⟨enteredAs_of_ident hv, rfl⟩
  · have came := emerg_accepted valid carriable calm receiving
    rw [← heard] at came
    have plans' : (marked true).plans = s.plans := hears_plans (hm true)
    have entry : entered (marked true) _ _ := enteredAs_of_emerg (u := u) (hm true)
    refine ⟨_, (marked true).alertedFor p u, came,
      alertedIff _ (hm true) ((callerOf_flagged v p u true).trans callerEq), pairwise_alertedFor _ p u,
      enteredAs_dir (s := s) entry, entry, ?_⟩
    rw [identity, calls _ (hears_emergency (hm true) p), bursts (State.called p _ (marked true)) _ plans',
      ← takeEmergency_eq]
    rfl
  · have left : State.leaveAllSourced u (marked false) = _ := leaveAllSourced_of_hears (hm false)
    have came := emergClear_accepted valid carriable calm receiving
    rw [← heard] at came
    have back := foldl_leaveEmergency_backdrop (allPorts.filter fun r => (s.port r).emergency == .active (some u))
      (marked false)
    rw [← left] at back
    refine ⟨_, _, came, rfl, ?_, fun r sourced => ⟨?_, ?_⟩, fun none => ?_, left⟩
    · exact back.trans (congrArg State.backdrop (quieted_sourced s (marked false) u))
    · refine (emergency_of_backdrop back r).trans ?_
      rw [quieted_port, if_pos (by simp [sourced, mem_allPorts])]
    · rw [show State.flagUnit u false v = marked false from rfl, left]
      refine marked_of_leaving (z := marked false) (by simp [sourced, mem_allPorts]) ?_
      rw [hears_emergency (hm false), sourced]
      nofun
    · refine Eq.trans ?_ (quieted_of_none none (marked false)).symm
      have nobody : allPorts.filter (fun r => (s.port r).emergency == .active (some u)) = [] :=
        List.filter_eq_nil_iff.mpr fun r _ => by simp [none r]
      exact left.trans (by rw [nobody, List.foldl_nil])

end Sys2Proof.Machine
end

section
/-! SUPPORT. The link receiver, byte by byte and state by state (spec/11 R180 to R184). -/

namespace Sys2Proof.Machine

section
variable {s : State} {b kind : Byte} {pl : List Byte}

/-! ## A byte by the receiver's state (R182) -/

theorem linkByteTaken_of_calm (calm : s.calm) (b : Byte) : exec (.linkByteTaken b) s = .next (s.takeLinkByte b) :=
  operate_of_calm calm fun s => s.takeLinkByte b

theorem takeLinkByte_of_lineWait (waits : s.link.lineWait = true) (b : Byte) : s.takeLinkByte b = s := by
  rw [State.takeLinkByte, if_pos waits]

theorem takeLinkByte_of_hunting (free : s.link.lineWait = false) (rx : s.link.rx = .hunting) (b : Byte) :
    s.takeLinkByte b = if b = 0x5A ∧ s.link.replies.length < 4 then s.reserve.receive .length else s := by
  simp only [State.takeLinkByte, free, rx, Bool.false_eq_true, if_false]
  rfl

theorem takeLinkByte_of_length (free : s.link.lineWait = false) (rx : s.link.rx = .length) (b : Byte) :
    s.takeLinkByte b = if b.toNat ≤ 60 then s.receive (.kind b.toNat) else s.abandonFrame := by
  simp only [State.takeLinkByte, free, rx, Bool.false_eq_true, if_false]
  rfl

theorem takeLinkByte_of_kind {n : Nat} (free : s.link.lineWait = false) (rx : s.link.rx = .kind n) (b : Byte) :
    s.takeLinkByte b = s.receive (if n = 0 then .check b [] else .payload n b []) := by
  simp only [State.takeLinkByte, free, rx, Bool.false_eq_true, if_false]

theorem takeLinkByte_of_payload {n : Nat} (free : s.link.lineWait = false) (rx : s.link.rx = .payload n kind pl)
    (b : Byte) : s.takeLinkByte b
      = s.receive (if pl.length + 1 < n then .payload n kind (pl ++ [b]) else .check kind (pl ++ [b])) := by
  simp only [State.takeLinkByte, free, rx, Bool.false_eq_true, if_false, List.length_append, List.length_singleton]

theorem takeLinkByte_of_check (free : s.link.lineWait = false) (rx : s.link.rx = .check kind pl) (b : Byte) :
    s.takeLinkByte b = s.completeReception kind pl b := by
  simp only [State.takeLinkByte, free, rx, Bool.false_eq_true, if_false]

/-! ## A complete frame (R184) -/

theorem completeReception_of_good (good : kind + byteSum pl + b = 0) : s.completeReception kind pl b
    = s.endReception.answerFrame kind (judgeFrame kind pl) := by
  rw [State.completeReception]
  exact if_pos good

theorem completeReception_of_bad (bad : kind + byteSum pl + b ≠ 0) : s.completeReception kind pl b
    = (s.endReception.raise srcDevice flagLinkFrame).formReply kind (some (.bare resBadCheck)) := by
  rw [State.completeReception]
  exact if_neg bad

theorem formReply_rx (kind : Byte) (a : Option Answer) (s : State) :
    (s.formReply kind a).link.rx = s.link.rx ∧ (s.formReply kind a).link.gapRunning = s.link.gapRunning := ⟨rfl, rfl⟩

theorem completeReception_hunts (s : State) (kind : Byte) (pl : List Byte) (b : Byte) :
    (s.completeReception kind pl b).link.rx = .hunting ∧ (s.completeReception kind pl b).link.gapRunning = false := by
  by_cases good : kind + byteSum pl + b = 0
  · have link := (judgeFrame_acts kind pl s.endReception).1
    rw [completeReception_of_good good, State.answerFrame, (formReply_rx ..).1, (formReply_rx ..).2, link]
    exact ⟨rfl, rfl⟩
  · rw [completeReception_of_bad good, (formReply_rx ..).1, (formReply_rx ..).2, State.raise_link]
    exact ⟨rfl, rfl⟩

theorem expireGap_of_receiving (receiving : s.link.rx ≠ .hunting) : s.expireGap = s.abandonFrame := by
  unfold State.expireGap
  split
  · next hunting => exact absurd hunting receiving
  · rfl
  · rfl
  · rfl
  · rfl

end

/-- Settles O44: the receiver's states one by one, each by its equation. -/
theorem linkReceiverActsByState : Obligations.LinkReceiverActsByState := by
  refine ⟨⟨rfl, rfl, fun s b calm free => ?_⟩, fun s calm => ⟨fun hunting => ?_, fun receiving => ?_,
    operate_of_calm calm fun s => { s with link := { s.link with lineWait := true } },
    operate_of_calm calm fun s => { s with link := { s.link with lineWait := false } }, fun waits b => ?_⟩⟩
  · intro goesOn
    rw [linkByteTaken_of_calm calm, linkByteTaken_of_calm calm]
    refine ⟨fun rx other => ?_, fun rx full => ?_, fun rx room => ?_, fun rx fits => ?_, fun rx long => ?_, fun rx =>
      ?_,
      fun n rx => ?_, fun n kind taken rx => ⟨fun more => ?_, fun last => ?_⟩, fun kind pl rx =>
        ⟨_, congrArg _ (takeLinkByte_of_check free rx b), completeReception_hunts s kind pl b⟩⟩
    · rw [takeLinkByte_of_hunting free rx, if_neg fun both => other both.1]
    · rw [takeLinkByte_of_hunting free rx, if_neg fun both => absurd both.2 (by omega)]
    · rw [takeLinkByte_of_hunting free rx, if_pos ⟨rfl, room⟩]
      rfl
    · rw [takeLinkByte_of_length free rx, if_pos fits]
      rfl
    · rw [takeLinkByte_of_length free rx, if_neg (by omega)]
      rfl
    · rw [takeLinkByte_of_kind free rx, if_pos rfl]
      rfl
    · rw [takeLinkByte_of_kind free rx, if_neg n.succ_ne_zero]
      rfl
    · rw [takeLinkByte_of_payload free rx, if_pos more]
      rfl
    · rw [takeLinkByte_of_payload free rx, if_neg (by omega)]
      rfl
  · refine (operate_of_calm calm _).trans (congrArg _ ?_)
    rw [State.expireGap, hunting]
  · refine (operate_of_calm calm _).trans (congrArg _ ?_)
    rw [expireGap_of_receiving receiving]
    rfl
  · rw [linkByteTaken_of_calm calm, takeLinkByte_of_lineWait waits]

end Sys2Proof.Machine
end

section
/-! SUPPORT. The bytes of frames and the judging of a complete one (spec/11 R181, R184, R185, R190). -/

namespace Sys2Proof.Machine

section
variable {s t : State} {kind b : Byte} {pl : List Byte} {c : Instr}

/-! ## The sum of a frame (R181) -/

theorem byteSum_toNat (pl : List Byte) : (byteSum pl).toNat = (pl.map BitVec.toNat).sum % 256 := by
  induction pl with
  | nil => rfl
  | cons x xs ih =>
    have step : byteSum (x :: xs) = x + byteSum xs := rfl
    rw [step, BitVec.toNat_add, ih, List.map_cons, List.sum_cons, Nat.add_mod_mod]

/-! ## The frame that each request stands for (R190) -/

theorem gainsOf_gainBytes (mask : Byte) (gains : Vector Half 8) : gainsOf (mask :: gainBytes gains) = gains := by
  obtain ⟨⟨list⟩, size⟩ := gains
  match list, size with
  | [a, b, c, d, e, f, g, h], _ =>
    refine Vector.ext fun i hi => ?_
    rw [gainsOf, Vector.getElem_ofFn]
    match i, hi with
    | 0, _ | 1, _ | 2, _ | 3, _ | 4, _ | 5, _ | 6, _ | 7, _ => exact half_of_bytes _

theorem mixerFieldsOf_mixerFieldBytes (f : MixerFields) : mixerFieldsOf (mixerFieldBytes f) = f := by
  have amplitude : (mixerFieldsOf (mixerFieldBytes f)).amplitude = f.amplitude := half_of_bytes _
  have conGain : (mixerFieldsOf (mixerFieldBytes f)).conGain = f.conGain := half_of_bytes _
  obtain ⟨rate, rounding, a, p1, p2, g⟩ := f
  unfold mixerFieldsOf at *
  dsimp only at amplitude conGain
  rw [amplitude, conGain]
  rfl

/-- The command is a request whose frame has the length of its kind and whose kind names what it does, or it is a
frame of
unknown kind. -/
def carriesRequest (c : Instr) (kind : Byte) (pl : List Byte) : Prop :=
  requestLength kind = some pl.length ∧ exec c = request kind pl (requestAction kind pl)

theorem carriesRequest_of {act : Action} (length : requestLength kind = some pl.length)
    (taken : exec c = request kind pl act) (acts : requestAction kind pl = act) : carriesRequest c kind pl :=
  ⟨length, taken.trans (congrArg (request kind pl) acts.symm)⟩

theorem carriesRequest_of_requestFrame (frame : requestFrame c = some (kind, pl)) :
    carriesRequest c kind pl ∨ c = .unknownKind kind pl := by
  have here {kind' : Byte} {pl' : List Byte} (carried : carriesRequest c kind' pl')
      (is : requestFrame c = some (kind', pl')) : carriesRequest c kind pl ∨ c = .unknownKind kind pl := by
    obtain ⟨rfl, rfl⟩ := Prod.mk.inj (Option.some.inj (is.symm.trans frame))
    exact .inl carried
  cases c with
  | describe => exact here (carriesRequest_of rfl rfl rfl) rfl
  | portSetup n f =>
    exact here (carriesRequest_of rfl rfl (congrArg (setupPort n) (setupFieldsOf_setupFieldBytes n f))) rfl
  | portRead n => exact here (carriesRequest_of rfl rfl rfl) rfl
  | portStart n => exact here (carriesRequest_of rfl rfl rfl) rfl
  | portStop n => exact here (carriesRequest_of rfl rfl rfl) rfl
  | manualKey n x => exact here (carriesRequest_of rfl rfl rfl) rfl
  | planEdit n f =>
    exact here (carriesRequest_of rfl rfl (congrArg (editPlan n) (recordFieldsOf_recordFieldBytes n f))) rfl
  | planRead n x => exact here (carriesRequest_of rfl rfl rfl) rfl
  | planCopy => exact here (carriesRequest_of rfl rfl rfl) rfl
  | planSwitch => exact here (carriesRequest_of rfl rfl rfl) rfl
  | bridgeRead n => exact here (carriesRequest_of rfl rfl rfl) rfl
  | clearBridges => exact here (carriesRequest_of rfl rfl rfl) rfl
  | unitEnter u n x y =>
    exact here (carriesRequest_of rfl rfl (congrArg (fun u => enter u n x y) (half_of_bytes u))) rfl
  | unitRemove u => exact here (carriesRequest_of rfl rfl (congrArg remove (half_of_bytes u))) rfl
  | unitRead n x y => exact here (carriesRequest_of rfl rfl rfl) rfl
  | purgeLearned => exact here (carriesRequest_of rfl rfl rfl) rfl
  | watchSet n f => exact here (carriesRequest_of rfl rfl rfl) rfl
  | watchRead n => exact here (carriesRequest_of rfl rfl rfl) rfl
  | emergencyDeclare n => exact here (carriesRequest_of rfl rfl rfl) rfl
  | emergencyClear n => exact here (carriesRequest_of rfl rfl rfl) rfl
  | consoleTalk set => exact here (carriesRequest_of rfl rfl rfl) rfl
  | consoleRelease => exact here (carriesRequest_of rfl rfl rfl) rfl
  | consoleMonitor mask gains =>
    have length : requestLength 0x17 = some (mask :: gainBytes gains).length := by
      rw [List.length_cons, gainBytes_length]
      rfl
    exact here (carriesRequest_of length rfl (congrArg (monitor mask) (gainsOf_gainBytes mask gains))) rfl
  | mixerSetup f =>
    exact here (carriesRequest_of rfl rfl (congrArg setupMixer (mixerFieldsOf_mixerFieldBytes f))) rfl
  | mixerHalt => exact here (carriesRequest_of rfl rfl rfl) rfl
  | mixerRun => exact here (carriesRequest_of rfl rfl rfl) rfl
  | faultClear n x => exact here (carriesRequest_of rfl rfl rfl) rfl
  | maskSet n x y => exact here (carriesRequest_of rfl rfl rfl) rfl
  | unknownKind k x =>
    obtain ⟨rfl, rfl⟩ := Prod.mk.inj (Option.some.inj frame)
    exact .inr rfl
  | _ => exact nomatch frame

/-! ## The judgement (R184) -/

theorem requestLength_bounds {n : Nat} (known : requestLength kind = some n) :
    1 ≤ kind.toNat ∧ kind.toNat ≤ 0x1C := by
  unfold requestLength at known
  split at known
  iterate 28 next named => omega
  cases known

theorem requestLength_eq_none_iff (kind : Byte) : requestLength kind = none ↔ kind.toNat = 0 ∨ 0x1C < kind.toNat := by
  constructor
  · intro none
    by_contra named
    have bounds : 1 ≤ kind.toNat ∧ kind.toNat ≤ 0x1C := by omega
    obtain ⟨low, high⟩ := bounds
    unfold requestLength at none
    interval_cases kind.toNat <;> exact nomatch none
  · intro outside
    by_contra known
    obtain ⟨n, known⟩ := Option.ne_none_iff_exists'.mp known
    have bounds := requestLength_bounds known
    omega

theorem judgeFrame_of_pending (pending : s.plans.switchPending = true) :
    judgeFrame kind pl s = (s, some (.bare resBusy)) := by
  rw [judgeFrame, if_pos pending]
  rfl

theorem judgeFrame_of_unknown (free : s.plans.switchPending = false) (unknown : requestLength kind = none) :
    judgeFrame kind pl s = (s, some (.bare resUnknownKind)) := by
  rw [judgeFrame, if_neg (by simp [free]), unknown]
  rfl

theorem judgeFrame_of_length {n : Nat} (free : s.plans.switchPending = false) (known : requestLength kind = some n)
    (other : pl.length ≠ n) : judgeFrame kind pl s = (s, some (.bare resBadLength)) := by
  rw [judgeFrame, if_neg (by simp [free]), known]
  exact if_neg other

/-- A request that arrives whole acts as its frame is judged. -/
theorem exec_eq_judged (frame : requestFrame c = some (kind, pl)) : ∃ act, exec c = request kind pl act
    ∧ ∀ z : State, (if z.plans.switchPending then z.refuse resBusy else act z) = judgeFrame kind pl z := by
  rcases carriesRequest_of_requestFrame frame with ⟨length, taken⟩ | rfl
  · refine ⟨_, taken, fun z => ?_⟩
    rw [judgeFrame, length]
    dsimp only
    rw [if_pos rfl]
  · refine ⟨judgeFrame kind pl, rfl, fun z => ?_⟩
    split
    · next pending => exact (judgeFrame_of_pending pending).symm
    · rfl

theorem exec_of_requestFrame (frame : requestFrame c = some (kind, pl)) (fits : pl.length ≤ 60) (calm : s.calm)
    (ready : s.link.ready = true) : exec c s = .next (s.accepting.answerFrame kind (judgeFrame kind pl)) := by
  obtain ⟨act, taken, judged⟩ := exec_eq_judged frame
  have whole : (s.link.ready && decide (pl.length ≤ Config.maxPayload)) = true := by
    rw [ready, Bool.true_and]
    exact decide_eq_true fits
  rw [taken]
  refine (operate_of_calm calm _).trans (congrArg _ ?_)
  rw [State.takeFrame, if_pos whole, funext judged]
  rfl

theorem answerFrame_of_answer {act : Action} {a : Answer} (acts : act s = (s, some a)) :
    s.answerFrame kind act = s.formReply kind (some a) := by
  rw [State.answerFrame, acts]

theorem formReply_accepting (fresh : Place.reserved ∉ s.link.replies) (a : Answer) :
    s.accepting.formReply kind (some a) = s.answered kind a.payload := by
  simp only [State.formReply, State.answered, State.accepting, State.endReception, State.reserve,
    fillPlace_reserved fresh]

end

/-- The receiver hunts, and the reply with this code alone stands in the place reserved. -/
def State.repliedCode (kind : Byte) (code : Byte) (t : State) : State := { t with link := { t.link with
  rx := .hunting, gapRunning := false
  replies := t.link.replies.map fun x => if x = .reserved then .formed (replyFrame kind [code]) else x } }

/-- Settles O45: sums, frames, and the judgement in its order. -/
theorem framesAreJudgedInOrder : Obligations.FramesAreJudgedInOrder := by
  refine ⟨byteSum_toNat, fun kind pl fits => ?_, fun s kind b pl calm free rx => ?_, fun s kind pl ready fits unknown
    => ?_,
    fun s c kind pl calm ready fresh pending frame fits => ?_⟩
  · refine ⟨natByte pl.length, -(kind + byteSum pl), -(kind + 0x80 + byteSum pl), ?_, rfl, add_neg_cancel _, rfl,
      add_neg_cancel _⟩
    rw [natByte_toNat, Nat.mod_eq_of_lt (by omega)]
  · intro replied
    rw [linkByteTaken_of_calm calm, takeLinkByte_of_check free rx]
    refine ⟨fun bad => ?_, fun good pending => ?_, fun good clear unknown => ?_, fun n good clear known other => ?_⟩
    · rw [completeReception_of_bad bad, show s.endReception
        = s.withLink { s.link with rx := .hunting, gapRunning := false } from rfl, raise_withLink]
      have link := State.raise_link s srcDevice flagLinkFrame
      rw [show replied 0x07 (s.raise srcDevice flagLinkFrame) = State.repliedCode kind 0x07
        (s.raise srcDevice flagLinkFrame)
        from rfl, State.repliedCode, link]
      rfl
    · rw [completeReception_of_good good, answerFrame_of_answer (judgeFrame_of_pending (s := s.endReception) pending)]
      rfl
    · rw [completeReception_of_good good, answerFrame_of_answer (judgeFrame_of_unknown (s := s.endReception) clear
        ((requestLength_eq_none_iff kind).mpr unknown))]
      rfl
    · rw [completeReception_of_good good, answerFrame_of_answer (judgeFrame_of_length
        (s := s.endReception) clear known other)]
      rfl
  · exact request_unchanged (act := judgeFrame kind pl) (a := .bare resUnknownKind) ready kind fits
      (judgeFrame_of_unknown (s := s.accepting) ready.2.2.2 ((requestLength_eq_none_iff kind).mpr unknown))
  · rw [exec_of_requestFrame frame fits calm ready, answerFrame_of_answer (judgeFrame_of_pending
      (s := s.accepting) pending),
      formReply_accepting fresh]
    rfl

end Sys2Proof.Machine
end

section
/-! SUPPORT. The bytes of a request's frame, taken one after the other (spec/11 R181, R182; log entry 3). -/

namespace Sys2Proof.Machine

section
variable {s t : State} {kind b : Byte} {pl : List Byte} {c : Instr}

theorem gainBytes_eq (gains : Vector Half 8) : gainBytes gains = allBridges.flatMap fun b => halfBytes gains[b] := by
  obtain ⟨⟨list⟩, size⟩ := gains
  match list, size with
  | [_, _, _, _, _, _, _, _], _ => rfl

theorem Link.ready_iff {l : Link} : l.ready = true ↔ l.rx = .hunting ∧ l.lineWait = false ∧ l.replies.length < 4 := by
  rw [Link.ready, Bool.and_eq_true, Bool.and_eq_true, beq_iff_eq, Bool.not_eq_true', decide_eq_true_eq, and_assoc]
  exact Iff.rfl

/-! ## Bytes taken by commands -/

/-- The receiver is in this state of a frame under reception, with its place reserved. -/
def State.under (rx : LinkRx) (s : State) : State :=
  s.withLink { s.link with rx := rx, gapRunning := true, replies := s.link.replies ++ [.reserved] }

theorem takeAll_byte (calm : s.calm) (b : Byte) (cs : List Instr) :
    takeAll s (.linkByteTaken b :: cs) = takeAll (s.takeLinkByte b) cs := by
  rw [takeAll, List.foldl_cons, linkByteTaken_of_calm calm]
  rfl

theorem takeLinkByte_under_length (free : s.link.lineWait = false) {n : Nat} (fits : n ≤ 60) :
    (s.under .length).takeLinkByte (natByte n) = s.under (.kind n) := by
  have number : (natByte n).toNat = n := by rw [natByte_toNat, Nat.mod_eq_of_lt (by omega)]
  rw [takeLinkByte_of_length (s := s.under .length) free rfl, number, if_pos fits]
  rfl

theorem takeAll_payload (calm : s.calm) (free : s.link.lineWait = false) (rest taken : List Byte) (more : rest ≠ [])
    (cs : List Instr) : takeAll (s.under (.payload (taken.length + rest.length) kind taken))
      (rest.map Instr.linkByteTaken ++ cs) = takeAll (s.under (.check kind (taken ++ rest))) cs := by
  induction rest generalizing taken with
  | nil => exact absurd rfl more
  | cons x xs ih =>
    rw [List.map_cons, List.cons_append, takeAll_byte (s := s.under _) calm,
      takeLinkByte_of_payload (s := s.under _) free rfl]
    cases xs with
    | nil =>
      rw [if_neg (by simp)]
      rfl
    | cons y ys =>
      have next := ih (taken ++ [x]) (List.cons_ne_nil _ _)
      rw [List.length_append, List.length_singleton, List.append_assoc, List.singleton_append, Nat.add_assoc,
        Nat.add_comm 1] at next
      rw [if_pos (by simp)]
      exact next

theorem takeAll_under_kind (calm : s.calm) (free : s.link.lineWait = false) (pl : List Byte) (cs : List Instr) :
    takeAll (s.under (.kind pl.length)) (.linkByteTaken kind :: (pl.map Instr.linkByteTaken ++ cs))
      = takeAll (s.under (.check kind pl)) cs := by
  rw [takeAll_byte (s := s.under _) calm, takeLinkByte_of_kind (s := s.under _) free rfl]
  cases pl with
  | nil => rfl
  | cons x xs =>
    have rest := takeAll_payload (kind := kind) calm free (x :: xs) [] (List.cons_ne_nil _ _) cs
    rw [List.length_nil, Nat.zero_add] at rest
    rw [if_neg (by simp)]
    exact rest

/-- The bytes of a frame, taken by a receiver that is ready, are the frame judged whole. -/
theorem takeAll_frameBytes (calm : s.calm) (ready : s.link.ready = true) (fits : pl.length ≤ 60) :
    takeAll s ((frameBytes kind pl).map Instr.linkByteTaken) = s.accepting.answerFrame kind (judgeFrame kind pl) := by
  obtain ⟨hunting, free, room⟩ := Link.ready_iff.mp ready
  have begun : s.takeLinkByte 0x5A = s.under .length := by
    rw [takeLinkByte_of_hunting free hunting, if_pos ⟨rfl, room⟩]
    rfl
  have good : kind + byteSum pl + -(kind + byteSum pl) = 0 := add_neg_cancel _
  rw [frameBytes, List.map_cons, List.map_cons, List.map_cons, List.map_append, takeAll_byte calm, begun,
    takeAll_byte (s := s.under _) calm, takeLinkByte_under_length free fits, takeAll_under_kind calm free,
      List.map_singleton,
    takeAll_byte (s := s.under _) calm, takeLinkByte_of_check (s := s.under _) free rfl, completeReception_of_good good]
  rfl

end

/-- Settles O47: the frame of each request, and its bytes taken one by one as the frame judged whole. -/
theorem frameBytesActAsTheirRequest : Obligations.FrameBytesActAsTheirRequest := by
  refine ⟨⟨rfl, rfl, rfl, rfl, rfl, rfl, rfl, rfl⟩, fun n x y u set kind pl =>
    ⟨rfl, rfl, rfl, rfl, rfl, rfl, rfl, rfl, rfl, rfl, rfl, rfl, rfl, rfl, rfl, rfl⟩, fun n f r w m set gains =>
      ⟨rfl, rfl, rfl, congrArg (fun bytes => some ((0x17 : Byte), set :: bytes)) (gainBytes_eq gains), rfl⟩,
    fun kind => (requestLength_eq_none_iff kind).symm, fun c kind pl frame named => ?_, fun s => Link.ready_iff,
    fun s c kind pl frame fits calm ready fresh => ?_⟩
  · rcases carriesRequest_of_requestFrame frame with ⟨length, -⟩ | unknown
    · exact length
    · exact absurd unknown (named kind pl)
  · rw [exec_of_requestFrame frame fits calm ready, takeAll_frameBytes calm ready fits]

end Sys2Proof.Machine
end

section
/-! SUPPORT. The transmitter's choice (spec/11 R187, R188, R192). -/

namespace Sys2Proof.Machine

section
variable {s : State} {src : Source} {bytes : List Byte} {rest : List Place}

/-! ## The formed reply at the head (R187) -/

theorem formedHead_of_formed (head : s.link.replies = .formed bytes :: rest) : s.formedHead = some bytes := by
  rw [State.formedHead, head]

theorem formedHead_eq_none (unformed : ∀ bytes : List Byte, s.link.replies.head? ≠ some (.formed bytes)) :
    s.formedHead = none := by
  unfold State.formedHead
  split
  · next head => exact absurd (congrArg List.head? head) (unformed _)
  · rfl
  · rfl
  · rfl

/-! ## The source that comes first after the last one sent (R188) -/

theorem find_finRange_eq_some_iff {n : Nat} {f : Fin n → Bool} {i : Fin n} :
    (List.finRange n).find? f = some i ↔ f i = true ∧ ∀ j, f j = true → i ≤ j := by
  have least {i : Fin n} (found : (List.finRange n).find? f = some i) : f i = true ∧ ∀ j, f j = true → i ≤ j := by
    obtain ⟨holds, before, after, split, none_before⟩ := List.find?_eq_some_iff_append.mp found
    have order : (before ++ i :: after).Pairwise (· < ·) := split ▸ List.pairwise_lt_finRange n
    refine ⟨holds, fun j there => ?_⟩
    have place : j ∈ before ++ i :: after := split ▸ List.mem_finRange j
    rw [List.pairwise_append, List.pairwise_cons] at order
    rcases List.mem_append.mp place with early | late
    · have other := none_before j early
      simp [there] at other
    · rcases List.mem_cons.mp late with rfl | later
      · exact le_rfl
      · exact (order.2.1.1 j later).le
  refine ⟨least, fun ⟨holds, lowest⟩ => ?_⟩
  cases found : (List.finRange n).find? f with
  | none => exact absurd holds (by simpa using List.find?_eq_none.mp found i (List.mem_finRange i))
  | some j => exact congrArg some (le_antisymm ((least found).2 i holds) (lowest j (least found).1))

/-- The source is pending, and no pending source stands before it in the order of the search. -/
def State.isNext (s : State) (src : Source) : Prop :=
  s.notices.marks[src] = true ∧ ∀ other : Source, s.notices.marks[other] = true →
    (src - s.link.lastSource - 1).val ≤ (other - s.link.lastSource - 1).val

theorem pendingSource_of_isNext (next : s.isNext src) : s.pendingSource = some src := by
  obtain ⟨pending, first⟩ := next
  have back (other : Source) : s.link.lastSource + 1 + (other - s.link.lastSource - 1) = other := by abel
  have found : (List.finRange 22).find? (fun i => s.notices.marks[s.link.lastSource + 1 + i])
      = some (src - s.link.lastSource - 1) := by
    refine find_finRange_eq_some_iff.mpr ⟨?_, fun j there => ?_⟩
    · simp only [back]
      exact pending
    · have turn := first _ there
      have forth : s.link.lastSource + 1 + j - s.link.lastSource - 1 = j := by abel
      rw [forth] at turn
      exact turn
  rw [State.pendingSource, Link.searchOrder, List.find?_map]
  exact (congrArg (Option.map _) found).trans (congrArg some (back src))

theorem pendingSource_eq_none (clear : ∀ src : Source, s.notices.marks[src] = false) : s.pendingSource = none :=
  List.find?_eq_none.mpr fun src _ => by simp [clear src]

/-! ## The notice sent (R175, R192) -/

/-- The notice of this source is in transmission with these bytes. -/
def State.noticed (src : Source) (bytes : List Byte) (s : State) : State := { s with
  notices := { s.notices with
    marks := s.notices.marks.set src false
    started := if src = srcDevice then false else s.notices.started }
  link := { s.link with tx := some bytes, lastSource := src } }

theorem sendNotice_eq (s : State) (src : Source) : s.sendNotice src = s.noticed src (s.noticeFrame src) := by
  have started : (s.notices.started && src != srcDevice) = if src = srcDevice then false else s.notices.started := by
    by_cases device : src = srcDevice <;> simp [device]
  rw [State.sendNotice, State.noticed, started]

theorem noticeFrame_srcBridge (s : State) (b : BridgeId) :
    s.noticeFrame (srcBridge b) = frameBytes 0x42 (s.bridgePayload b) := by
  have number : (srcBridge b).val = 2 + b.val := rfl
  have same : (⟨(srcBridge b).val - 2, by omega⟩ : BridgeId) = b :=
    Fin.ext (show (srcBridge b).val - 2 = b.val by omega)
  rw [State.noticeFrame, if_neg (by omega), if_neg (by omega), dif_pos (by omega), same]

theorem noticeFrame_srcPort (s : State) (p : PortId) :
    s.noticeFrame (srcPort p) = frameBytes 0x43 (s.portPayload p) := by
  have number : (srcPort p).val = 10 + p.val := rfl
  have same : (⟨(srcPort p).val - 10, by omega⟩ : PortId) = p :=
    Fin.ext (show (srcPort p).val - 10 = p.val by omega)
  rw [State.noticeFrame, if_neg (by omega), if_neg (by omega), dif_neg (by omega), same]

theorem startNotice_of_next (idle : s.link.tx = none)
    (unformed : ∀ bytes : List Byte, s.link.replies.head? ≠ some (.formed bytes)) (next : s.isNext src) :
    s.startNotice src = s.noticed src (s.noticeFrame src) := by
  rw [State.startNotice, if_pos ⟨idle, formedHead_eq_none unformed, pendingSource_of_isNext next⟩, sendNotice_eq]

theorem startNotice_of_busy (busy : s.link.tx ≠ none) (src : Source) : s.startNotice src = s := by
  rw [State.startNotice, if_neg fun all => busy all.1]

/-! ## The end of a transmission -/

/-- The transmitter has ended its frame and sends nothing. -/
def State.silenced (s : State) : State := s.withLink { s.link with tx := none }

theorem endTransmission_of_busy (busy : s.link.tx ≠ none) : s.endTransmission = s.silenced.chooseNext := by
  unfold State.endTransmission
  split
  · rfl
  · next idle => exact absurd idle busy

theorem chooseNext_of_formed (head : s.link.replies = .formed bytes :: rest) : s.chooseNext = s.sendReply bytes := by
  rw [State.chooseNext, formedHead_of_formed head]

theorem chooseNext_of_unformed (unformed : ∀ bytes : List Byte, s.link.replies.head? ≠ some (.formed bytes)) :
    s.chooseNext = match s.pendingSource with
      | some src => s.sendNotice src
      | none => s := by
  rw [State.chooseNext, formedHead_eq_none unformed] <;> rfl

theorem endTransmission_of_next (busy : s.link.tx ≠ none)
    (unformed : ∀ bytes : List Byte, s.link.replies.head? ≠ some (.formed bytes)) (next : s.isNext src) :
    s.endTransmission = s.noticed src (s.noticeFrame src) := by
  rw [endTransmission_of_busy busy, chooseNext_of_unformed (s := s.silenced) unformed,
    pendingSource_of_isNext (s := s.silenced) next]
  exact sendNotice_eq _ src

theorem endTransmission_of_nothing (busy : s.link.tx ≠ none)
    (unformed : ∀ bytes : List Byte, s.link.replies.head? ≠ some (.formed bytes))
    (clear : ∀ src : Source, s.notices.marks[src] = false) :
    s.endTransmission = s.silenced := by
  rw [endTransmission_of_busy busy, chooseNext_of_unformed (s := s.silenced) unformed,
    pendingSource_eq_none (s := s.silenced) clear]

theorem sendReply_eq (head : s.link.replies = .formed bytes :: rest) :
    s.sendReply bytes = s.withLink { s.link with tx := some bytes, replies := rest } := by
  rw [State.sendReply, head]
  rfl

end

/-- Settles O46: the head of the reply queue, then the first pending source of the search, idle or at a frame's end. -/
theorem transmitterSendsRepliesThenNotices : Obligations.TransmitterSendsRepliesThenNotices := by
  intro s calm reply notice next turn
  have run (f : State → State) : operate f s = .next (f s) := operate_of_calm calm f
  have starts (src : Source) (idle : s.link.tx = none) (its : turn src) :
      operate (State.startNotice src) s = .next (notice src (s.noticeFrame src)) :=
    (run _).trans (congrArg _ (startNotice_of_next idle its.1 its.2))
  have follows (src : Source) (busy : s.link.tx ≠ none) (its : turn src) :
      exec .linkTransmissionEnd s = .next (notice src (s.noticeFrame src)) :=
    (run _).trans (congrArg _ (endTransmission_of_next busy its.1 its.2))
  have ignored (src : Source) (busy : s.link.tx ≠ none) : operate (State.startNotice src) s = .next s :=
    (run _).trans (congrArg _ (startNotice_of_busy busy src))
  refine ⟨fun bytes rest head => ⟨fun idle => ?_, fun busy => ?_⟩, starts srcDevice, starts srcConsole,
    fun b idle its => ?_, fun p idle its => ?_, fun busy => ⟨follows srcDevice busy, follows srcConsole busy,
      fun b its => ?_, fun p its => ?_, fun unformed clear => ?_⟩, fun busy => ⟨?_, ignored srcDevice busy,
      ignored srcConsole busy, fun b => ignored (srcBridge b) busy, fun p => ignored (srcPort p) busy⟩⟩
  · refine (run _).trans (congrArg _ ?_)
    rw [State.startReply, idle, formedHead_of_formed head]
    exact sendReply_eq head
  · refine (run _).trans (congrArg _ ?_)
    rw [endTransmission_of_busy busy, chooseNext_of_formed (s := s.silenced) head]
    exact sendReply_eq (s := s.silenced) head
  · rw [← noticeFrame_srcBridge]
    exact starts (srcBridge b) idle its
  · rw [← noticeFrame_srcPort]
    exact starts (srcPort p) idle its
  · rw [← noticeFrame_srcBridge]
    exact follows (srcBridge b) busy its
  · rw [← noticeFrame_srcPort]
    exact follows (srcPort p) busy its
  · exact (run _).trans (congrArg _ (endTransmission_of_nothing busy unformed clear))
  · refine (run _).trans (congrArg _ ?_)
    unfold State.startReply
    split
    · next idle _ => exact absurd idle busy
    · rfl

end Sys2Proof.Machine
end

section
/-! SUPPORT. Characters on a radio data line and what report assembly does with them (spec/02 R21 to R26). -/

namespace Sys2Proof.Machine

section
variable {s v z : State} {p : PortId} {data : Byte} {bit stop : Bool} {u : UnitId}

/-! ## Parity (R21) -/

theorem foldl_xor_eq (f : Nat → Bool) (xs : List Nat) (bit : Bool) :
    xs.foldl (fun acc i => acc ^^ f i) bit = decide ((xs.countP f + bit.toNat) % 2 = 1) := by
  induction xs generalizing bit with
  | nil => cases bit <;> rfl
  | cons x xs ih =>
    rw [List.foldl_cons, ih, List.countP_cons]
    cases f x <;> cases bit <;> simp <;> omega

theorem parityGood_even_iff : parityGood .even data bit = true
    ↔ ((List.range 8).countP data.getLsbD + bit.toNat) % 2 = 0 := by
  have odd : parityGood .even data bit = !(List.range 8).foldl (fun acc i => acc ^^ data.getLsbD i) bit := rfl
  rw [odd, foldl_xor_eq, Bool.not_eq_true', decide_eq_false_iff_not]
  omega

theorem parityGood_odd_iff : parityGood .odd data bit = true
    ↔ ((List.range 8).countP data.getLsbD + bit.toNat) % 2 = 1 := by
  have odd : parityGood .odd data bit = (List.range 8).foldl (fun acc i => acc ^^ data.getLsbD i) bit := rfl
  rw [odd, foldl_xor_eq, decide_eq_true_eq]

theorem parityGood_sent (parity : Parity) (data : Byte) : parityGood parity data (sentParity parity data) = true := by
  unfold sentParity
  cases parity with
  | none => rfl
  | even =>
    cases good : parityGood .even data true with
    | true => exact good
    | false =>
      have other := mt parityGood_even_iff.mpr (by rw [good]; exact Bool.false_ne_true)
      rw [Bool.toNat_true] at other
      rw [parityGood_even_iff, Bool.toNat_false]
      omega
  | odd =>
    cases good : parityGood .odd data true with
    | true => exact good
    | false =>
      have other := mt parityGood_odd_iff.mpr (by rw [good]; exact Bool.false_ne_true)
      rw [Bool.toNat_true] at other
      rw [parityGood_odd_iff, Bool.toNat_false]
      omega

/-! ## A character by the receiver's state (R21, R22) -/

theorem receiving_iff {q : Port} : q.receiving = true ↔ q.receiver ≠ .idle ∧ q.lineWait = false := by
  rw [Port.receiving, Bool.and_eq_true, bne_iff_ne, Bool.not_eq_true']

theorem seen_of_bits (frame : v = { s with dataLines := v.dataLines })
    (bits : ∀ r : PortId, v.dataLines.getLsbD r = if r = p then stop else s.dataLines.getLsbD r) :
    s.seeDataLine p stop = v := by
  have lines : (s.seeDataLine p stop).dataLines = v.dataLines := by
    refine BitVec.eq_of_getLsbD_eq fun i hi => ?_
    exact (seeDataLine_getLsbD s p ⟨i, hi⟩ stop).trans (bits ⟨i, hi⟩).symm
  rw [frame, ← lines]
  rfl

theorem takeCharacter_of_deaf (deaf : (s.port p).receiver = .idle ∨ (s.port p).lineWait = true) :
    s.takeCharacter p data bit stop = s.seeDataLine p stop := by
  have silent : ((s.seeDataLine p stop).port p).receiving = false := by
    rw [Bool.eq_false_iff, ne_eq, receiving_iff]
    rintro ⟨awake, free⟩
    rcases deaf with idle | waits
    · exact awake idle
    · exact Bool.false_ne_true (free.symm.trans waits)
  rw [State.takeCharacter]
  dsimp only
  rw [silent]
  rfl

theorem takeCharacter_of_good (receiving : (s.port p).receiving = true)
    (good : parityGood (s.port p).setup.dataParity data bit = true) :
    s.takeCharacter p data bit true = (s.seeDataLine p true).takeDataByte p data := by
  have receiving' : ((s.seeDataLine p true).port p).receiving = true := receiving
  have good' : parityGood ((s.seeDataLine p true).port p).setup.dataParity data bit = true := good
  rw [State.takeCharacter]
  dsimp only
  rw [receiving', good']
  rfl

theorem takeCharacter_of_bad (receiving : (s.port p).receiving = true)
    (bad : ¬ (stop = true ∧ parityGood (s.port p).setup.dataParity data bit = true)) :
    s.takeCharacter p data bit stop
      = (((s.seeDataLine p stop).setPort p { s.port p with receiver := .hunting, lineWait := !stop }).raiseIf (!stop)
        (srcPort p) flagDataFraming).raiseIf (!parityGood (s.port p).setup.dataParity data bit) (srcPort p)
        flagDataParity := by
  have receiving' : ((s.seeDataLine p stop).port p).receiving = true := receiving
  have bad' : (stop && parityGood ((s.seeDataLine p stop).port p).setup.dataParity data bit) = false := by
    rw [Bool.eq_false_iff, ne_eq, Bool.and_eq_true]
    exact bad
  rw [State.takeCharacter]
  dsimp only
  rw [receiving', Bool.not_not, bad']
  rfl

/-! ## Report assembly (R24, R26) -/

theorem takeDataByte_of_start (awake : (s.port p).receiver ≠ .idle) :
    s.takeDataByte p 0x7E = s.setReceiver p (.assembling [] 0) := by
  unfold State.takeDataByte
  split
  · next idle => exact absurd idle awake
  · rfl
  · rfl

theorem takeDataByte_of_hunting (hunting : (s.port p).receiver = .hunting) (other : data ≠ 0x7E) :
    s.takeDataByte p data = s := by
  rw [State.takeDataByte, hunting]
  exact if_neg other

theorem takeDataByte_of_short {held : List Byte} {age : Nat} (assembling : (s.port p).receiver = .assembling held age)
    (other : data ≠ 0x7E) (short : held.length < 3) :
    s.takeDataByte p data = s.setReceiver p (.assembling (held ++ [data]) age) := by
  rw [State.takeDataByte, assembling]
  refine (if_neg other).trans ?_
  match held, short with
  | [], _ => rfl
  | [_], _ => rfl
  | [_, _], _ => rfl

theorem takeDataByte_of_last {kind hi lo : Byte} {age : Nat}
    (assembling : (s.port p).receiver = .assembling [kind, hi, lo] age) (other : data ≠ 0x7E) :
    s.takeDataByte p data = (s.setReceiver p .hunting).judgeReport p kind hi lo data := by
  rw [State.takeDataByte, assembling]
  exact if_neg other

theorem judgeReport_of_bad {kind hi lo check : Byte} (bad : kind + hi + lo + check ≠ 0 ∨ kind = 0 ∨ 3 < kind.toNat
    ∨ (hi ++ lo : Half) = 0 ∨ (hi ++ lo : Half) = 0xFFFF) :
    s.judgeReport p kind hi lo check = s.raise (srcPort p) flagReportCheck := by
  unfold State.judgeReport
  dsimp only
  split
  · rfl
  · next sound =>
    rw [validUnit_eq_false_iff] at sound
    have unnamed : kind = 0 ∨ 3 < kind.toNat := by tauto
    have apart : kind ≠ 1 ∧ kind ≠ 2 ∧ kind ≠ 3 := by
      refine ⟨?_, ?_, ?_⟩ <;> rintro rfl <;> exact absurd unnamed (by decide)
    obtain ⟨not_ident, not_emerg, not_clear⟩ := apart
    rw [if_neg not_ident, if_neg not_emerg, if_neg not_clear]

/-! ## What no report changes: the receiver and the levels of the pins -/

/-- The receiver of a port and the levels of the pins. -/
def State.hearing (p : PortId) (s : State) : Receiver × PortSet := ((s.port p).receiver, s.dataLines)

theorem hearing_of_backdrop {t : State} (h : t.backdrop = s.backdrop) (p : PortId) : t.hearing p = s.hearing p := by
  have heard (z : State) : z.backdrop.hearing p = z.hearing p := by
    simp [State.hearing, State.backdrop, State.port, Port.backdrop]
  rw [← heard t, h, heard s]

theorem hearing_dirReport (s : State) (r p : PortId) (u : UnitId) : (s.dirReport r u).hearing p = s.hearing p := by
  have frame := congrArg (State.hearing p) (dirReport_frame s r u)
  exact frame

theorem hearing_takeEmergency (s : State) (r p : PortId) (u : UnitId) :
    (s.takeEmergency r u).hearing p = s.hearing p := by
  rw [hearing_of_backdrop (takeEmergency_backdrop s r u)]
  have port : ((s.called r (.active (some u))).port p).receiver = (s.port p).receiver := by
    rw [show (s.called r (.active (some u))).port p = _ from port_setPort s r p _]
    split
    · next same => rw [same]
    · rfl
  exact congrArg (fun x => (x, s.dataLines)) port

theorem hearing_leaveAllSourced (s : State) (p : PortId) (u : UnitId) :
    (s.leaveAllSourced u).hearing p = s.hearing p := by
  rw [leaveAllSourced_eq, hearing_of_backdrop (foldl_leaveEmergency_backdrop _ s), State.hearing, quieted_port,
    apply_ite Port.receiver, ite_self]
  rfl

theorem hearing_acceptIdent (s : State) (r p : PortId) (u : UnitId) : (s.acceptIdent r u).hearing p = s.hearing p := by
  have taken : ((s.dirReport r u).takeIdentity r u).hearing p = s.hearing p := by
    rw [hearing_of_backdrop (takeIdentity_backdrop _ r u), hearing_dirReport]
  rw [State.acceptIdent, hearing_of_backdrop (handPriority_backdrop _ r _)]
  split
  · rw [hearing_takeEmergency, taken]
  · exact taken

theorem hearing_acceptEmerg (s : State) (r p : PortId) (u : UnitId) : (s.acceptEmerg r u).hearing p = s.hearing p := by
  rw [State.acceptEmerg, hearing_of_backdrop (handPriority_backdrop _ r _),
    hearing_of_backdrop (takeIdentity_backdrop _ r u), hearing_takeEmergency]
  exact hearing_dirReport s r p u

theorem hearing_acceptEmergClear (s : State) (r p : PortId) (u : UnitId) :
    (s.acceptEmergClear r u).hearing p = s.hearing p := by
  rw [State.acceptEmergClear, hearing_leaveAllSourced]
  exact hearing_dirReport s r p u

theorem hearing_raise (s : State) (src : Source) (n : Nat) (p : PortId) : (s.raise src n).hearing p = s.hearing p := by
  rw [raise_eq]
  rfl

theorem hearing_judgeReport (s : State) (r p : PortId) (kind hi lo check : Byte) :
    (s.judgeReport r kind hi lo check).hearing p = s.hearing p := by
  unfold State.judgeReport
  dsimp only
  split
  · exact hearing_raise ..
  · split
    · exact hearing_acceptIdent ..
    · split
      · exact hearing_acceptEmerg ..
      · split
        · exact hearing_acceptEmergClear ..
        · exact hearing_raise ..

/-! ## Flags set, and the notices that they make pending (R172, R174) -/

theorem flagsReported_of_notices {x t : State} (same : x.notices = s.notices) (reported : x.flagsReported t) :
    s.flagsReported t := by
  unfold State.flagsReported at *
  rw [same] at reported
  exact reported

theorem flagsReported_refl (s : State) : s.flagsReported s :=
  ⟨rfl, fun _ _ set => set, fun _ => ⟨.inl, fun h => h.elim id fun ⟨_, clear, set, _⟩ =>
    absurd (clear.symm.trans set) Bool.false_ne_true⟩⟩

theorem flagsReported_trans {t w : State} (first : s.flagsReported t) (second : t.flagsReported w) :
    s.flagsReported w := by
  obtain ⟨frame, kept, marks⟩ := first
  obtain ⟨frame', kept', marks'⟩ := second
  have masks : t.notices.masks = s.notices.masks := by rw [frame]
  refine ⟨?_, fun src i set => kept' src i (kept src i set), fun src => ?_⟩
  · rw [frame', frame]
  · rw [marks' src, marks src, masks]
    constructor
    · rintro ((old | ⟨i, clear, set, unmasked⟩) | ⟨i, clear, set, unmasked⟩)
      · exact .inl old
      · exact .inr ⟨i, clear, kept' src i set, unmasked⟩
      · refine .inr ⟨i, Bool.eq_false_iff.mpr fun already => ?_, set, unmasked⟩
        exact Bool.false_ne_true (clear.symm.trans (kept src i already))
    · rintro (old | ⟨i, clear, set, unmasked⟩)
      · exact .inl (.inl old)
      · cases between : t.notices.flags[src].getLsbD i with
        | true => exact .inl (.inr ⟨i, clear, between, unmasked⟩)
        | false => exact .inr ⟨i, between, set, unmasked⟩

theorem flagsReported_raise (s : State) (src : Source) {n : Nat} (inSet : n < 6) : s.flagsReported (s.raise src n) := by
  have flags (other : Source) (i : Nat) := getLsbD_raise_flags (s := s) (src := src) inSet other i
  refine ⟨congrArg State.notices raise_frame, fun other i set => by rw [flags, set, Bool.true_or], fun other => ?_⟩
  rw [raise_marks, Bool.or_eq_true, decide_eq_true_eq]
  refine or_congr_right ⟨?_, ?_⟩
  · rintro ⟨rfl, clear, unmasked⟩
    exact ⟨n, clear, by rw [flags]; simp, unmasked⟩
  · rintro ⟨i, clear, set, unmasked⟩
    rw [flags, clear, Bool.false_or, decide_eq_true_eq] at set
    obtain ⟨rfl, rfl⟩ := set
    exact ⟨rfl, clear, unmasked⟩

theorem flagsReported_raiseIf (s : State) (cond : Bool) (src : Source) {n : Nat} (inSet : n < 6) :
    s.flagsReported (s.raiseIf cond src n) := by
  unfold State.raiseIf
  split
  · exact flagsReported_raise s src inSet
  · exact flagsReported_refl s

theorem getLsbD_raiseIf_flags (s : State) (cond : Bool) (src other : Source) {n : Nat} (inSet : n < 6) (i : Nat) :
    (s.raiseIf cond src n).notices.flags[other].getLsbD i
      = (s.notices.flags[other].getLsbD i || decide (other = src ∧ i = n ∧ cond = true)) := by
  unfold State.raiseIf
  split
  · next holds => rw [getLsbD_raise_flags inSet, holds]; simp
  · next fails => simp [fails]

theorem raiseIf_frame (s : State) (cond : Bool) (src : Source) (n : Nat) : s.raiseIf cond src n
    = { s with notices := (s.raiseIf cond src n).notices } := by
  unfold State.raiseIf
  split
  · rw [raise_eq]
  · rfl

end

/-- Settles O48: parity by counting, then a character by the receiver's state. -/
theorem dataCharactersAreJudged : Obligations.DataCharactersAreJudged := by
  refine ⟨fun data bit => ⟨rfl, parityGood_even_iff, parityGood_odd_iff⟩,
    fun s v p data bit stop calm frame bits => ?_⟩
  intro good becomes
  have seen := seen_of_bits frame bits
  have run : exec (.dataCharacter p data bit stop) s = .next (s.takeCharacter p data bit stop) := operate_of_calm calm _
  rw [run]
  have port : v.port p = s.port p := by rw [← seen]; rfl
  have set (r : Receiver) : v.setReceiver p r = becomes r := by
    show v.setPort p { v.port p with receiver := r } = _
    rw [port]
    rfl
  have taken (receiving : (s.port p).receiving = true) (fine : good) :
      s.takeCharacter p data bit stop = v.takeDataByte p data := by
    obtain ⟨rfl, parity⟩ := fine
    rw [takeCharacter_of_good receiving parity, seen]
  refine ⟨fun deaf => ?_, fun free => ⟨fun hunting fine other => ?_, fun awake fine start => ?_,
    fun held age assembling fine other => ⟨fun short => ?_, fun kind hi lo three => ⟨fun bad => ?_, ?_⟩⟩,
    fun awake bad => ?_⟩⟩
  · rw [takeCharacter_of_deaf deaf, seen]
  · rw [taken (receiving_iff.mpr ⟨by rw [hunting]; nofun, free⟩) fine,
      takeDataByte_of_hunting (by rw [port]; exact hunting) other]
  · rw [taken (receiving_iff.mpr ⟨awake, free⟩) fine, start, takeDataByte_of_start (by rw [port]; exact awake), set]
  · rw [taken (receiving_iff.mpr ⟨by rw [assembling]; nofun, free⟩) fine,
      takeDataByte_of_short (by rw [port]; exact assembling) other short, set]
  · subst three
    rw [taken (receiving_iff.mpr ⟨by rw [assembling]; nofun, free⟩) fine,
      takeDataByte_of_last (by rw [port]; exact assembling) other, judgeReport_of_bad bad, set]
  · subst three
    rw [taken (receiving_iff.mpr ⟨by rw [assembling]; nofun, free⟩) fine,
      takeDataByte_of_last (by rw [port]; exact assembling) other, set]
    refine ⟨_, rfl, ?_⟩
    have heard := hearing_judgeReport (becomes .hunting) p p kind hi lo data
    obtain ⟨receiver, lines⟩ := Prod.mk.inj heard
    refine ⟨receiver.trans ?_, lines⟩
    rw [← set, State.setReceiver, State.port_setPort_same]
  · rw [takeCharacter_of_bad (receiving_iff.mpr ⟨awake, free⟩) bad, seen]
    have base : (v.setPort p { s.port p with receiver := .hunting, lineWait := !stop }).notices = s.notices := by
      rw [← seen]
      rfl
    generalize hx : v.setPort p { s.port p with receiver := .hunting, lineWait := !stop } = x at base
    refine ⟨_, rfl, ?_, ?_, ?_, fun src i => ?_⟩
    · rw [State.raiseIf_ports, State.raiseIf_ports, ← hx, ← seen]
      rfl
    · rw [raiseIf_frame, raiseIf_frame x, ← hx]
      rfl
    · exact flagsReported_of_notices base (flagsReported_trans (flagsReported_raiseIf x _ _ (by decide))
        (flagsReported_raiseIf _ _ _ (by decide)))
    · rw [getLsbD_raiseIf_flags _ _ _ _ (by decide), getLsbD_raiseIf_flags _ _ _ _ (by decide), base]
      simp only [Bool.not_eq_true']

end Sys2Proof.Machine
end

section
/-! SUPPORT. The five characters of a unit report (spec/02 R24, R26; log entry 4). -/

namespace Sys2Proof.Machine

section
variable {s v z : State} {p : PortId} {u : UnitId} {kind hi lo : Byte}

theorem reportBytes_eq (kind : Byte) (u : UnitId) : ∃ hi lo : Byte, reportBytes kind u
    = [0x7E, kind, hi, lo, -(kind + hi + lo)] ∧ (hi ++ lo : Half) = u :=
  ⟨u.extractLsb' 8 8, u.extractLsb' 0 8, rfl, half_of_bytes u⟩

theorem reportCarriable_iff : reportCarriable kind u = true ↔ (0x7E : Byte) ∉ (reportBytes kind u).tail := by
  unfold reportCarriable reportBytes
  simp only [List.tail_cons, List.mem_cons, List.not_mem_nil, or_false, Bool.and_eq_true, bne_iff_ne, ne_eq, not_or,
    and_assoc, eq_comm (a := (0x7E : Byte))]

theorem validUnit_iff : validUnit u = true ↔ u ≠ 0 ∧ u ≠ 0xFFFF := by
  rw [validUnit, Bool.and_eq_true, bne_iff_ne, bne_iff_ne]

theorem wellFormed_iff (formed : Bool) (is : formed = (validUnit u && reportCarriable kind u)) :
    formed = true ↔ u ≠ 0 ∧ u ≠ 0xFFFF ∧ (0x7E : Byte) ∉ (reportBytes kind u).tail := by
  rw [is, Bool.and_eq_true, validUnit_iff, reportCarriable_iff, and_assoc]

/-! ## The characters one by one -/

/-- The line is seen high and the receiver of the port is in this state. -/
def State.hearsAs (p : PortId) (r : Receiver) (s : State) : State := (s.seeDataLine p true).setReceiver p r

theorem hearsAs_port (s : State) (p : PortId) (r : Receiver) :
    (s.hearsAs p r).port p = { s.port p with receiver := r } := State.port_setPort_same ..

theorem seeDataLine_hearsAs (s : State) (p : PortId) (r : Receiver) :
    (s.hearsAs p r).seeDataLine p true = s.hearsAs p r := by
  have lines : (s.dataLines ||| (1#12 <<< p.val)) ||| (1#12 <<< p.val) = s.dataLines ||| (1#12 <<< p.val) := by
    rw [BitVec.or_assoc, BitVec.or_self]
  exact congrArg (fun lines => ({ s.hearsAs p r with dataLines := lines } : State)) lines

theorem setReceiver_hearsAs (s : State) (p : PortId) (r r' : Receiver) :
    (s.hearsAs p r).setReceiver p r' = s.hearsAs p r' := by
  have port := hearsAs_port s p r
  unfold State.setReceiver
  rw [port]
  simp [State.hearsAs, State.setReceiver, State.setPort, State.port, State.seeDataLine]

/-- A good character with a high stop bit, sent on the line of the port. -/
def goodCharacter (p : PortId) (parity : Parity) (b : Byte) : Instr := .dataCharacter p b (sentParity parity b) true

theorem takeAll_character (calm : s.calm) (receiving : (s.port p).receiving = true) (b : Byte) (cs : List Instr) :
    takeAll s (goodCharacter p (s.port p).setup.dataParity b :: cs)
      = takeAll ((s.seeDataLine p true).takeDataByte p b) cs := by
  have taken : exec (goodCharacter p (s.port p).setup.dataParity b) s = .next
    ((s.seeDataLine p true).takeDataByte p b) :=
    (operate_of_calm calm _).trans (congrArg _ (takeCharacter_of_good receiving (parityGood_sent _ b)))
  rw [takeAll, List.foldl_cons, taken]
  rfl

theorem takeAll_assembling (calm : s.calm) (receiving : (s.port p).receiving = true) (held : List Byte) (age : Nat)
    (b : Byte) (cs : List Instr) :
    takeAll (s.hearsAs p (.assembling held age)) (goodCharacter p (s.port p).setup.dataParity b :: cs)
      = takeAll ((s.hearsAs p (.assembling held age)).takeDataByte p b) cs := by
  have free := (receiving_iff.mp receiving).2
  have port := hearsAs_port s p (.assembling held age)
  have receiving' : ((s.hearsAs p (.assembling held age)).port p).receiving = true := by
    rw [port]
    exact receiving_iff.mpr ⟨nofun, free⟩
  have parity : ((s.hearsAs p (.assembling held age)).port p).setup.dataParity = (s.port p).setup.dataParity := by
    rw [port]
  have step := takeAll_character (s := s.hearsAs p (.assembling held age)) calm receiving' b cs
  rw [parity, seeDataLine_hearsAs] at step
  exact step

theorem takeAll_short (calm : s.calm) (receiving : (s.port p).receiving = true) {held : List Byte} {age : Nat} {b :
    Byte}
    (short : held.length < 3) (other : b ≠ 0x7E) (cs : List Instr) :
    takeAll (s.hearsAs p (.assembling held age)) (goodCharacter p (s.port p).setup.dataParity b :: cs)
      = takeAll (s.hearsAs p (.assembling (held ++ [b]) age)) cs := by
  rw [takeAll_assembling calm receiving, takeDataByte_of_short (age := age) (by rw [hearsAs_port]) other short,
    setReceiver_hearsAs]

theorem takeAll_report (calm : s.calm) (receiving : (s.port p).receiving = true)
    (carriable : (0x7E : Byte) ∉ [kind, hi, lo, -(kind + hi + lo)]) :
    takeAll s ([0x7E, kind, hi, lo, -(kind + hi + lo)].map (goodCharacter p (s.port p).setup.dataParity))
      = (s.hearsAs p .hunting).judgeReport p kind hi lo (-(kind + hi + lo)) := by
  simp only [List.mem_cons, List.not_mem_nil, or_false, not_or] at carriable
  obtain ⟨not_kind, not_hi, not_lo, not_check⟩ := carriable
  have begun : (s.seeDataLine p true).takeDataByte p 0x7E = s.hearsAs p (.assembling [] 0) :=
    takeDataByte_of_start (receiving_iff.mp receiving).1
  simp only [List.map_cons, List.map_nil]
  rw [takeAll_character calm receiving, begun, takeAll_short calm receiving (by decide) (Ne.symm not_kind),
    takeAll_short calm receiving (by simp) (Ne.symm not_hi), takeAll_short calm receiving (by simp) (Ne.symm not_lo),
    takeAll_assembling calm receiving, takeDataByte_of_last (age := 0) (by rw [hearsAs_port]; rfl) (Ne.symm not_check),
    setReceiver_hearsAs]
  rfl

theorem judgeReport_of_sound {check : Byte} (sum : kind + hi + lo + check = 0) (valid : validUnit (hi ++ lo) = true) :
    (kind = 1 → s.judgeReport p kind hi lo check = s.acceptIdent p (hi ++ lo))
    ∧ (kind = 2 → s.judgeReport p kind hi lo check = s.acceptEmerg p (hi ++ lo))
    ∧ (kind = 3 → s.judgeReport p kind hi lo check = s.acceptEmergClear p (hi ++ lo)) := by
  have sound : ¬ (kind + hi + lo + check ≠ 0 ∨ validUnit (hi ++ lo) = false) := by
    rintro (other | invalid)
    · exact other sum
    · exact Bool.false_ne_true (invalid.symm.trans valid)
  unfold State.judgeReport
  dsimp only
  rw [if_neg sound]
  refine ⟨?_, ?_, ?_⟩ <;> rintro rfl <;> rfl

end

/-- Settles O49: the five characters build the report under assembly, and the last has it judged. -/
theorem reportCharactersActAsTheirReport : Obligations.ReportCharactersActAsTheirReport := by
  refine ⟨fun kind u => ?_, fun p u c kind is => ?_, parityGood_sent, fun q => receiving_iff,
    fun s p u c kind calm receiving formed is => ?_⟩
  · obtain ⟨hi, lo, bytes, unit⟩ := reportBytes_eq kind u
    exact ⟨hi, lo, -(kind + hi + lo), bytes, unit, add_neg_cancel _⟩
  · rcases is with ⟨rfl, rfl⟩ | ⟨rfl, rfl⟩ | ⟨rfl, rfl⟩ <;> exact wellFormed_iff _ rfl
  · obtain ⟨hi, lo, bytes, rfl⟩ := reportBytes_eq kind u
    have fits : validUnit (hi ++ lo) = true ∧ (0x7E : Byte) ∉ (reportBytes kind (hi ++ lo)).tail := by
      rcases is with ⟨rfl, rfl⟩ | ⟨rfl, rfl⟩ | ⟨rfl, rfl⟩ <;>
        exact ⟨(Bool.and_eq_true_iff.mp formed).1, reportCarriable_iff.mp (Bool.and_eq_true_iff.mp formed).2⟩
    obtain ⟨valid, carriable⟩ := fits
    have carried := reportCarriable_iff.mpr carriable
    rw [bytes] at carriable ⊢
    have judged := judgeReport_of_sound (s := s.hearsAs p .hunting) (p := p) (add_neg_cancel (kind + hi + lo)) valid
    obtain ⟨ident, emerg, clear⟩ := judged
    refine Eq.trans ?_ (congrArg Host.Outcome.next (takeAll_report calm receiving carriable)).symm
    have accepted (accept : State → State) : s.takeReport p kind (hi ++ lo) accept = accept (s.heard p) :=
      takeReport_of_wellFormed valid carried receiving
    rcases is with ⟨rfl, rfl⟩ | ⟨rfl, rfl⟩ | ⟨rfl, rfl⟩
    · rw [ident rfl]
      exact (operate_of_calm calm _).trans (congrArg _ (accepted _))
    · rw [emerg rfl]
      exact (operate_of_calm calm _).trans (congrArg _ (accepted _))
    · rw [clear rfl]
      exact (operate_of_calm calm _).trans (congrArg _ (accepted _))

end Sys2Proof.Machine
end

section
/-! SUPPORT. One sample period (spec/07 R133 to R141): its signals as the rules write them, the clip flags that it sets,
and what it leaves. -/

namespace Sys2Proof.Machine

section
variable {s t : State} {g : Latched} {slots : Vector Half 13} {place : Nat} {b : BridgeId} {p : PortId}

/-! ## Flags set one after the other -/

/-- The state differs in the notice unit alone, and there by flags set with the notices that they make pending. -/
def State.raisesTo (s t : State) : Prop := t = { s with notices := t.notices } ∧ s.flagsReported t

theorem raisesTo_refl (s : State) : s.raisesTo s := ⟨rfl, flagsReported_refl s⟩

theorem raisesTo_trans {w : State} (first : s.raisesTo t) (second : t.raisesTo w) : s.raisesTo w := by
  obtain ⟨frame, reported⟩ := first
  obtain ⟨frame', reported'⟩ := second
  refine ⟨?_, flagsReported_trans reported reported'⟩
  rw [frame', frame]

theorem raisesTo_raiseIf (s : State) (cond : Bool) (src : Source) {n : Nat} (inSet : n < 6) :
    s.raisesTo (s.raiseIf cond src n) := ⟨raiseIf_frame .., flagsReported_raiseIf s cond src inSet⟩

theorem raisesTo_foldl {α : Type} (cond : α → Bool) (src : α → Source) {n : Nat} (inSet : n < 6) (xs : List α)
    (s : State) : s.raisesTo (xs.foldl (fun s a => s.raiseIf (cond a) (src a) n) s) := by
  induction xs generalizing s with
  | nil => exact raisesTo_refl s
  | cons x xs ih => exact raisesTo_trans (raisesTo_raiseIf s (cond x) (src x) inSet) (ih _)

/-- The flag is set. -/
def State.flagged (s : State) (src : Source) (i : Nat) : Prop := s.notices.flags[src].getLsbD i = true

theorem flagged_raiseIf {cond : Bool} {src other : Source} {n i : Nat} (inSet : n < 6) :
    (s.raiseIf cond src n).flagged other i ↔ s.flagged other i ∨ other = src ∧ i = n ∧ cond = true := by
  unfold State.flagged
  rw [getLsbD_raiseIf_flags _ _ _ _ inSet, Bool.or_eq_true, decide_eq_true_eq]

theorem flagged_foldl {α : Type} (cond : α → Bool) (src : α → Source) {n : Nat} (inSet : n < 6) (xs : List α)
    {other : Source} {i : Nat} (s : State) : (xs.foldl (fun s a => s.raiseIf (cond a) (src a) n) s).flagged other i
      ↔ s.flagged other i ∨ ∃ a ∈ xs, other = src a ∧ i = n ∧ cond a = true := by
  induction xs generalizing s with
  | nil => simp
  | cons x xs ih =>
    rw [List.foldl_cons, ih, flagged_raiseIf inSet, or_assoc]
    simp

/-! ## The clip flags of one sample (R133) -/

section
variable (ports : Vector Int 12) (con : Int) (talk : Vector Int 8) (out : Vector Int 12) (monitor : Int)

/-- A stage of the sample clamps, and this is its flag. -/
def clamped (src : Source) (i : Nat) : Prop :=
  (∃ p : PortId, src = srcPort p ∧ i = flagInputClip ∧ clips ports[p] = true)
  ∨ (src = srcConsole ∧ i = flagConsoleInputClip ∧ clips con = true)
  ∨ (∃ b : BridgeId, src = srcBridge b ∧ i = flagTalkClip ∧ clips talk[b] = true)
  ∨ (∃ p : PortId, src = srcPort p ∧ i = flagOutputClip ∧ clips out[p] = true)
  ∨ (src = srcConsole ∧ i = flagConsoleOutputClip ∧ clips monitor = true)

theorem flagged_raiseClips (s : State) (src : Source) (i : Nat) :
    (s.raiseClips ports con talk out monitor).flagged src i
      ↔ s.flagged src i ∨ clamped ports con talk out monitor src i := by
  unfold State.raiseClips clamped
  dsimp only
  rw [flagged_raiseIf (by decide), flagged_foldl (fun p : PortId => clips out[p]) srcPort (by decide),
    flagged_foldl (fun b : BridgeId => clips talk[b]) srcBridge (by decide), flagged_raiseIf (by decide),
    flagged_foldl (fun p : PortId => clips ports[p]) srcPort (by decide)]
  simp only [mem_allPorts, mem_allBridges, true_and, or_assoc]

theorem raisesTo_raiseClips (s : State) : s.raisesTo (s.raiseClips ports con talk out monitor) := by
  unfold State.raiseClips
  dsimp only
  refine raisesTo_trans ?_ (raisesTo_raiseIf _ _ _ (by decide))
  refine raisesTo_trans ?_ (raisesTo_foldl (fun p : PortId => clips out[p]) srcPort (by decide) _ _)
  refine raisesTo_trans ?_ (raisesTo_foldl (fun b : BridgeId => clips talk[b]) srcBridge (by decide) _ _)
  refine raisesTo_trans ?_ (raisesTo_raiseIf _ _ _ (by decide))
  exact raisesTo_foldl (fun p : PortId => clips ports[p]) srcPort (by decide) _ _

theorem clamped_srcPort (p : PortId) :
    (clamped ports con talk out monitor (srcPort p) flagInputClip ↔ clips ports[p] = true)
    ∧ (clamped ports con talk out monitor (srcPort p) flagOutputClip ↔ clips out[p] = true) := by
  have own (r : PortId) : srcPort p = srcPort r ↔ r = p := ⟨fun h => (srcPort_inj h).symm, fun h => by rw [h]⟩
  have apart : flagInputClip ≠ flagOutputClip := by decide
  simp only [clamped, own, (srcConsole_apart.2 p).symm, (srcBridge_ne_srcPort _ p).symm, apart, apart.symm, false_and,
    true_and, and_false, exists_false, exists_eq_left, or_false, false_or, and_self]

theorem clamped_srcBridge (b : BridgeId) :
    clamped ports con talk out monitor (srcBridge b) flagTalkClip ↔ clips talk[b] = true := by
  have own (c : BridgeId) : srcBridge b = srcBridge c ↔ c = b := ⟨fun h => (srcBridge_inj h).symm, fun h => by rw [h]⟩
  simp only [clamped, own, (srcConsole_apart.1 b).symm, srcBridge_ne_srcPort b, false_and, true_and, exists_false,
    exists_eq_left, or_false, false_or]

theorem clamped_srcConsole : (clamped ports con talk out monitor srcConsole flagConsoleInputClip ↔ clips con = true)
    ∧ (clamped ports con talk out monitor srcConsole flagConsoleOutputClip ↔ clips monitor = true) := by
  have apart : flagConsoleInputClip ≠ flagConsoleOutputClip := by decide
  simp only [clamped, srcConsole_apart.1, srcConsole_apart.2, apart, apart.symm, false_and, true_and, and_false,
    exists_false, or_false, false_or, and_self]

theorem clamped_kind {src : Source} {i : Nat} (h : clamped ports con talk out monitor src i) :
    (∃ p : PortId, src = srcPort p ∧ (i = flagInputClip ∨ i = flagOutputClip))
    ∨ (∃ b : BridgeId, src = srcBridge b ∧ i = flagTalkClip)
    ∨ src = srcConsole ∧ (i = flagConsoleInputClip ∨ i = flagConsoleOutputClip) := by
  rcases h with ⟨p, rfl, rfl, -⟩ | ⟨rfl, rfl, -⟩ | ⟨b, rfl, rfl, -⟩ | ⟨p, rfl, rfl, -⟩ | ⟨rfl, rfl, -⟩
  · exact .inl ⟨p, rfl, .inl rfl⟩
  · exact .inr (.inr ⟨rfl, .inl rfl⟩)
  · exact .inr (.inl ⟨b, rfl, rfl⟩)
  · exact .inl ⟨p, rfl, .inr rfl⟩
  · exact .inr (.inr ⟨rfl, .inr rfl⟩)

end

/-! ## The signals (R136 to R141) -/

theorem rawTalk_eq (s : State) (g : Latched) (slots : Vector Half 13) (b : BridgeId) : s.rawTalk g slots b
    = (((s.bridge b).holder.map fun h => s.conditioned g slots h.who).getD 0)
      + (((s.bridge b).stack.head?.map fun e => if g.duck[b] = true ∧ e.tag = .valid then
          roundDiv g.rounding (s.conditioned g slots (.port e.port) * (g.duckGain[b] : Int)) else 0).getD 0) := by
  have held : (match (s.bridge b).holder with | some h => s.conditioned g slots h.who | none => 0)
      = ((s.bridge b).holder.map fun h => s.conditioned g slots h.who).getD 0 := by
    cases (s.bridge b).holder <;> rfl
  have ducked : s.duckTerm g slots b = ((s.bridge b).stack.head?.map fun e => if g.duck[b] = true ∧ e.tag = .valid then
      roundDiv g.rounding (s.conditioned g slots (.port e.port) * (g.duckGain[b] : Int)) else 0).getD 0 := by
    unfold State.duckTerm Bridge.duckedTalker
    cases duck : g.duck[b] <;> cases (s.bridge b).stack with
    | nil => simp
    | cons e rest => by_cases valid : e.tag = .valid <;> simp [valid]
  rw [← held, ← ducked]
  rfl

theorem read_tap {r : DelayRing} {w : Fin 128} {v : Sample} (sound : r.wf = true) (lead : Nat) :
    DelayRing.read (DelayRing.write r (ringAddress w.val place) v) (ringAddress (tapPosition w lead) place)
      = if lead % 128 = 0 then v else DelayRing.read r ((w.val + 128 - lead % 128) % 128 * 64 + place) := by
  have tap : ringAddress (tapPosition w lead) place = (w.val + 128 - lead % 128) % 128 * 64 + place := rfl
  have address : ringAddress w.val place = w.val * 64 + place := rfl
  rw [DelayRing.read_write (low := 0) _ sound, tap, address]
  have bound := w.isLt
  have lower := Nat.mod_lt lead (show 0 < 128 by decide)
  by_cases here : lead % 128 = 0
  · rw [if_pos here, if_pos (by omega)]
  · rw [if_neg here, if_neg (by omega)]

theorem writeRings_bridge (talk : Vector Sample 8) (place : Nat) (s : State) (b : BridgeId) :
    (s.writeRings talk place).bridge b = { s.bridge b with
      ring := DelayRing.write (s.bridge b).ring (ringAddress (s.bridge b).writePos.val place) talk[b] } :=
  Vector.getElem_ofFn ..

theorem tapSample_writeRings (sound : s.ringsSound) (talk : Vector Sample 8) (b : BridgeId)
    (p : PortId) : (s.writeRings talk place).tapSample g place b p
      = if (s.bridge b).burst ≠ 0 ∧ g.alertOnly[b].getLsbD p = true then 0
        else if (s.port p).setup.lead % 128 = 0 then talk[b]
        else DelayRing.read (s.bridge b).ring
          (((s.bridge b).writePos.val + 128 - (s.port p).setup.lead % 128) % 128 * 64 + place) := by
  unfold State.tapSample
  dsimp only
  rw [writeRings_bridge]
  dsimp only
  rw [show (s.writeRings talk place).port p = s.port p from rfl, read_tap (sound b)]

theorem rawOutput_writeRings (talk : Vector Sample 8) (p : PortId) :
    (s.writeRings talk place).rawOutput g place p
      = if (s.port p).lifecycle = .active ∧ (s.port p).key.asserted = true then
          ((s.destinationOf p).map fun b => roundDiv g.rounding
            ((s.writeRings talk place).tapSample g place b p * (g.txGain[p] : Int)
              + s.alertSample g b * (g.alertGain[b] : Int))).getD 0
        else 0 := by
  have alert (b : BridgeId) : (s.writeRings talk place).alertSample g b = s.alertSample g b := by
    unfold State.alertSample
    rw [writeRings_bridge]
  unfold State.rawOutput
  rw [show (s.writeRings talk place).destinationOf p = s.destinationOf p from rfl]
  simp only [← alert]
  cases s.destinationOf p <;> rfl

/-! ## What the sample leaves -/

/-- The talk signals of one sample. -/
def State.talkSignals (s : State) (g : Latched) (slots : Vector Half 13) : Vector Sample 8 :=
  (Vector.ofFn fun b : BridgeId => s.rawTalk g slots b).map saturate

theorem talkSignals_getElem (s : State) (g : Latched) (slots : Vector Half 13) (b : BridgeId) :
    (s.talkSignals g slots)[b] = saturate (s.rawTalk g slots b) := by
  simp [State.talkSignals]

/-- The destination outputs of one sample before their limit. -/
def State.outputs (s : State) (f : Frame) (slots : Vector Half 13) : Vector Int 12 :=
  Vector.ofFn fun p : PortId =>
    (s.writeRings (s.talkSignals f.settings slots) f.place).rawOutput f.settings f.place p

/-- The clip flags of one sample set. -/
def State.clipped (s : State) (f : Frame) (slots : Vector Half 13) : State :=
  (s.writeRings (s.talkSignals f.settings slots) f.place).raiseClips
    (Vector.ofFn fun p : PortId => s.rawPort f.settings slots p) (rawConsole f.settings slots)
    (Vector.ofFn fun b : BridgeId => s.rawTalk f.settings slots b) (s.outputs f slots)
    (rawMonitor f.settings (s.talkSignals f.settings slots))

theorem formSample_mixer_eq (s : State) (f : Frame) (slots : Vector Half 13) : (s.formSample f slots).mixer
    = { s.mixer with
        frame := some { f with place := f.place + 1 }
        forming := s.mixer.forming ++ [((s.outputs f slots).map saturate).push
          (saturate (rawMonitor f.settings (s.talkSignals f.settings slots)))]
        sbout := (s.mixer.sending[f.place]?).getD silence } := by
  have mixer : (s.clipped f slots).mixer = s.mixer := raiseClips_mixer _ _ _ _ _ _
  have formed : (s.formSample f slots).mixer = { (s.clipped f slots).mixer with
        frame := some { f with place := f.place + 1 }
        forming := (s.clipped f slots).mixer.forming ++ [((s.outputs f slots).map saturate).push
          (saturate (rawMonitor f.settings (s.talkSignals f.settings slots)))]
        sbout := ((s.clipped f slots).mixer.sending[f.place]?).getD silence } := rfl
  rw [formed, mixer]

theorem formSample_frame (s : State) (f : Frame) (slots : Vector Half 13) : s.formSample f slots = { s with
    ports := (s.formSample f slots).ports
    bridges := (s.formSample f slots).bridges
    mixer := (s.formSample f slots).mixer
    notices := (s.formSample f slots).notices
    due := (s.formSample f slots).due } := by
  have frame : s.clipped f slots = { s with
      bridges := (s.writeRings (s.talkSignals f.settings slots) f.place).bridges
      notices := (s.clipped f slots).notices } := (raisesTo_raiseClips _ _ _ _ _ _).1
  have formed : s.formSample f slots = { s.clipped f slots with
      ports := (s.formSample f slots).ports
      bridges := (s.formSample f slots).bridges
      mixer := (s.formSample f slots).mixer
      due := (s.formSample f slots).due } := rfl
  have whole := congrArg (fun x : State => ({ x with
      ports := (s.formSample f slots).ports
      bridges := (s.formSample f slots).bridges
      mixer := (s.formSample f slots).mixer
      due := (s.formSample f slots).due } : State)) frame
  exact formed.trans whole

theorem formSample_flagged (s : State) (f : Frame) (slots : Vector Half 13) (src : Source) (i : Nat) :
    (s.formSample f slots).flagged src i ↔ s.flagged src i ∨ clamped
      (Vector.ofFn fun p : PortId => s.rawPort f.settings slots p) (rawConsole f.settings slots)
      (Vector.ofFn fun b : BridgeId => s.rawTalk f.settings slots b) (s.outputs f slots)
      (rawMonitor f.settings (s.talkSignals f.settings slots)) src i := flagged_raiseClips _ _ _ _ _ _ _ _

theorem formSample_flagsReported (s : State) (f : Frame) (slots : Vector Half 13) :
    s.flagsReported (s.formSample f slots) := by
  have reported : (s.writeRings (s.talkSignals f.settings slots) f.place).flagsReported (s.clipped f slots) :=
    (raisesTo_raiseClips ..).2
  exact flagsReported_of_notices rfl reported

theorem mem_formSample_due (s : State) (f : Frame) (slots : Vector Half 13) (d : Due) :
    d ∈ (s.formSample f slots).due ↔ ∃ b : BridgeId, d = .half b
      ∧ ((s.formSample f slots).bridge b).halfReached f.settings = true := by
  have due : (s.formSample f slots).due = (allBridges.filter fun b =>
    ((s.formSample f slots).bridge b).halfReached f.settings).map Due.half := rfl
  rw [due, List.mem_map]
  simp only [List.mem_filter, mem_allBridges, true_and]
  exact ⟨fun ⟨b, reached, is⟩ => ⟨b, is.symm, reached⟩, fun ⟨b, is, reached⟩ => ⟨b, reached, is.symm⟩⟩

end

end Sys2Proof.Machine
end

section
/-! SUPPORT. What one sample period forms, field by field (spec/07 R125, R133 to R141). -/

namespace Sys2Proof.Machine

section
variable {s : State} {f : Frame} {slots : Vector Half 13}

theorem samplePeriod_of_outside (outside : s.mixer.mode = .halted ∨ s.mixer.frame = none) :
    s.samplePeriod slots = s := by
  unfold State.samplePeriod
  split
  · next runs frame =>
    rcases outside with halted | none
    · exact nomatch runs.symm.trans halted
    · exact nomatch frame.symm.trans none
  · rfl
  · rfl

theorem samplePeriod_of_frame (runs : s.mixer.mode = .run) (frame : s.mixer.frame = some f)
    (within : f.place < frameLength s.mixer.rate) : s.samplePeriod slots = s.formSample f slots := by
  rw [State.samplePeriod, runs, frame]
  exact if_pos within

theorem formSample_ring_read (sound : s.ringsSound) (b : BridgeId) (a : Nat) :
    DelayRing.read ((s.formSample f slots).bridge b).ring a
      = if a = (s.bridge b).writePos.val * 64 + f.place then saturate (s.rawTalk f.settings slots b)
        else DelayRing.read (s.bridge b).ring a := by
  rw [formSample_bridge, countSample_ring]
  exact DelayRing.read_write (low := 0) a (sound b)

/-- What a sample leaves of a bridge, but for its ring. -/
theorem formSample_bridge_rest (s : State) (f : Frame) (slots : Vector Half 13) (b : BridgeId) :
    ((s.formSample f slots).bridge b).holder = (s.bridge b).holder
    ∧ ((s.formSample f slots).bridge b).stack = (s.bridge b).stack
    ∧ ((s.formSample f slots).bridge b).queue = (s.bridge b).queue
    ∧ ((s.formSample f slots).bridge b).burst = (s.bridge b).burst
    ∧ ((s.formSample f slots).bridge b).writePos = (s.bridge b).writePos
    ∧ ((s.formSample f slots).bridge b).phase = if (s.bridge b).burst = 0 then (s.bridge b).phase
      else { (s.bridge b).phase with samples := (s.bridge b).phase.samples + 1 } := by
  rw [formSample_bridge]
  unfold Bridge.countSample
  dsimp only
  split
  · exact ⟨rfl, rfl, rfl, rfl, rfl, rfl⟩
  · exact ⟨rfl, rfl, rfl, rfl, rfl, rfl⟩

theorem half_mem_formSample_due (s : State) (f : Frame) (slots : Vector Half 13) (b : BridgeId) :
    Due.half b ∈ (s.formSample f slots).due ↔ (s.bridge b).burst ≠ 0
      ∧ (if (s.bridge b).phase.segment = .first then f.settings.p1 else f.settings.p2)
        ≤ (s.bridge b).phase.samples + 1 := by
  obtain ⟨-, -, -, burst, -, phase⟩ := formSample_bridge_rest s f slots b
  have own (c : BridgeId) : Due.half b = Due.half c ↔ c = b := by rw [Due.half.injEq, eq_comm]
  have half (seg : Segment) : halfPeriod f.settings seg = if seg = .first then f.settings.p1 else f.settings.p2 := by
    cases seg <;> rfl
  rw [mem_formSample_due]
  simp only [own, exists_eq_left]
  rw [Bridge.halfReached, burst, phase, Bool.and_eq_true, bne_iff_ne, decide_eq_true_eq]
  refine and_congr_right fun sounding => ?_
  rw [if_neg sounding, half]

end

/-- Settles O32: the signals of the rules are the model's, and the sample leaves what its fields say. -/
theorem mixSampleFormsEveryOutput : Obligations.MixSampleFormsEveryOutput := by
  refine ⟨⟨rfl, rfl, fun slot => by simp [silence]⟩, fun s slots calm => ⟨fun outside => ?_, ?_⟩⟩
  · refine (operate_of_calm calm _).trans (congrArg _ ?_)
    exact samplePeriod_of_outside outside
  intro f runs frame within sound g heard console voice talk tone tap output monitor
  have run : exec (.mixSample slots) s = .next (s.formSample f slots) :=
    (operate_of_calm calm _).trans (congrArg _ (samplePeriod_of_frame runs frame within))
  have voice_eq : voice = s.conditioned f.settings slots := funext fun who => by cases who <;> rfl
  have talk_eq (b : BridgeId) : talk b = s.rawTalk f.settings slots b := by
    rw [rawTalk_eq, ← voice_eq]
  have signal (b : BridgeId) : (s.talkSignals f.settings slots)[b] = saturate (talk b) := by
    rw [talk_eq, talkSignals_getElem]
  have tap_eq (b : BridgeId) (p : PortId) :
      (s.writeRings (s.talkSignals f.settings slots) f.place).tapSample f.settings f.place b p = tap b p := by
    rw [tapSample_writeRings sound, signal]
  have output_eq (p : PortId) : (s.outputs f slots)[p] = output p := by
    have out : (s.outputs f slots)[p] = _ := Vector.getElem_ofFn ..
    rw [out, rawOutput_writeRings]
    simp only [tap_eq]
    rfl
  have monitor_eq : rawMonitor f.settings (s.talkSignals f.settings slots) = monitor := by
    unfold rawMonitor
    simp only [signal]
    rfl
  have flag {src : Source} {i : Nat} {clip : Bool} (its : clamped
      (Vector.ofFn fun p : PortId => s.rawPort f.settings slots p) (rawConsole f.settings slots)
      (Vector.ofFn fun b : BridgeId => s.rawTalk f.settings slots b) (s.outputs f slots)
      (rawMonitor f.settings (s.talkSignals f.settings slots)) src i ↔ clip = true) :
      (s.formSample f slots).notices.flags[src].getLsbD i = (s.notices.flags[src].getLsbD i || clip) := by
    rw [Bool.eq_iff_iff, Bool.or_eq_true]
    exact (formSample_flagged s f slots src i).trans (or_congr_right its)
  refine ⟨s.formSample f slots, ((s.outputs f slots).map saturate).push
    (saturate (rawMonitor f.settings (s.talkSignals f.settings slots))), run, fun b a => ?_, fun p => ?_, ?_,
    formSample_mixer_eq s f slots, formSample_port s f slots, fun b => ?_, fun p => ⟨?_, ?_⟩, fun b => ?_, ?_, ?_,
    fun src i => ?_, formSample_flagsReported s f slots, fun d there => ?_, formSample_frame s f slots⟩
  · rw [formSample_ring_read sound, talk_eq]
  · have small : p.val < 12 := p.isLt
    rw [Vector.getElem_push_lt small, Vector.getElem_map]
    exact congrArg saturate (output_eq p)
  · rw [Vector.getElem_push_eq, monitor_eq]
  · obtain ⟨holder, stack, queue, burst, writePos, phase⟩ := formSample_bridge_rest s f slots b
    exact ⟨holder, stack, queue, burst, writePos, phase, half_mem_formSample_due s f slots b⟩
  · refine flag ((clamped_srcPort ..).1.trans ?_)
    rw [show (Vector.ofFn _)[p] = _ from Vector.getElem_ofFn ..]
    exact Iff.rfl
  · refine flag ((clamped_srcPort ..).2.trans ?_)
    rw [output_eq]
  · refine flag ((clamped_srcBridge ..).trans ?_)
    rw [show (Vector.ofFn _)[b] = _ from Vector.getElem_ofFn .., talk_eq]
  · exact flag (clamped_srcConsole ..).1
  · refine flag ((clamped_srcConsole ..).2.trans ?_)
    rw [monitor_eq]
  · by_cases clip : clamped
      (Vector.ofFn fun p : PortId => s.rawPort f.settings slots p) (rawConsole f.settings slots)
      (Vector.ofFn fun b : BridgeId => s.rawTalk f.settings slots b) (s.outputs f slots)
      (rawMonitor f.settings (s.talkSignals f.settings slots)) src i
    · exact .inr (clamped_kind _ _ _ _ _ clip)
    · refine .inl (Bool.eq_iff_iff.mpr ((formSample_flagged s f slots src i).trans ?_))
      exact or_iff_left clip
  · obtain ⟨b, is, -⟩ := (mem_formSample_due s f slots d).mp there
    exact ⟨b, is⟩

end Sys2Proof.Machine
end

section
/-! SUPPORT. A frame completion (R127): its counts bridge by bridge and port by port, the events that it brings, and the
detectors that turn on with it. -/

namespace Sys2Proof.Machine

section
variable {s t z : State} {f : Frame} {cs pres : PortSet} {late : Late} {p r : PortId} {b : BridgeId} {q : Port}

/-! ## Ports changed in a list, up to what arbitration and keying may change -/

/-- The ports of a list changed in one way. -/
def State.changed (change : Port → Port) (ps : List PortId) (z : State) : State :=
  { z with ports := Vector.ofFn fun r : PortId => if r ∈ ps then change (z.port r) else z.port r }

section
variable {change : Port → Port}

theorem changed_port (ps : List PortId) (z : State) (r : PortId) :
    (z.changed change ps).port r = if r ∈ ps then change (z.port r) else z.port r := Vector.getElem_ofFn ..

theorem port_backdrop_of_backdrop (same : t.backdrop = s.backdrop) (p : PortId) :
    (t.port p).backdrop = (s.port p).backdrop := by
  have ports := congrArg (fun z : State => z.port p) same
  simpa [State.backdrop, State.port] using ports

theorem bridge_backdrop_of_backdrop (same : t.backdrop = s.backdrop) (b : BridgeId) :
    (t.bridge b).backdrop = (s.bridge b).backdrop := by
  rw [← backdrop_bridge, same, backdrop_bridge]

theorem changed_backdrop_congr (blind : ∀ q q' : Port, q.backdrop = q'.backdrop → (change q).backdrop =
    (change q').backdrop)
    (ps : List PortId) (same : t.backdrop = s.backdrop) :
    (t.changed change ps).backdrop = (s.changed change ps).backdrop := by
  have maps : (t.changed change ps).ports.map Port.backdrop = (s.changed change ps).ports.map Port.backdrop := by
    ext i hi : 1
    rw [Vector.getElem_map, Vector.getElem_map]
    have left := changed_port (change := change) ps t ⟨i, hi⟩
    have right := changed_port (change := change) ps s ⟨i, hi⟩
    have here := port_backdrop_of_backdrop same ⟨i, hi⟩
    refine (congrArg Port.backdrop left).trans (Eq.trans ?_ (congrArg Port.backdrop right).symm)
    split
    · exact blind _ _ here
    · exact here
  calc (t.changed change ps).backdrop
      = { t.backdrop with ports := (t.changed change ps).ports.map Port.backdrop } := rfl
    _ = { s.backdrop with ports := (s.changed change ps).ports.map Port.backdrop } := by rw [maps, same]
    _ = (s.changed change ps).backdrop := rfl

/-- Steps that change one port each, up to what arbitration and keying may change, change the ports of their list. -/
theorem foldl_changed_backdrop {step : State → PortId → State}
    (blind : ∀ q q' : Port, q.backdrop = q'.backdrop → (change q).backdrop = (change q').backdrop)
    (steps : ∀ z p, (step z p).backdrop = (z.changed change [p]).backdrop) (ps : List PortId) (once : ps.Nodup)
    (z : State) : (ps.foldl step z).backdrop = (z.changed change ps).backdrop := by
  induction ps generalizing z with
  | nil =>
    have same : z.changed change [] = z := congrArg (fun v => { z with ports := v })
      (Vector.ext fun i hi => changed_port [] z ⟨i, hi⟩)
    rw [List.foldl_nil, same]
  | cons p ps ih =>
    obtain ⟨fresh, once⟩ := List.nodup_cons.mp once
    have joined : (z.changed change [p]).changed change ps = z.changed change (p :: ps) := by
      have ports (r : PortId) : ((z.changed change [p]).changed change ps).port r = (z.changed change
        (p :: ps)).port r := by
        rw [changed_port, changed_port, changed_port]
        by_cases here : r = p
        · subst here
          simp [fresh]
        · simp [here]
      exact congrArg (fun v => { z with ports := v }) (Vector.ext fun i hi => ports ⟨i, hi⟩)
    rw [List.foldl_cons, ih once, changed_backdrop_congr blind ps (steps z p), joined]

end

/-! ## Detectors that turn on (R13, R14) -/

/-- The detector on, its quiet count at 0. -/
def Port.turnedOn (q : Port) : Port := { q with vox := true, quietCount := 0 }

/-- The detector of the port turns on, with its change of engagement and what that hands on. -/
def State.turnsOn (z : State) (p : PortId) : State :=
  (State.judgeEngagement false p { z with ports := z.ports.set p { z.port p with vox := true, quietCount := 0 }
    }).handOn

theorem turnsOn_backdrop (z : State) (p : PortId) : (z.turnsOn p).backdrop =
    (z.changed Port.turnedOn [p]).backdrop := by
  rw [State.turnsOn, handOn_backdrop, judgeEngagement_backdrop]
  refine congrArg (fun v : Vector Port 12 => State.backdrop { z with ports := v }) (Vector.ext fun i hi => ?_)
  have right := changed_port (change := Port.turnedOn) [p] z ⟨i, hi⟩
  have left := port_setPort z p ⟨i, hi⟩ { z.port p with vox := true, quietCount := 0 }
  refine Eq.trans left (Eq.trans ?_ right.symm)
  by_cases here : (⟨i, hi⟩ : PortId) = p
  · subst here
    rw [if_pos rfl, if_pos (List.mem_singleton.mpr rfl)]
    rfl
  · rw [if_neg here, if_neg (by simpa using here)]

theorem turnedOn_blind (q q' : Port) (same : q.backdrop = q'.backdrop) : q.turnedOn.backdrop = q'.turnedOn.backdrop :=
  congrArg (fun q : Port => { q with vox := true, quietCount := 0 }) same

/-- The detector alone is about to change, and turns on. -/
def Port.onlyTurns (q : Port) : Prop := q.carrierReached = false ∧ q.quietReached = false ∧ q.voxLoud = true

theorem onlyTurns_of_backdrop {q' : Port} (same : q.backdrop = q'.backdrop) (h : q'.onlyTurns) : q.onlyTurns := by
  have blank (x : Port) : x.backdrop.onlyTurns ↔ x.onlyTurns := Iff.rfl
  rw [← blank, same, blank]
  exact h

theorem requalified_of_onlyTurns (h : q.onlyTurns) : q.requalified = q.turnedOn := by
  obtain ⟨carrier, quiet, loud⟩ := h
  unfold Port.requalified
  dsimp only
  rw [carrier]
  simp only [Bool.false_eq_true, if_false, quiet, loud, if_true]
  rfl

theorem foldl_requalify_eq (ps : List PortId) (once : ps.Nodup) (turns : ∀ p ∈ ps, (z.port p).onlyTurns) :
    ps.foldl (fun s p => s.requalify p) z = ps.foldl State.turnsOn z := by
  induction ps generalizing z with
  | nil => rw [List.foldl_nil, List.foldl_nil]
  | cons p ps ih =>
    obtain ⟨fresh, once⟩ := List.nodup_cons.mp once
    have first : z.requalify p = z.turnsOn p := by
      rw [State.requalify, requalified_of_onlyTurns (turns p List.mem_cons_self)]
      rfl
    rw [List.foldl_cons, List.foldl_cons, first]
    refine ih once fun r there => ?_
    have apart : r ≠ p := fun same => fresh (same ▸ there)
    have kept := port_backdrop_of_backdrop (turnsOn_backdrop z p) r
    rw [changed_port, if_neg (by simpa using apart)] at kept
    exact onlyTurns_of_backdrop kept (turns r (List.mem_cons_of_mem _ there))

/-! ## The completion -/

theorem endFrame_of_complete (runs : s.mixer.mode = .run) (frame : s.mixer.frame = some f)
    (full : f.place = frameLength s.mixer.rate) : s.endFrame cs pres late = s.completeFrame cs pres late := by
  rw [State.endFrame, runs, frame]
  exact if_pos full

/-- The counts of the completion, with the events that they bring due. -/
def State.ended (s : State) (cs pres : PortSet) (late : Late) : State :=
  { s.counted cs pres late with due := s.brought pres late (s.counted cs pres late) }

/-- The detectors that turn on within the completion. -/
def State.turning (s : State) (cs pres : PortSet) (late : Late) : List PortId :=
  allPorts.filter fun p => voxNow late p ((s.port p).sampling (pres.getLsbD p)) ((s.counted cs pres late).port p)

end

end Sys2Proof.Machine
end

section
/-! SUPPORT. The counts of a frame completion, field by field (spec/01 R10 to R14, spec/02 R25, R30, spec/05 R87,
spec/06 R110). -/

namespace Sys2Proof.Machine

section
variable {s : State} {cs pres : PortSet} {late : Late} {p : PortId} {b : BridgeId} {q : Port}

/-! ## What is sampled -/

theorem sampling_iff {presHigh : Bool} : q.sampling presHigh = true ↔ q.lifecycle = .active
    ∧ ¬ (q.present = true ∧ throughPolarity q.setup.presencePolarity presHigh = false ∧ q.presenceCount = 1) := by
  unfold Port.sampling Port.presenceReached Port.presenceDiffers
  cases q.present <;> cases throughPolarity q.setup.presencePolarity presHigh <;> simp

theorem counted_port_eq (s : State) (cs pres : PortSet) (late : Late) (p : PortId) : (s.counted cs pres late).port p
    = { (s.port p).completed s.mixer.rate (cs.getLsbD p) (pres.getLsbD p) with
        timing := ((s.counted cs pres late).port p).timing
        keyUp := ((s.counted cs pres late).port p).keyUp } := by
  rw [counted_port]
  split
  · rfl
  · exact keyCounted_keeps _

/-- What is counted of the qualifiers of a port. -/
theorem counted_qualifiers (s : State) (cs pres : PortSet) (late : Late) (p : PortId) :
    let q := (s.counted cs pres late).port p
    let sampled := (s.port p).sampling (pres.getLsbD p)
    let heard := (s.port p).voxSum / frameLength s.mixer.rate
    q.setup = (s.port p).setup ∧ q.lifecycle = (s.port p).lifecycle ∧ q.vox = (s.port p).vox ∧ q.voxLevel = heard
    ∧ q.carrierCount = (if sampled then (s.port p).carrierNext (cs.getLsbD p) else (s.port p).carrierCount)
    ∧ q.quietCount = if sampled then (s.port p).quietNext heard else (s.port p).quietCount := by
  intro q sampled heard
  have eq : q = _ := counted_port_eq s cs pres late p
  rw [eq]
  exact ⟨rfl, rfl, rfl, rfl, rfl, rfl⟩

/-- The detector turns on with the completion (R13, R14). -/
def State.turnsOnNow (s : State) (cs pres : PortSet) (late : Late) (p : PortId) : Prop :=
  (s.port p).sampling (pres.getLsbD p) = true ∧ (s.port p).vox = false
  ∧ (s.port p).setup.voxThreshold ≤ (s.port p).voxSum / frameLength s.mixer.rate
  ∧ (s.port p).carrierNext (cs.getLsbD p) ≤ (s.port p).setup.csDebounce ∧ late.vox.getLsbD p = false

theorem mem_turning_iff : p ∈ s.turning cs pres late ↔ s.turnsOnNow cs pres late p := by
  obtain ⟨setup, lifecycle, vox, level, carrier, -⟩ := counted_qualifiers s cs pres late p
  rw [State.turning, List.mem_filter, voxNow, Port.voxLoud, Port.carrierReached, setup, lifecycle, vox, level, carrier]
  unfold State.turnsOnNow
  cases sampled : (s.port p).sampling (pres.getLsbD p) with
  | false => simp
  | true =>
    have active := (sampling_iff.mp sampled).1
    simp [mem_allPorts, active, and_assoc]

theorem pairwise_turning (s : State) (cs pres : PortSet) (late : Late) :
    (s.turning cs pres late).Pairwise (· < ·) := pairwise_allPorts.filter _

theorem onlyTurns_of_turnsOnNow (turns : s.turnsOnNow cs pres late p) :
    ((s.counted cs pres late).port p).onlyTurns := by
  obtain ⟨setup, lifecycle, vox, level, carrier, quiet⟩ := counted_qualifiers s cs pres late p
  obtain ⟨sampled, off, loud, steady, -⟩ := turns
  have active := (sampling_iff.mp sampled).1
  refine ⟨?_, ?_, ?_⟩
  · rw [Port.carrierReached, setup, carrier, sampled, if_pos rfl]
    exact decide_eq_false (by omega)
  · rw [Port.quietReached, setup, quiet, sampled, if_pos rfl, Port.quietNext, off, if_neg (by simp)]
    exact decide_eq_false (by omega)
  · rw [Port.voxLoud, setup, lifecycle, vox, level, active, off]
    exact decide_eq_true loud

theorem completeFrame_eq_requalify (s : State) (cs pres : PortSet) (late : Late) : s.completeFrame cs pres late
    = (s.turning cs pres late).foldl (fun s p => s.requalify p) (s.ended cs pres late) := rfl

theorem ended_port (s : State) (cs pres : PortSet) (late : Late) (p : PortId) :
    (s.ended cs pres late).port p = (s.counted cs pres late).port p := by
  unfold State.ended State.port
  rfl

theorem completeFrame_eq (s : State) (cs pres : PortSet) (late : Late) : s.completeFrame cs pres late
    = (s.turning cs pres late).foldl State.turnsOn (s.ended cs pres late) := by
  have turns (p : PortId) (there : p ∈ s.turning cs pres late) : ((s.ended cs pres late).port p).onlyTurns := by
    rw [ended_port]
    exact onlyTurns_of_turnsOnNow (mem_turning_iff.mp there)
  have once : (s.turning cs pres late).Nodup := (pairwise_turning s cs pres late).imp fun lt => lt.ne
  rw [completeFrame_eq_requalify]
  exact foldl_requalify_eq _ once turns

theorem completeFrame_backdrop (s : State) (cs pres : PortSet) (late : Late) : (s.completeFrame cs pres late).backdrop
    = ((s.ended cs pres late).changed Port.turnedOn (s.turning cs pres late)).backdrop := by
  rw [completeFrame_eq]
  exact foldl_changed_backdrop turnedOn_blind turnsOn_backdrop _
    ((pairwise_turning s cs pres late).imp fun lt => lt.ne) _

theorem completeFrame_due (s : State) (cs pres : PortSet) (late : Late) : (s.completeFrame cs pres late).due
    = s.brought pres late (s.counted cs pres late) := by
  have due := congrArg State.due (completeFrame_backdrop s cs pres late)
  exact due

/-! ## Which events are brought -/

theorem mem_dueOf {α : Type} {all : List α} {test : α → Bool} {event : α → Due} {d : Due} :
    d ∈ dueOf all test event ↔ ∃ a ∈ all, test a = true ∧ event a = d := by
  simp [dueOf, and_assoc]

theorem key_mem_brought {t : State} : Due.key p ∈ s.brought pres late t ↔ keyLeft late p (s.port p) = true := by
  unfold State.brought keyLeft
  simp only [List.mem_append, mem_dueOf, mem_allBridges, mem_allPorts, true_and, reduceCtorEq, and_false, exists_false,
    false_or, or_false, Due.key.injEq, exists_eq_right, Bool.and_eq_true, Bool.not_eq_true', Bool.or_eq_true]
  cases late.keys.getLsbD p <;> simp

theorem talk_mem_brought {t : State} : Due.talk b ∈ s.brought pres late t
    ↔ late.timers.getLsbD b = true ∨ (s.bridge b).timerLast = true := by
  unfold State.brought
  simp only [List.mem_append, mem_dueOf, mem_allBridges, mem_allPorts, true_and, reduceCtorEq, and_false, exists_false,
    false_or, or_false, Due.talk.injEq, exists_eq_right, Bool.and_eq_true, Bool.not_eq_true']
  cases late.timers.getLsbD b <;> simp

end

end Sys2Proof.Machine
end

section
/-! SUPPORT. What a frame completion leaves (R127), by the state after its counts. -/

namespace Sys2Proof.Machine

section
variable {s t : State} {cs pres : PortSet} {late : Late} {p : PortId} {b : BridgeId}

/-! ## Bridges -/

theorem completed_waiting (late : Bool) (r : Bridge) :
    (r.completed late).stack = r.stack ∧ (r.completed late).queue = r.queue := by
  unfold Bridge.completed Bridge.timerCounted
  dsimp only
  split_ifs <;> exact ⟨rfl, rfl⟩

theorem completed_holder (late : Bool) (r : Bridge) : (r.completed late).holder
    = if late = true ∨ r.timerLast = true then r.holder
      else r.holder.map fun h => { h with timer := h.timer.map (· - 1) } := by
  have last (burst : Nat) (phase : AlertPhase) (pos : Fin 128) :
      ({ r with burst := burst, phase := phase, writePos := pos } : Bridge).timerLast = r.timerLast := rfl
  unfold Bridge.completed Bridge.timerCounted
  by_cases silent : r.burst = 0 <;> by_cases stays : late = true ∨ r.timerLast = true <;>
    simp_all [Bridge.timerLast]

theorem ended_bridge (s : State) (cs pres : PortSet) (late : Late) (b : BridgeId) :
    (s.ended cs pres late).bridge b = (s.bridge b).completed (late.timers.getLsbD b) := by
  rw [← counted_bridge s cs pres late b]
  unfold State.ended State.bridge
  rfl

theorem completeFrame_bridge (s : State) (cs pres : PortSet) (late : Late) (b : BridgeId) :
    ((s.completeFrame cs pres late).bridge b).backdrop
      = ((s.bridge b).completed (late.timers.getLsbD b)).backdrop := by
  rw [bridge_backdrop_of_backdrop (completeFrame_backdrop s cs pres late), ← ended_bridge s cs pres late b]
  rfl

/-! ## Ports -/

theorem counted_kept (s : State) (cs pres : PortSet) (late : Late) (p : PortId) :
    let q := (s.counted cs pres late).port p
    q.voxSum = 0 ∧ q.present = (s.port p).present
    ∧ q.presenceCount
      = (if throughPolarity (s.port p).setup.presencePolarity (pres.getLsbD p) = (s.port p).present then 0 else 1)
    ∧ q.carrier = (s.port p).carrier ∧ q.receiver = (s.port p).receiver.aged ∧ q.emergency = (s.port p).emergency := by
  intro q
  have eq : q = _ := counted_port_eq s cs pres late p
  have differs : (if (s.port p).presenceDiffers (pres.getLsbD p) then 1 else 0)
      = if throughPolarity (s.port p).setup.presencePolarity (pres.getLsbD p) = (s.port p).present then 0 else 1 := by
    unfold Port.presenceDiffers
    simp
  rw [eq]
  exact ⟨rfl, rfl, differs, rfl, rfl, rfl⟩

theorem counted_engaged (s : State) (cs pres : PortSet) (late : Late) (p : PortId) :
    let q := (s.counted cs pres late).port p
    q.engaged = (s.port p).engaged ∧ q.bar = (s.port p).bar ∧ q.unit = (s.port p).unit
    ∧ q.pendingId = (s.port p).pendingId.map (fun i => { i with window := i.window - 1 }) ∧ q.key = (s.port p).key := by
  intro q
  have eq : q = _ := counted_port_eq s cs pres late p
  rw [eq]
  exact ⟨rfl, rfl, rfl, rfl, rfl⟩

theorem counted_timing_of_left (left : keyLeft late p (s.port p) = true) :
    ((s.counted cs pres late).port p).timing = (s.port p).timing
    ∧ ((s.counted cs pres late).port p).keyUp = (s.port p).keyUp := by
  rw [counted_port, if_pos left]
  exact ⟨rfl, rfl⟩

theorem counted_timing_of_taken (taken : keyLeft late p (s.port p) = false) :
    ((s.counted cs pres late).port p).timing = (match (s.port p).key with
      | .idle | .deferred | .keyed => (s.port p).timing
      | .drain | .hang | .blank | .cool => (s.port p).timing + 1)
    ∧ ((s.counted cs pres late).port p).keyUp = (match (s.port p).key with
      | .idle | .deferred | .blank | .cool => (s.port p).keyUp
      | .keyed | .drain | .hang =>
        if (s.port p).setup.keyLimit = 0 then (s.port p).keyUp else (s.port p).keyUp + 1) := by
  rw [counted_port, if_neg (by rw [taken]; exact Bool.false_ne_true)]
  generalize s.port p = q
  obtain ⟨setup, _, _, _, _, _, _, _, _, _, _, _, _, _, _, _, _, _, key, _, _⟩ := q
  cases key <;> exact ⟨rfl, rfl⟩

theorem completeFrame_port (s : State) (cs pres : PortSet) (late : Late) (p : PortId) :
    ((s.completeFrame cs pres late).port p).backdrop = (if p ∈ s.turning cs pres late
      then ((s.counted cs pres late).port p).turnedOn else (s.counted cs pres late).port p).backdrop := by
  rw [port_backdrop_of_backdrop (completeFrame_backdrop s cs pres late), changed_port, ended_port]

/-- The fields that arbitration and keying leave alone, and that a detector's turn leaves too. -/
theorem completeFrame_port_fields (s : State) (cs pres : PortSet) (late : Late) (p : PortId) :
    let q := (s.completeFrame cs pres late).port p
    let c := (s.counted cs pres late).port p
    (q.setup = c.setup ∧ q.lifecycle = c.lifecycle ∧ q.present = c.present ∧ q.presenceCount = c.presenceCount
      ∧ q.carrier = c.carrier ∧ q.carrierCount = c.carrierCount ∧ q.voxSum = c.voxSum ∧ q.voxLevel = c.voxLevel
      ∧ q.receiver = c.receiver ∧ q.emergency = c.emergency)
    ∧ (p ∈ s.turning cs pres late → q.vox = true ∧ q.quietCount = 0)
    ∧ (p ∉ s.turning cs pres late → q.vox = c.vox ∧ q.quietCount = c.quietCount) := by
  intro q c
  have back := completeFrame_port s cs pres late p
  have parts {x : Port} (h : q.backdrop = x.backdrop) : (q.setup = x.setup ∧ q.lifecycle = x.lifecycle
      ∧ q.present = x.present ∧ q.presenceCount = x.presenceCount ∧ q.carrier = x.carrier
      ∧ q.carrierCount = x.carrierCount ∧ q.voxSum = x.voxSum ∧ q.voxLevel = x.voxLevel ∧ q.receiver = x.receiver
      ∧ q.emergency = x.emergency) ∧ q.vox = x.vox ∧ q.quietCount = x.quietCount := by
    simp only [Port.backdrop, Port.mk.injEq, true_and, and_true] at h
    obtain ⟨setup, -, lifecycle, present, presenceCount, carrier, carrierCount, vox, quiet, voxSum, voxLevel, emergency,
      receiver, -⟩ := h
    exact ⟨⟨setup, lifecycle, present, presenceCount, carrier, carrierCount, voxSum, voxLevel, receiver, emergency⟩,
      vox,
      quiet⟩
  by_cases turns : p ∈ s.turning cs pres late
  · rw [if_pos turns] at back
    obtain ⟨fields, vox, quiet⟩ := parts back
    exact ⟨fields, fun _ => ⟨vox, quiet⟩, fun stays => absurd turns stays⟩
  · rw [if_neg turns] at back
    obtain ⟨fields, vox, quiet⟩ := parts back
    exact ⟨fields, fun other => absurd other turns, fun _ => ⟨vox, quiet⟩⟩

/-- The state after the counts is the one after the completion, but for the detectors that have turned on. -/
theorem ended_backdrop (s : State) (cs pres : PortSet) (late : Late) : (s.ended cs pres late).backdrop
    = ({ s.completeFrame cs pres late with ports := Vector.ofFn fun p : PortId =>
        { (s.completeFrame cs pres late).port p with vox := (s.port p).vox } } : State).backdrop := by
  have back := completeFrame_backdrop s cs pres late
  generalize hw : (Vector.ofFn fun p : PortId =>
    { (s.completeFrame cs pres late).port p with vox := (s.port p).vox } : Vector Port 12) = w
  have maps : (s.ended cs pres late).ports.map Port.backdrop = w.map Port.backdrop := by
    ext i hi : 1
    rw [Vector.getElem_map, Vector.getElem_map, ← hw, Vector.getElem_ofFn]
    have here := completeFrame_port s cs pres late ⟨i, hi⟩
    obtain ⟨-, -, vox, -, -, quiet⟩ := counted_qualifiers s cs pres late ⟨i, hi⟩
    have restored := congrArg (fun q : Port => { q with vox := (s.port ⟨i, hi⟩).vox }) here
    refine Eq.trans (congrArg Port.backdrop (ended_port s cs pres late ⟨i, hi⟩)) (Eq.trans ?_ restored.symm)
    split
    · next turns =>
      obtain ⟨sampled, off, -⟩ := mem_turning_iff.mp turns
      rw [sampled, if_pos rfl, Port.quietNext, off, if_neg (by simp)] at quiet
      rw [off] at vox
      simp only [Port.turnedOn, Port.backdrop, off, ← quiet]
      rw [← vox]
    · rw [← vox]
      rfl
  calc (s.ended cs pres late).backdrop
      = { ((s.ended cs pres late).changed Port.turnedOn (s.turning cs pres late)).backdrop with
          ports := (s.ended cs pres late).ports.map Port.backdrop } := rfl
    _ = { (s.completeFrame cs pres late).backdrop with ports := w.map Port.backdrop } := by rw [maps, back]
    _ = _ := rfl

end

end Sys2Proof.Machine
end

section
/-! SUPPORT. The counts of a frame completion, assembled. -/

namespace Sys2Proof.Machine

/-- Settles O34: what stands after the completion is read over its backdrop, the rest at the state after the counts. -/
theorem frameCompletionCounts : Obligations.FrameCompletionCounts := by
  refine ⟨fun high => ⟨rfl, rfl⟩, ?_⟩
  intro s f cs pres late calm runs frame full heard present carrier lost sampled changes turnsOn
  have run : exec (.frameCompletion cs pres late) s = .next (s.completeFrame cs pres late) :=
    (operate_of_calm calm _).trans (congrArg _ (endFrame_of_complete runs frame full))
  have sampledIff (p : PortId) : (s.port p).sampling (pres.getLsbD p) = true ↔ sampled p := sampling_iff
  have turnsIff (p : PortId) : p ∈ s.turning cs pres late ↔ turnsOn p := by
    rw [mem_turning_iff]
    exact and_congr_left fun _ => sampledIff p
  have back := completeFrame_backdrop s cs pres late
  have due := completeFrame_due s cs pres late
  refine ⟨s.completeFrame cs pres late, s.ended cs pres late, s.turning cs pres late, run, pairwise_turning s cs pres
    late,
    turnsIff, completeFrame_eq s cs pres late, ?_, ?_, fun b => ?_, fun p => ?_, ended_backdrop s cs pres late, rfl,
      rfl,
    fun p => ?_, fun b => ?_⟩
  · exact mixer_of_backdrop back
  · exact dir_of_backdrop back
  · have bridge := completeFrame_bridge s cs pres late b
    have writePos := congrArg Bridge.writePos bridge
    have ring := congrArg Bridge.ring bridge
    have burst := congrArg Bridge.burst bridge
    have phase := congrArg Bridge.phase bridge
    exact ⟨writePos.trans (completed_writePos ..), ring.trans (completed_ring ..), burst.trans (completed_burst ..),
      phase.trans (completed_phase ..)⟩
  · obtain ⟨⟨setup, lifecycle, here, presenceCount, carrierNow, carrierCount, voxSum, voxLevel, receiver, emergency⟩,
      turned, stays⟩ := completeFrame_port_fields s cs pres late p
    obtain ⟨setup', lifecycle', vox', level', carrierCount', quiet'⟩ := counted_qualifiers s cs pres late p
    obtain ⟨voxSum', here', presenceCount', carrierNow', receiver', emergency'⟩ := counted_kept s cs pres late p
    refine ⟨voxSum.trans voxSum', voxLevel.trans level', here.trans here', presenceCount.trans presenceCount',
      carrierNow.trans carrierNow', fun samples => ⟨?_, ?_⟩, fun silent => ⟨?_, ?_⟩, fun on => ?_, fun off => ?_,
      fun held age assembling => ?_, lifecycle.trans lifecycle', setup.trans setup', emergency.trans emergency'⟩
    · rw [carrierCount, carrierCount', (sampledIff p).mpr samples, if_pos rfl]
      rfl
    · by_cases on : p ∈ s.turning cs pres late
      · have was := (mem_turning_iff.mp on).2.1
        rw [(turned on).2, was, if_neg (by simp)]
      · rw [(stays on).2, quiet', (sampledIff p).mpr samples, if_pos rfl]
        rfl
    · rw [carrierCount, carrierCount', if_neg (mt (sampledIff p).mp silent)]
    · have off : p ∉ s.turning cs pres late := fun on => silent ((turnsIff p).mp on).1
      rw [(stays off).2, quiet', if_neg (mt (sampledIff p).mp silent)]
    · exact (turned ((turnsIff p).mpr on)).1
    · rw [(stays (mt (turnsIff p).mp off)).1, vox']
    · rw [receiver, receiver', assembling]
      rfl
  · obtain ⟨engaged, bar, unit, pendingId, key⟩ := counted_engaged s cs pres late p
    rw [due, key_mem_brought, ended_port]
    refine ⟨engaged, bar, unit, pendingId, key, counted_timing_of_left, fun taken => ?_⟩
    exact counted_timing_of_taken (by simpa using taken)
  · obtain ⟨stack, queue⟩ := completed_waiting (late.timers.getLsbD b) (s.bridge b)
    rw [due, talk_mem_brought, ended_bridge, completed_holder]
    exact ⟨stack, queue, fun stands => if_pos stands, fun counts => if_neg counts⟩

end Sys2Proof.Machine
end

section
/-! SUPPORT. The operations of arbitration and keying, and the events of a completion, neither read nor write what is
  due:
each does on a state with other events due what it does on the state, with those kept due (as Laws/Link says of the
link). So an event is taken alike before and after the others. -/

namespace Sys2Proof.Machine

/-- The state with these events due. -/
def State.withDue (ds : List Due) (s : State) : State := { s with due := ds }

/-! ## What is read -/

@[simp] theorem port_withDue (s : State) (ds : List Due) (p : PortId) : (s.withDue ds).port p = s.port p := rfl

@[simp] theorem bridge_withDue (s : State) (ds : List Due) (b : BridgeId) : (s.withDue ds).bridge b = s.bridge b := rfl

@[simp] theorem record_withDue (s : State) (ds : List Due) (b : BridgeId) : (s.withDue ds).record b = s.record b := rfl

@[simp] theorem bids_withDue (s : State) (ds : List Due) : (s.withDue ds).bids = s.bids := rfl

@[simp] theorem bidCounter_withDue (s : State) (ds : List Due) : (s.withDue ds).bidCounter = s.bidCounter := rfl

@[simp] theorem notices_withDue (s : State) (ds : List Due) : (s.withDue ds).notices = s.notices := rfl

@[simp] theorem activeRecords_withDue (s : State) (ds : List Due) :
    (s.withDue ds).activeRecords = s.activeRecords := rfl

@[simp] theorem memberOf_withDue (s : State) (ds : List Due) (p : PortId) :
    (s.withDue ds).memberOf p = s.memberOf p := rfl

@[simp] theorem effPriority_withDue (s : State) (ds : List Due) (p : PortId) :
    (s.withDue ds).effPriority p = s.effPriority p := rfl

@[simp] theorem talkerPriority_withDue (s : State) (ds : List Due) (w : Talker) :
    (s.withDue ds).talkerPriority w = s.talkerPriority w := by cases w <;> rfl

@[simp] theorem demand_withDue (s : State) (ds : List Due) (p : PortId) : (s.withDue ds).demand p = s.demand p := rfl

@[simp] theorem overrideKey_withDue (s : State) (ds : List Due) (p : PortId) :
    (s.withDue ds).overrideKey p = s.overrideKey p := rfl

@[simp] theorem keyResting_withDue (s : State) (ds : List Due) : (s.withDue ds).keyResting = s.keyResting := rfl

@[simp] theorem freshTimer_withDue (s : State) (ds : List Due) (b : BridgeId) :
    (s.withDue ds).freshTimer b = s.freshTimer b := rfl

@[simp] theorem grantTimer_withDue (s : State) (ds : List Due) (b : BridgeId) (w : Talker) :
    (s.withDue ds).grantTimer b w = s.grantTimer b w := by cases w <;> rfl

@[simp] theorem insertEntry_withDue (s : State) (ds : List Due) (e : QueueEntry) (q : List QueueEntry) :
    (s.withDue ds).insertEntry e q = s.insertEntry e q := by
  induction q with
  | nil => rfl
  | cons x xs ih => unfold State.insertEntry; rw [ih]; rfl

@[simp] theorem sortQueue_withDue (s : State) (ds : List Due) (q : List QueueEntry) :
    (s.withDue ds).sortQueue q = s.sortQueue q := by
  unfold State.sortQueue; congr 1; funext e q; simp

@[simp] theorem spill_withDue (s : State) (ds : List Due) (st : List StackEntry) (q : List QueueEntry) :
    (s.withDue ds).spill st q = s.spill st q := by unfold State.spill; simp

/-! ## Updates of one port, bridge or source -/

@[simp] theorem setPort_withDue (s : State) (ds : List Due) (p : PortId) (q : Port) :
    (s.withDue ds).setPort p q = (s.setPort p q).withDue ds := rfl

@[simp] theorem setBridge_withDue (s : State) (ds : List Due) (b : BridgeId) (r : Bridge) :
    (s.withDue ds).setBridge b r = (s.setBridge b r).withDue ds := rfl

@[simp] theorem setPending_withDue (s : State) (ds : List Due) (src : Source) :
    (s.withDue ds).setPending src = (s.setPending src).withDue ds := rfl

@[simp] theorem reportChange_withDue (s : State) (ds : List Due) (src : Source) :
    (s.withDue ds).reportChange src = (s.reportChange src).withDue ds := by
  simp only [State.reportChange, notices_withDue, setPending_withDue, apply_ite (State.withDue ds)]; rfl

@[simp] theorem reportIf_withDue (s : State) (ds : List Due) (changed : Bool) (src : Source) :
    (s.withDue ds).reportIf changed src = (s.reportIf changed src).withDue ds := by
  unfold State.reportIf; split <;> simp

@[simp] theorem raise_withDue (s : State) (ds : List Due) (src : Source) (n : Nat) :
    (s.withDue ds).raise src n = (s.raise src n).withDue ds := by
  simp only [State.raise, apply_ite (State.withDue ds)]; rfl

@[simp] theorem raiseIf_withDue (s : State) (ds : List Due) (cond : Bool) (src : Source) (n : Nat) :
    (s.withDue ds).raiseIf cond src n = (s.raiseIf cond src n).withDue ds := by
  unfold State.raiseIf; split <;> simp

@[simp] theorem updatePort_withDue (s : State) (ds : List Due) (p : PortId) (f : Port → Port) :
    (s.withDue ds).updatePort p f = (s.updatePort p f).withDue ds := by
  simp only [State.updatePort, port_withDue, setPort_withDue, reportIf_withDue, setPending_withDue,
    apply_ite (State.withDue ds)]

@[simp] theorem updateBridge_withDue (s : State) (ds : List Due) (b : BridgeId) (f : Bridge → Bridge) :
    (s.withDue ds).updateBridge b f = (s.updateBridge b f).withDue ds := by
  unfold State.updateBridge; simp

@[simp] theorem setBids_withDue (s : State) (ds : List Due) (ps : List PortId) :
    ({ s.withDue ds with bids := ps } : State) = ({ s with bids := ps } : State).withDue ds := rfl

@[simp] theorem setBidCounter_withDue (s : State) (ds : List Due) (n : Stamp) :
    ({ s.withDue ds with bidCounter := n } : State) = ({ s with bidCounter := n } : State).withDue ds := rfl

/-- An operation over one place, taken for every place of a list, does not read what is due if it does not for one. -/
theorem foldl_withDue {α : Type} (f : State → α → State)
    (h : ∀ s ds a, f (s.withDue ds) a = (f s a).withDue ds) (xs : List α) (s : State) (ds : List Due) :
    xs.foldl f (s.withDue ds) = (xs.foldl f s).withDue ds := by
  induction xs generalizing s with
  | nil => rfl
  | cons a xs ih => rw [List.foldl_cons, List.foldl_cons, h, ih]

/-! ## The arbiter -/

@[simp] theorem preempt_withDue (s : State) (ds : List Due) (b : BridgeId) (who : Talker) (stamp : Stamp) :
    (s.withDue ds).preempt b who stamp = (s.preempt b who stamp).withDue ds := by
  simp only [State.preempt, bridge_withDue, spill_withDue, talkerPriority_withDue, grantTimer_withDue,
    updateBridge_withDue, raiseIf_withDue]; rfl

@[simp] theorem bid_withDue (s : State) (ds : List Due) (b : BridgeId) (who : Talker) :
    (s.withDue ds).bid b who = (s.bid b who).withDue ds := by
  cases who with
  | con =>
    simp only [State.bid, bidCounter_withDue, setBidCounter_withDue, bridge_withDue, updateBridge_withDue,
      preempt_withDue, talkerPriority_withDue, grantTimer_withDue]
    split <;> rfl
  | port p =>
    simp only [State.bid, bidCounter_withDue, setBidCounter_withDue, updateBridge_withDue, bridge_withDue,
      preempt_withDue, talkerPriority_withDue, grantTimer_withDue, record_withDue, effPriority_withDue,
      insertEntry_withDue]
    split
    · rfl
    · rw [apply_ite (State.withDue ds)]

@[simp] theorem release_withDue (s : State) (ds : List Due) (b : BridgeId) :
    (s.withDue ds).release b = (s.release b).withDue ds := by
  simp only [State.release, effPriority_withDue, freshTimer_withDue, updateBridge_withDue]; rfl

@[simp] theorem leavePlace_withDue (s : State) (ds : List Due) (b : BridgeId) (p : PortId) :
    (s.withDue ds).leavePlace b p = (s.leavePlace b p).withDue ds := by
  simp only [State.leavePlace, bridge_withDue, release_withDue, updateBridge_withDue,
    apply_ite (State.withDue ds)]

@[simp] theorem takePriority_withDue (s : State) (ds : List Due) (b : BridgeId) (p : PortId) :
    (s.withDue ds).takePriority b p = (s.takePriority b p).withDue ds := by
  simp only [State.takePriority, bridge_withDue, updateBridge_withDue, record_withDue, effPriority_withDue,
    sortQueue_withDue, preempt_withDue]
  cases (s.bridge b).holder with
  | none => rfl
  | some h =>
    rw [apply_ite (State.withDue ds)]
    cases (s.bridge b).queue.find? (·.port == p) with
    | none => rfl
    | some e => rw [apply_ite (State.withDue ds)]

/-! ## Engagement and the key machines -/

@[simp] theorem beginEngagement_withDue (s : State) (ds : List Due) (barred : Bool) (p : PortId) :
    (s.withDue ds).beginEngagement barred p = (s.beginEngagement barred p).withDue ds := by
  simp only [State.beginEngagement, port_withDue, updatePort_withDue, bids_withDue, setBids_withDue,
    apply_ite (State.withDue ds)]

@[simp] theorem endEngagement_withDue (s : State) (ds : List Due) (p : PortId) :
    (s.withDue ds).endEngagement p = (s.endEngagement p).withDue ds := by
  simp only [State.endEngagement, updatePort_withDue, memberOf_withDue, leavePlace_withDue]
  cases State.memberOf _ p <;> simp only [updatePort_withDue]

@[simp] theorem judgeEngagement_withDue (s : State) (ds : List Due) (barred : Bool) (p : PortId) :
    (s.withDue ds).judgeEngagement barred p = (s.judgeEngagement barred p).withDue ds := by
  simp only [State.judgeEngagement, port_withDue, beginEngagement_withDue, endEngagement_withDue,
    apply_ite (State.withDue ds)]

@[simp] theorem takeBid_withDue (s : State) (ds : List Due) (p : PortId) :
    (s.withDue ds).takeBid p = (s.takeBid p).withDue ds := by
  simp only [State.takeBid, memberOf_withDue, port_withDue, bridge_withDue, bid_withDue]
  cases s.memberOf p with
  | none => rfl
  | some b => rw [apply_ite (State.withDue ds)]

@[simp] theorem setKey_withDue (s : State) (ds : List Due) (p : PortId) (k : KeyState) (timing keyUp : Nat) :
    (s.withDue ds).setKey p k timing keyUp = (s.setKey p k timing keyUp).withDue ds := by simp [State.setKey]

@[simp] theorem enterKeyed_withDue (s : State) (ds : List Due) (p : PortId) :
    (s.withDue ds).enterKeyed p = (s.enterKeyed p).withDue ds := by simp [State.enterKeyed]

@[simp] theorem enterIdle_withDue (s : State) (ds : List Due) (barred : Bool) (p : PortId) :
    (s.withDue ds).enterIdle barred p = (s.enterIdle barred p).withDue ds := by simp [State.enterIdle]

@[simp] theorem enterBlank_withDue (s : State) (ds : List Due) (barred : Bool) (p : PortId) :
    (s.withDue ds).enterBlank barred p = (s.enterBlank barred p).withDue ds := by
  simp only [State.enterBlank, port_withDue, setKey_withDue, enterIdle_withDue, apply_ite (State.withDue ds)]

@[simp] theorem enterHang_withDue (s : State) (ds : List Due) (p : PortId) :
    (s.withDue ds).enterHang p = (s.enterHang p).withDue ds := by
  simp only [State.enterHang, port_withDue, setKey_withDue, enterBlank_withDue, apply_ite (State.withDue ds)]

@[simp] theorem enterDrain_withDue (s : State) (ds : List Due) (p : PortId) :
    (s.withDue ds).enterDrain p = (s.enterDrain p).withDue ds := by
  simp only [State.enterDrain, port_withDue, setKey_withDue, enterHang_withDue, apply_ite (State.withDue ds)]

@[simp] theorem judgeKey_withDue (s : State) (ds : List Due) (p : PortId) :
    (s.withDue ds).judgeKey p = (s.judgeKey p).withDue ds := by
  simp only [State.judgeKey, port_withDue, demand_withDue, overrideKey_withDue, setKey_withDue,
    enterKeyed_withDue, enterDrain_withDue]
  generalize (s.port p).key = k
  cases k <;> simp only [apply_ite (State.withDue ds)]

@[simp] theorem takeHandedBids_withDue (s : State) (ds : List Due) :
    (s.withDue ds).takeHandedBids = s.takeHandedBids.withDue ds := by
  unfold State.takeHandedBids
  rw [bids_withDue, setBids_withDue, foldl_withDue _ takeBid_withDue]

@[simp] theorem actKey_withDue (s : State) (ds : List Due) (p : PortId) :
    (s.withDue ds).actKey p = (s.actKey p).withDue ds := by simp [State.actKey]

@[simp] theorem actAll_withDue (s : State) (ds : List Due) : (s.withDue ds).actAll = s.actAll.withDue ds :=
  foldl_withDue _ actKey_withDue _ _ _

@[simp] theorem resolve_withDue (n : Nat) (s : State) (ds : List Due) :
    State.resolve n (s.withDue ds) = (State.resolve n s).withDue ds := by
  induction n generalizing s with
  | zero => rfl
  | succ n ih => unfold State.resolve; rw [keyResting_withDue, actAll_withDue, ih, apply_ite (State.withDue ds)]

/-- What an event hands on is handed on alike whatever is due. -/
@[simp] theorem handOn_withDue (s : State) (ds : List Due) : (s.withDue ds).handOn = s.handOn.withDue ds := by
  simp [State.handOn]

theorem enterCool_withDue (s : State) (ds : List Due) (p : PortId) :
    (s.withDue ds).enterCool p = (s.enterCool p).withDue ds := by
  simp only [State.enterCool, setKey_withDue, raise_withDue, judgeEngagement_withDue]

/-! ## The events of a completion and of a sample -/

theorem depart_withDue (s : State) (ds : List Due) (p : PortId) (life : Lifecycle) :
    (s.withDue ds).depart p life = (s.depart p life).withDue ds := by
  unfold State.depart
  dsimp only
  rw [updatePort_withDue, port_withDue]
  split <;> simp only [endEngagement_withDue, updatePort_withDue, handOn_withDue]

theorem activate_withDue (s : State) (ds : List Due) (p : PortId) :
    (s.withDue ds).activate p = (s.activate p).withDue ds := by
  unfold State.activate
  dsimp only
  rw [← handOn_withDue, ← updatePort_withDue]
  rfl

theorem cut_withDue (s : State) (ds : List Due) (b : BridgeId) (who : Talker) :
    (s.withDue ds).cut b who = (s.cut b who).withDue ds := by
  cases who with
  | con => simp only [State.cut, release_withDue, raise_withDue, handOn_withDue]
  | port p =>
    simp only [State.cut, port_withDue, updatePort_withDue]
    rw [← apply_ite (State.withDue ds), release_withDue, raise_withDue, handOn_withDue]

theorem talkTick_withDue (s : State) (ds : List Due) (b : BridgeId) :
    (s.withDue ds).talkTick b = (s.talkTick b).withDue ds := by
  simp only [State.talkTick, bridge_withDue, cut_withDue, setBridge_withDue]
  cases (s.bridge b).holder with
  | none => rfl
  | some h => exact (apply_ite (State.withDue ds) _ _ _).symm

theorem keyTick_withDue (s : State) (ds : List Due) (p : PortId) :
    (s.withDue ds).keyTick p = (s.keyTick p).withDue ds := by
  simp only [State.keyTick, port_withDue, setPort_withDue, enterCool_withDue, enterHang_withDue, enterBlank_withDue,
    enterIdle_withDue, judgeEngagement_withDue, ← apply_ite (State.withDue ds), handOn_withDue]

theorem takePresence_withDue (s : State) (ds : List Due) (p : PortId) :
    (s.withDue ds).takePresence p = (s.takePresence p).withDue ds := by
  simp only [State.takePresence, port_withDue, setPort_withDue, depart_withDue, activate_withDue]
  generalize (State.port _ p).lifecycle = life
  generalize (State.port _ p).present = present
  cases life <;> cases present <;> rfl

theorem requalify_withDue (s : State) (ds : List Due) (p : PortId) :
    (s.withDue ds).requalify p = (s.requalify p).withDue ds := by
  simp only [State.requalify, port_withDue, setPort_withDue, judgeEngagement_withDue, handOn_withDue]

theorem takeDue_withDue (s : State) (ds : List Due) (d : Due) :
    (s.withDue ds).takeDue d = (s.takeDue d).withDue ds := by
  cases d with
  | half b =>
    simp only [State.takeDue, State.turnLevel, bridge_withDue, setBridge_withDue]
    exact (apply_ite (State.withDue ds) _ _ _).symm
  | segment b =>
    simp only [State.takeDue, State.changeSegment, bridge_withDue, setBridge_withDue]
    exact (apply_ite (State.withDue ds) _ _ _).symm
  | burstEnd b =>
    simp only [State.takeDue, State.endBurst, bridge_withDue, setBridge_withDue, reportChange_withDue, handOn_withDue]
    exact (apply_ite (State.withDue ds) _ _ _).symm
  | window p =>
    simp only [State.takeDue, State.expireIdentity, port_withDue, setPort_withDue]
    exact (apply_ite (State.withDue ds) _ _ _).symm
  | age p =>
    simp only [State.takeDue, State.expireAssembly, State.setReceiver, port_withDue, setPort_withDue, raise_withDue]
    exact (apply_ite (State.withDue ds) _ _ _).symm
  | talk b => exact talkTick_withDue s ds b
  | key p => exact keyTick_withDue s ds p
  | presence p => exact takePresence_withDue s ds p
  | qualify p => exact requalify_withDue s ds p

theorem takeDue_due (s : State) (d : Due) : (s.takeDue d).due = s.due := by
  have due := congrArg State.due (takeDue_withDue s s.due d)
  exact due

end Sys2Proof.Machine
end

section
/-! SUPPORT. The events of a completion leave the reset line, the data lines and the commands that wait alone; so a
command that is no event takes what is due first, one event after the other (log entry 5). -/

namespace Sys2Proof.Machine

/-- What stands outside the part: the reset line, the levels of the data lines, the commands that wait. -/
def State.outer (s : State) : Bool × PortSet × List Instr := (s.inReset, s.dataLines, s.pending)

section
variable {s t : State}

theorem outer_of_backdrop (h : t.backdrop = s.backdrop) : t.outer = s.outer := by
  have outer := congrArg State.outer h
  exact outer

@[simp] theorem outer_setPort (s : State) (p : PortId) (q : Port) : (s.setPort p q).outer = s.outer := rfl

@[simp] theorem outer_setBridge (s : State) (b : BridgeId) (r : Bridge) : (s.setBridge b r).outer = s.outer := rfl

@[simp] theorem outer_updatePort (s : State) (p : PortId) (f : Port → Port) : (s.updatePort p f).outer = s.outer := by
  simp only [State.outer, State.updatePort_inReset, State.updatePort_dataLines, State.updatePort_pending]

@[simp] theorem outer_raise (s : State) (src : Source) (n : Nat) : (s.raise src n).outer = s.outer :=
  outer_of_backdrop (raise_backdrop s src n)

@[simp] theorem outer_handOn (s : State) : s.handOn.outer = s.outer := outer_of_backdrop (handOn_backdrop s)

theorem outer_depart (s : State) (p : PortId) (life : Lifecycle) : (s.depart p life).outer = s.outer := by
  rw [depart_eq, outer_handOn]
  unfold State.departed
  dsimp only
  rw [outer_updatePort]
  split
  · rw [outer_of_backdrop (endEngagement_backdrop _ p), outer_updatePort]
  · exact outer_updatePort ..

theorem outer_cut (s : State) (b : BridgeId) (who : Talker) : (s.cut b who).outer = s.outer := by
  rw [cut_eq, outer_handOn, outer_raise, State.cutPlace, outer_of_backdrop (release_backdrop _ b)]
  cases who with
  | con => rfl
  | port p =>
    unfold State.barHolder
    dsimp only
    split
    · exact outer_updatePort ..
    · rfl

theorem takeDue_outer (s : State) (d : Due) : (s.takeDue d).outer = s.outer := by
  cases d with
  | half b =>
    show (s.turnLevel b).outer = _
    unfold State.turnLevel
    dsimp only
    split <;> rfl
  | segment b =>
    show (s.changeSegment b).outer = _
    unfold State.changeSegment
    dsimp only
    split <;> rfl
  | burstEnd b =>
    show (s.endBurst b).outer = _
    unfold State.endBurst
    dsimp only
    split
    · rw [outer_handOn, outer_of_backdrop (reportChange_backdrop ..), outer_setBridge]
    · rfl
  | window p =>
    show (s.expireIdentity p).outer = _
    unfold State.expireIdentity
    split <;> rfl
  | age p =>
    show (s.expireAssembly p).outer = _
    unfold State.expireAssembly
    split
    · rw [outer_raise]
      rfl
    · rfl
  | talk b =>
    show (s.talkTick b).outer = _
    unfold State.talkTick
    split
    · rfl
    · split
      · exact outer_cut ..
      · rfl
  | key p => exact outer_of_backdrop (keyTick_backdrop s p)
  | presence p =>
    show (s.takePresence p).outer = _
    unfold State.takePresence
    dsimp only
    split
    · exact outer_depart ..
    · rw [activate_eq, outer_handOn]
      exact outer_updatePort ..
    all_goals rfl
  | qualify p =>
    show (s.requalify p).outer = _
    rw [requalify_eq, outer_handOn]
    unfold State.requalified
    rw [outer_of_backdrop (judgeEngagement_backdrop _ false p), outer_setPort]

theorem inReset_of_outer (h : t.outer = s.outer) : t.inReset = s.inReset := congrArg Prod.fst h

/-- RESET keeps of the part what stands outside it, and nothing else. -/
theorem assertReset_of_outer (h : t.outer = s.outer) : t.assertReset = s.assertReset := by
  have lines : t.dataLines = s.dataLines := congrArg (fun o => o.2.1) h
  have waiting : t.pending = s.pending := congrArg (fun o => o.2.2) h
  unfold State.assertReset
  rw [lines, waiting]

/-! ## What is due is taken first -/

theorem settle_of_cons {d : Due} {rest : List Due} (due : s.due = d :: rest) :
    (State.takeDue { s with due := rest } d).settle = s.settle := by
  have left : (State.takeDue { s with due := rest } d).due = rest := takeDue_due _ d
  have alone : ({ State.takeDue { s with due := rest } d with due := [] } : State)
      = State.takeDue { s with due := [] } d := (takeDue_withDue { s with due := rest } [] d).symm
  unfold State.settle
  rw [left, due, List.foldl_cons, alone]

theorem operate_of_cons {d : Due} {rest : List Due} (out : s.inReset = false) (due : s.due = d :: rest)
    (f : State → State) : operate f s = operate f (State.takeDue { s with due := rest } d) := by
  have stays : (State.takeDue { s with due := rest } d).inReset = false :=
    (inReset_of_outer (takeDue_outer { s with due := rest } d)).trans out
  unfold operate
  rw [settle_of_cons due, if_neg (by simp [out]), if_neg (by simp [stays])]

/-- A command that is no event acts on the state with what is due taken, or is RESET or its release. -/
theorem operates_of_other {c : Instr} (other : eventOf c = none) :
    (∃ f, exec c = operate f) ∨ c = .reset ∨ ∃ rate1 rate0 : Bool, c = .resetRelease rate1 rate0 := by
  cases c with
  | reset => exact .inr (.inl rfl)
  | resetRelease rate1 rate0 => exact .inr (.inr ⟨rate1, rate0, rfl⟩)
  | linkByteTaken b => exact .inl ⟨fun s => s.takeLinkByte b, rfl⟩
  | linkCharacterDiscarded => exact .inl ⟨fun s => { s with link := { s.link with lineWait := true } }, rfl⟩
  | linkLineWaitEnd => exact .inl ⟨fun s => { s with link := { s.link with lineWait := false } }, rfl⟩
  | _ => first | contradiction | exact .inl ⟨_, rfl⟩

/-- A command that is no event takes the first of what is due ahead of itself (log entry 5). -/
theorem exec_of_cons {c : Instr} {d : Due} {rest : List Due} (out : s.inReset = false) (due : s.due = d :: rest)
    (other : eventOf c = none) (stays : ∀ rate1 rate0 : Bool, c ≠ .resetRelease rate1 rate0) :
    exec c s = exec c (State.takeDue { s with due := rest } d) := by
  obtain ⟨f, operates⟩ | rfl | ⟨rate1, rate0, rfl⟩ := operates_of_other other
  · rw [operates]
    exact operate_of_cons out due f
  · exact congrArg Host.Outcome.next (assertReset_of_outer (takeDue_outer { s with due := rest } d)).symm
  · exact absurd rfl (stays rate1 rate0)

end

/-! ## Counts that reach no end -/

section
variable {s : State} {b : BridgeId} {p : PortId}

theorem talkTick_of_untimed (none : ∀ h : Holder, (s.bridge b).holder = some h → h.timer = none) :
    s.talkTick b = s := by
  unfold State.talkTick
  split
  · rfl
  · next h held =>
    have untimed := none h held
    have same : ({ h with timer := h.timer.map (· - 1) } : Holder) = h := by
      cases h
      cases untimed
      rfl
    have still : (s.bridge b).timerCounted = s.bridge b := by
      unfold Bridge.timerCounted
      rw [held, Option.map_some, same, ← held]
    rw [if_neg (by simp [Bridge.timerLast, held, untimed]), still]
    exact congrArg (fun v => { s with bridges := v }) (Vector.set_getElem_self b.isLt)

theorem talkTick_of_running {h : Holder} {n : Nat} (held : (s.bridge b).holder = some h) (timer : h.timer = some n)
    (more : 1 < n) : s.talkTick b
      = s.setBridge b { s.bridge b with holder := some { h with timer := some (n - 1) } } := by
  have short : ¬ n ≤ 1 := Nat.not_le.mpr more
  unfold State.talkTick
  simp [held, Bridge.timerLast, Bridge.timerCounted, timer, short]

/-- Where neither count has run out, the detector alone may turn on. -/
theorem requalified_of_short {q : Port} (carrier : q.carrierReached = false) (quiet : q.quietReached = false) :
    q.requalified = if q.voxLoud then { q with vox := true, quietCount := 0 } else q := by
  simp [Port.requalified, carrier, quiet]

end

/-! ## Which events a completion brings -/

section
variable {s t : State} {cs pres : PortSet} {late : Late} {p : PortId} {b : BridgeId} {q : Port}

theorem half_mem_brought : Due.half b ∉ s.brought pres late t := by
  unfold State.brought
  simp only [List.mem_append, mem_dueOf, reduceCtorEq, and_false, exists_false, or_false, not_false_eq_true]

theorem segment_mem_brought : Due.segment b ∈ s.brought pres late t ↔ (t.bridge b).segmentReached = true := by
  unfold State.brought
  simp only [List.mem_append, mem_dueOf, mem_allBridges, true_and, reduceCtorEq, and_false, exists_false,
    or_false, Due.segment.injEq, exists_eq_right]

theorem burstEnd_mem_brought : Due.burstEnd b ∈ s.brought pres late t ↔ (s.bridge b).burst = 1 := by
  unfold State.brought
  simp only [List.mem_append, mem_dueOf, mem_allBridges, true_and, reduceCtorEq, and_false, exists_false,
    false_or, or_false, Due.burstEnd.injEq, exists_eq_right, beq_iff_eq]

theorem window_mem_brought : Due.window p ∈ s.brought pres late t ↔ (t.port p).windowOver = true := by
  unfold State.brought
  simp only [List.mem_append, mem_dueOf, mem_allPorts, true_and, reduceCtorEq, and_false, exists_false,
    false_or, or_false, Due.window.injEq, exists_eq_right]

theorem age_mem_brought : Due.age p ∈ s.brought pres late t ↔ (t.port p).ageReached = true := by
  unfold State.brought
  simp only [List.mem_append, mem_dueOf, mem_allPorts, true_and, reduceCtorEq, and_false, exists_false,
    false_or, or_false, Due.age.injEq, exists_eq_right]

theorem presence_mem_brought : Due.presence p ∈ s.brought pres late t
    ↔ (s.port p).presenceReached (pres.getLsbD p) = true := by
  unfold State.brought
  simp only [List.mem_append, mem_dueOf, mem_allPorts, true_and, reduceCtorEq, and_false, exists_false,
    false_or, or_false, Due.presence.injEq, exists_eq_right]

theorem qualify_mem_brought : Due.qualify p ∈ s.brought pres late t
    ↔ qualifyLeft late p ((s.port p).sampling (pres.getLsbD p)) (t.port p) = true := by
  unfold State.brought qualifyLeft
  simp only [List.mem_append, mem_dueOf, mem_allPorts, true_and, reduceCtorEq, and_false, exists_false,
    false_or, or_false, Due.qualify.injEq, exists_eq_right]
  cases (s.port p).sampling (pres.getLsbD p) <;> cases (t.port p).carrierReached <;>
    cases (t.port p).quietReached <;> simp

/-! ## At which counts -/

theorem keyEventNext_iff : q.keyEventNext = true ↔
    (q.key = .keyed ∨ q.key = .drain ∨ q.key = .hang) ∧ q.limitNext
    ∨ q.key = .drain ∧ q.setup.lead ≤ q.timing + 1
    ∨ q.key = .hang ∧ q.setup.hang ≤ q.timing + 1
    ∨ q.key = .blank ∧ q.setup.blank ≤ q.timing + 1
    ∨ q.key = .cool ∧ (q.setup.cooldown * 250 ≤ q.timing + 1 ∨ q.setup.blank = q.timing + 1) := by
  have limit : q.keyCounted.limitReached = true ↔ q.key.asserted = true ∧ q.limitNext := by
    cases asserted : q.key.asserted with
    | true => simpa using limitReached_counted asserted
    | false => simp [limitReached_of_down asserted]
  unfold Port.keyEventNext
  simp only [Bool.or_eq_true, limit, asserted_iff, or_assoc]
  refine or_congr_right ?_
  cases key : q.key with
  | idle => simp [Port.drainOver, Port.hangOver, Port.blankOver, Port.cooldownOver, Port.coolBlankOver, key,
      keyCounted_key]
  | deferred =>
    simp [Port.drainOver, Port.hangOver, Port.blankOver, Port.cooldownOver, Port.coolBlankOver, key, keyCounted_key]
  | keyed => simp [Port.drainOver, Port.hangOver, Port.blankOver, Port.cooldownOver, Port.coolBlankOver, key,
      keyCounted_key]
  | drain => simp [Port.drainOver, Port.hangOver, Port.blankOver, Port.cooldownOver, Port.coolBlankOver, key,
      keyCounted_of_running (.inl key)]
  | hang => simp [Port.drainOver, Port.hangOver, Port.blankOver, Port.cooldownOver, Port.coolBlankOver, key,
      keyCounted_of_running (.inr key)]
  | blank => simp [Port.drainOver, Port.hangOver, Port.blankOver, Port.cooldownOver, Port.coolBlankOver, key,
      keyCounted_of_quiet (.inl key)]
  | cool =>
    simp [Port.drainOver, Port.hangOver, Port.blankOver, Port.cooldownOver, Port.coolBlankOver, key,
      keyCounted_of_quiet (.inr key), Config.framesPerSecond, eq_comm (a := q.timing + 1)]

theorem segmentReached_counted : ((s.counted cs pres late).bridge b).segmentReached = true
    ↔ (s.bridge b).burst ≠ 0 ∧ 25 ≤ (s.bridge b).phase.frames + 1 := by
  rw [counted_bridge, segmentReached_iff, completed_burst, completed_phase]
  by_cases silent : (s.bridge b).burst = 0
  · simp [silent]
  · simp [silent]
    split <;> omega

theorem windowOver_counted : ((s.counted cs pres late).port p).windowOver = true
    ↔ ∃ i : PendingIdentity, (s.port p).pendingId = some i ∧ i.window ≤ 1 := by
  obtain ⟨-, -, -, pendingId, -⟩ := counted_engaged s cs pres late p
  rw [Port.windowOver, pendingId]
  cases (s.port p).pendingId with
  | none => simp
  | some i => simp [Nat.sub_eq_zero_iff_le]

theorem ageReached_counted : ((s.counted cs pres late).port p).ageReached = true
    ↔ ∃ (held : List Byte) (age : Nat), (s.port p).receiver = .assembling held age ∧ 25 ≤ age + 1 := by
  obtain ⟨-, -, -, -, receiver, -⟩ := counted_kept s cs pres late p
  rw [Port.ageReached, receiver]
  cases (s.port p).receiver with
  | idle => simp [Receiver.aged]
  | hunting => simp [Receiver.aged]
  | assembling held age => simp [Receiver.aged, Config.assemblyAge]

theorem presenceReached_iff {high : Bool} : q.presenceReached high = true
    ↔ throughPolarity q.setup.presencePolarity high ≠ q.present ∧ q.presenceCount = 1 := by
  simp [Port.presenceReached, Port.presenceDiffers]

/-- Which change of a counted port's qualifiers is left to be taken as an event (R12, R13). -/
theorem qualifyLeft_counted :
    qualifyLeft late p ((s.port p).sampling (pres.getLsbD p)) ((s.counted cs pres late).port p) = true
    ↔ (s.port p).sampling (pres.getLsbD p) = true
      ∧ ((s.port p).setup.csDebounce + 1 ≤ (s.port p).carrierNext (cs.getLsbD p)
        ∨ ((s.port p).vox = true ∧ (s.port p).voxSum / frameLength s.mixer.rate < (s.port p).setup.voxThreshold
          ∧ (s.port p).setup.voxHold ≤ (s.port p).quietCount)
        ∨ ((s.port p).vox = false ∧ (s.port p).setup.voxThreshold ≤ (s.port p).voxSum / frameLength s.mixer.rate
          ∧ late.vox.getLsbD p = true)) := by
  obtain ⟨setup, lifecycle, vox, level, carrier, quiet⟩ := counted_qualifiers s cs pres late p
  rw [qualifyLeft, Bool.and_eq_true]
  refine and_congr_right fun sampled => ?_
  have active := (sampling_iff.mp sampled).1
  rw [Port.carrierReached, Port.quietReached, Port.voxLoud, setup, lifecycle, vox, level, carrier, quiet, sampled,
    if_pos rfl, if_pos rfl, Port.quietNext]
  generalize (s.port p).voxSum / frameLength s.mixer.rate = heard
  by_cases on : (s.port p).vox = true ∧ heard < (s.port p).setup.voxThreshold
  · obtain ⟨on, soft⟩ := on
    simp [on, soft]
  · rw [if_neg on]
    have never : ¬ ((s.port p).vox = true ∧ heard < (s.port p).setup.voxThreshold
        ∧ (s.port p).setup.voxHold ≤ (s.port p).quietCount) := fun h => on ⟨h.1, h.2.1⟩
    simp [never, active, and_assoc]

end

/-- Settles O35: the events are those of the list of a completion, each test read by the counts before it; what is due
is
taken alike before and after the others; and a count short of its end is a write of its count. -/
theorem frameCompletionBringsItsEvents : Obligations.FrameCompletionBringsItsEvents := by
  refine ⟨fun s c d out => ⟨fun names away => ?_, fun names there => ?_, fun rest other stays due => ?_⟩,
    fun s b => ⟨talkTick_of_untimed, fun h n held timer more => ⟨_, rfl, talkTick_of_running held timer more⟩⟩,
    ?_, ?_, ?_⟩
  · obtain ⟨comesAbout, taken⟩ := exec_of_eventOf names
    rw [taken]
    exact event_of_not (.inl away)
  · obtain ⟨comesAbout, taken⟩ := exec_of_eventOf names
    rw [taken]
    cases comes : comesAbout s with
    | true => exact .inr (event_of_due out there comes)
    | false => exact .inl (event_of_not (.inr comes))
  · exact exec_of_cons out due other stays
  · intro s u p up timing rfl rfl counts
    refine ⟨fun still => ?_, fun short => ?_, fun key short => ?_, fun key short is => ?_⟩
    · show s.keyTick p = _
      rw [keyTick_eq, keyReached_of_still still]
    · have below : ¬ (s.port p).limitNext := by
        rintro ⟨limited, reached⟩
        exact short.elim limited (Nat.not_lt.mpr reached)
      refine ⟨fun key => ?_, fun running => ?_⟩
      · show s.keyTick p = _
        rw [keyTick_eq, keyReached_of_keyed key below]
        rfl
      · show s.keyTick p = _
        rw [keyTick_eq, keyReached_of_running running below]
        rfl
    · show s.keyTick p = _
      rw [keyTick_eq, keyReached_of_blanking key short]
      rfl
    · show s.keyTick p = _
      rw [keyTick_eq, keyReached_of_cooling key short, is]
      rfl
  · rintro s u p carrier quiet rfl
    have steady : (s.port p).carrierReached = false := decide_eq_false (Nat.not_le.mpr carrier)
    have holding : (s.port p).quietReached = false := decide_eq_false (Nat.not_le.mpr quiet)
    show s.requalify p = _
    rw [State.requalify, requalified_of_short steady holding]
    by_cases loud : (s.port p).lifecycle = .active ∧ (s.port p).vox = false
        ∧ (s.port p).setup.voxThreshold ≤ (s.port p).voxLevel
    · rw [if_pos loud, if_pos (by simpa [Port.voxLoud, and_assoc] using loud)]
      rfl
    · rw [if_neg loud, if_neg (by simpa [Port.voxLoud, and_assoc] using loud), setPort_self]
  · intro s t f cs pres late calm runs frame full taken
    have run : exec (.frameCompletion cs pres late) s = .next (s.completeFrame cs pres late) :=
      (operate_of_calm calm _).trans (congrArg _ (endFrame_of_complete runs frame full))
    have is : t = s.completeFrame cs pres late := by rw [run] at taken; injection taken with eq; exact eq.symm
    have due : t.due = s.brought pres late (s.counted cs pres late) := by rw [is, completeFrame_due]
    rw [due]
    refine ⟨fun b => ⟨half_mem_brought, segment_mem_brought.trans segmentReached_counted, burstEnd_mem_brought,
      talk_mem_brought.trans (or_congr_right timerLast_iff)⟩, ?_⟩
    rintro p present changes level up rfl rfl rfl rfl
    refine ⟨window_mem_brought.trans windowOver_counted, age_mem_brought.trans ageReached_counted,
      presence_mem_brought.trans presenceReached_iff, qualify_mem_brought.trans (qualifyLeft_counted.trans ?_),
      key_mem_brought.trans ?_⟩
    · rw [sampling_iff, and_assoc]
      rfl
    · rw [keyLeft, Bool.or_eq_true]
      exact or_congr_right keyEventNext_iff

end Sys2Proof.Machine
end

section
/-! SUPPORT. The holder records and the queues under the effective priorities as they now stand
  (R72, R74, R76): what the
arbiter's operations and the key machines keep, while a change of priority has yet to be handed on. -/

namespace Sys2Proof.Machine

/-! ## Orders that leave some ports out -/

/-- The entry may stand ahead of the other in falling order, where the ports of `H` are left out. -/
def State.falls (H : PortId → Prop) (s : State) (x y : QueueEntry) : Prop :=
  H x.port ∨ H y.port ∨ s.effPriority y.port ≤ s.effPriority x.port

section
variable {s t : State} {H : PortId → Prop} {b : BridgeId} {p : PortId} {who : Talker} {stamp : Stamp}

theorem falls_of_ordered {x y : QueueEntry} (h : s.ordered x y) : s.falls H x y := by
  refine .inr (.inr ?_)
  rcases h with higher | ⟨same, -⟩
  · exact higher.le
  · exact same.ge

/-- An insertion keeps the order, where none that is left out is outranked. -/
theorem falls_insertEntry (bounded : ∀ p, s.effPriority p ≤ 4) (top : ∀ p, H p → s.effPriority p = 4) (e : QueueEntry)
    {q : List QueueEntry} (hq : q.Pairwise (s.falls H)) : (s.insertEntry e q).Pairwise (s.falls H) := by
  induction q with
  | nil => exact List.pairwise_singleton _ _
  | cons x xs ih =>
    obtain ⟨first, rest⟩ := List.pairwise_cons.mp hq
    unfold State.insertEntry
    split
    · next ahead =>
      refine List.pairwise_cons.mpr ⟨fun y hy => ?_, ih rest⟩
      rcases mem_insertEntry.mp hy with rfl | later
      · exact falls_of_ordered (ordered_of_goesAhead ahead)
      · exact first y later
    · next behind =>
      have below : s.effPriority x.port ≤ s.effPriority e.port := by
        simp only [State.goesAhead, Bool.or_eq_true, decide_eq_true_eq, not_or, Nat.not_lt] at behind
        exact behind.1
      refine List.pairwise_cons.mpr ⟨fun y hy => ?_, hq⟩
      rcases List.mem_cons.mp hy with rfl | later
      · exact .inr (.inr below)
      · rcases first y later with out | out | lower
        · have highest := top _ out
          have bound := bounded y.port
          exact .inr (.inr (by omega))
        · exact .inr (.inl out)
        · exact .inr (.inr (lower.trans below))

theorem falls_spilled (bounded : ∀ p, s.effPriority p ≤ 4) (top : ∀ p, H p → s.effPriority p = 4)
    (stack : List StackEntry) {q : List QueueEntry} (hq : q.Pairwise (s.falls H)) :
    (s.spilled stack q).2.Pairwise (s.falls H) := by
  unfold State.spilled State.spill
  split
  · split
    · split
      · exact falls_insertEntry bounded top _ hq
      · exact hq
    · exact hq
  · exact hq

theorem falls_sortQueue (s : State) (q : List QueueEntry) : (s.sortQueue q).Pairwise (s.falls H) :=
  (pairwise_sortQueue s q).imp falls_of_ordered

/-! ## Records and queues after an operation -/

theorem release_record {h : Holder} (held : ((s.release b).bridge b).holder = some h) :
    h.priority = s.talkerPriority h.who := by
  cases release_cases s b with
  | freed _ _ result => rw [result] at held; cases held
  | resumed e below _ _ result => rw [result] at held; cases held; rfl
  | granted x behind _ _ result => rw [result] at held; cases held; rfl

theorem release_queue (s : State) (b : BridgeId) : ((s.release b).bridge b).queue.Sublist (s.bridge b).queue := by
  cases release_cases s b with
  | freed _ _ result => rw [result]; exact List.nil_sublist _
  | resumed e below _ _ result => rw [result]
  | granted x behind queue _ result => rw [result, queue]; exact List.sublist_cons_self _ _

theorem actsOn_leavePlace (s : State) (b : BridgeId) (p : PortId) : s.actsOn b (s.leavePlace b p) := by
  unfold State.leavePlace
  split
  · exact actsOn_release s b
  · exact actsOn_updateBridge s b _

theorem leavePlace_record {h : Holder} (held : ((s.leavePlace b p).bridge b).holder = some h) :
    h.priority = s.talkerPriority h.who ∨ (s.bridge b).holder = some h := by
  unfold State.leavePlace at held
  split at held
  · exact .inl (release_record held)
  · rw [State.bridge_updateBridge_same] at held
    exact .inr held

theorem leavePlace_queue (s : State) (b : BridgeId) (p : PortId) :
    ((s.leavePlace b p).bridge b).queue.Sublist (s.bridge b).queue := by
  unfold State.leavePlace
  split
  · exact release_queue s b
  · rw [State.bridge_updateBridge_same]
    exact List.filter_sublist

theorem bid_record {h : Holder} (held : ((s.bid b who).bridge b).holder = some h) :
    h.priority = s.talkerPriority h.who ∨ (s.bridge b).holder = some h := by
  cases before : (s.bridge b).holder with
  | none =>
    rw [bid_bridge_of_free before] at held
    cases held
    exact .inl rfl
  | some x =>
    by_cases above : s.outranked b who x
    · rw [bid_bridge_of_outranked before above] at held
      cases held
      left
      cases who <;> rfl
    · cases who with
      | con => exact absurd (.inl rfl) above
      | port p =>
        rw [bid_bridge_of_under before above] at held
        exact .inr (before.symm.trans held)

theorem bid_queue (bounded : ∀ p, s.effPriority p ≤ 4) (top : ∀ p, H p → s.effPriority p = 4)
    (hq : (s.bridge b).queue.Pairwise (s.falls H)) : ((s.bid b who).bridge b).queue.Pairwise (s.falls H) := by
  cases before : (s.bridge b).holder with
  | none => rw [bid_bridge_of_free before]; exact hq
  | some x =>
    by_cases above : s.outranked b who x
    · rw [bid_bridge_of_outranked before above]
      exact falls_spilled (s := { s with bidCounter := s.bidCounter + 1 }) bounded top _ hq
    · cases who with
      | con => exact absurd (.inl rfl) above
      | port p =>
        rw [bid_bridge_of_under before above]
        exact falls_insertEntry (s := { s with bidCounter := s.bidCounter + 1 }) bounded top _ hq

/-- After a new effective priority at its arbiter the port's own record is true. -/
theorem takePriority_record {h : Holder} (held : ((s.takePriority b p).bridge b).holder = some h) :
    h.priority = s.talkerPriority h.who ∨ h.who ≠ .port p ∧ (s.bridge b).holder = some h := by
  cases takePriority_cases s b p with
  | unplaced absent result =>
    rw [result] at held
    exact .inr ⟨(absent h held).1, held⟩
  | holding x before who result =>
    rw [result, State.bridge_updateBridge_same] at held
    cases held
    exact .inl (by rw [who]; rfl)
  | resorted x e before who _ _ result =>
    rw [result, State.bridge_updateBridge_same] at held
    have same : x = h := Option.some.inj (before.symm.trans held)
    exact .inr ⟨same ▸ who, held⟩
  | preempts x e before who queued above =>
    rw [takePriority_bridge_of_outranked before who queued above] at held
    cases held
    exact .inl rfl

/-- A queue that holds the port is put in order as a whole; another keeps the order that it has. -/
theorem takePriority_queue (bounded : ∀ p, s.effPriority p ≤ 4)
    (top : ∀ p, H p → s.effPriority p = 4)
    (other : (∀ h, (s.bridge b).holder = some h → h.who = .port p ∨ ∀ e ∈ (s.bridge b).queue, e.port ≠ p) →
      (s.bridge b).queue.Pairwise (s.falls H)) :
    ((s.takePriority b p).bridge b).queue.Pairwise (s.falls H) := by
  cases takePriority_cases s b p with
  | unplaced absent result => rw [result]; exact other fun h held => .inr (absent h held).2
  | holding x before who result =>
    rw [result, State.bridge_updateBridge_same]
    refine other fun h held => .inl ?_
    rw [before] at held
    cases held
    exact who
  | resorted x e before who _ _ result =>
    rw [result, State.bridge_updateBridge_same]
    exact falls_sortQueue s _
  | preempts x e before who queued above =>
    rw [takePriority_bridge_of_outranked before who queued above]
    exact falls_spilled bounded top _ ((falls_sortQueue s _).sublist List.filter_sublist)

end

/-! ## All bridges -/

/-- The rule of places, true holder records and falling queues. `stale` names the ports whose record may yet carry an
older priority, by port, current unit and that priority; `H` those whose place in the queue may yet be another. The
  queues
are spoken of where `wide` holds. -/
structure State.tracks (wide : Prop) (S : PortId → Prop) (stale : PortId → Option UnitId → Nat → Prop)
    (H : PortId → Prop) (s : State) : Prop where
  seated : s.seated S
  range : wide → s.settingsInRange
  filled : wide → s.freeBridgesEmpty
  records : ∀ (b : BridgeId) (h : Holder), (s.bridge b).holder = some h → h.priority = s.talkerPriority h.who
    ∨ ∃ p, h.who = .port p ∧ stale p (s.port p).unit h.priority
  queues : wide → ∀ b : BridgeId, (s.bridge b).queue.Pairwise (s.falls H)

/-- The ports whose place in the queue may yet be another are each in emergency, so that none is ahead of them. -/
structure State.inOrder (wide : Prop) (S : PortId → Prop) (stale : PortId → Option UnitId → Nat → Prop)
    (H : PortId → Prop) (s : State) : Prop extends toTracks : s.tracks wide S stale H where
  top : wide → ∀ p, H p → (s.port p).emergency ≠ .none

section
variable {wide : Prop} {S S' : PortId → Prop} {stale : PortId → Option UnitId → Nat → Prop} {H : PortId → Prop}
  {s t : State} {b : BridgeId} {p : PortId}

theorem State.inOrder.top_four (hs : s.inOrder wide S stale H) (w : wide) (p : PortId) (h : H p) :
    s.effPriority p = 4 := by
  cases emergency : (s.port p).emergency with
  | none => exact absurd emergency (hs.top w p h)
  | active source => exact effPriority_of_active emergency

theorem hasPlace_of_holder {h : Holder} (held : (s.bridge b).holder = some h) (who : h.who = .port p) :
    (s.bridge b).hasPlace p = true := (hasPlace_iff _ p).mpr (.inl ⟨h, held, who⟩)

theorem hasPlace_of_queued {e : QueueEntry} (queued : e ∈ (s.bridge b).queue) : (s.bridge b).hasPlace e.port = true :=
  (hasPlace_iff _ _).mpr (.inr (.inr ⟨e, queued, rfl⟩))

/-- Records that are fresh or were there, queues in the order of the priorities before, and those priorities kept for
all that have a place. -/
theorem inOrder_of (seated : t.seated S) (range : wide → t.settingsInRange) (filled : wide → t.freeBridgesEmpty)
    (record : ∀ (b : BridgeId) (h : Holder), (t.bridge b).holder = some h → h.priority = t.talkerPriority h.who
      ∨ ∃ x, (s.bridge b).holder = some x ∧ x.who = h.who ∧ x.priority = h.priority)
    (ports : ∀ (b : BridgeId) (p : PortId), (t.bridge b).hasPlace p = true → t.effPriority p = s.effPriority p
      ∧ ∀ n, stale p (s.port p).unit n → stale p (t.port p).unit n)
    (emergency : ∀ p, (s.port p).emergency ≠ .none → (t.port p).emergency ≠ .none)
    (queue : wide → ∀ b : BridgeId, (t.bridge b).queue.Pairwise (s.falls H))
    (hs : s.inOrder wide S' stale H) : t.inOrder wide S stale H where
  seated := seated
  range := range
  filled := filled
  records b h held := by
    rcases record b h held with fresh | ⟨x, before, who, priority⟩
    · exact .inl fresh
    · rcases hs.records b x before with true_ | ⟨p, is, old⟩
      · left
        rw [← priority, true_, who]
        cases is : h.who with
        | con => rfl
        | port p => exact ((ports b p (hasPlace_of_holder held is)).1).symm
      · rw [who] at is
        rw [priority] at old
        exact .inr ⟨p, is, (ports b p (hasPlace_of_holder held is)).2 _ old⟩
  top w p h := emergency p (hs.top w p h)
  queues w b := by
    refine (queue w b).imp_of_mem fun hx hy falls => ?_
    unfold State.falls
    rw [(ports b _ (hasPlace_of_queued hx)).1, (ports b _ (hasPlace_of_queued hy)).1]
    exact falls

theorem State.actsOn.settingsInRange (h : s.actsOn b t) (hs : s.settingsInRange) : t.settingsInRange := by
  rw [h.frame]
  exact hs

/-- An operation on one bridge. -/
theorem inOrder_of_actsOn (h : s.actsOn b t) (seated : t.seated S) (filled : wide → (t.bridge b).freeEmpty)
    (record : ∀ x : Holder, (t.bridge b).holder = some x → x.priority = s.talkerPriority x.who
      ∨ (s.bridge b).holder = some x)
    (queue : wide → (t.bridge b).queue.Pairwise (s.falls H)) (hs : s.inOrder wide S' stale H) :
    t.inOrder wide S stale H := by
  refine inOrder_of seated (fun w => h.settingsInRange (hs.range w)) (fun w c => ?_) (fun c x held => ?_)
    (fun c p _ => ⟨h.effPriority p, fun n old => by rw [h.port p]; exact old⟩)
    (fun p active => by rw [h.port p]; exact active) (fun w c => ?_) hs
  · by_cases here : c = b
    · rw [here]; exact filled w
    · rw [h.other c here]; exact hs.filled w c
  · by_cases here : c = b
    · subst here
      rw [h.talkerPriority]
      exact (record x held).imp_right fun before => ⟨x, before, rfl, rfl⟩
    · rw [h.other c here] at held
      exact .inr ⟨x, held, rfl, rfl⟩
  · by_cases here : c = b
    · rw [here]; exact queue w
    · rw [h.other c here]; exact hs.queues w c

theorem freeEmpty_of_seat {r r' : Bridge} (h : r'.seat = r.seat) (hr : r.freeEmpty) : r'.freeEmpty := by
  obtain ⟨holder, stack, queue⟩ : _ ∧ _ ∧ _ := by simpa only [Bridge.seat, Prod.mk.injEq] using h
  intro free
  rw [free, Option.map_none, eq_comm, Option.map_eq_none_iff] at holder
  obtain ⟨noStack, noQueue⟩ := hr holder
  rw [noStack, List.map_nil, List.map_eq_nil_iff] at stack
  rw [noQueue, List.map_nil, List.map_eq_nil_iff] at queue
  exact ⟨stack, queue⟩

/-- Who holds a bridge, and under which recorded priority. -/
def Bridge.recorded (r : Bridge) : Option (Talker × Nat) := r.holder.map fun h => (h.who, h.priority)

theorem recorded_of_holder {r r' : Bridge} (h : r'.holder = r.holder) : r'.recorded = r.recorded := by
  rw [Bridge.recorded, Bridge.recorded, h]

/-- Changes of nothing that records, queues and priorities read, where the rule of places is kept. -/
theorem inOrder_of_seated (seated : t.seated S) (seat : ∀ b : BridgeId, (t.bridge b).seat = (s.bridge b).seat)
    (range : s.settingsInRange → t.settingsInRange)
    (recorded : ∀ b : BridgeId, (t.bridge b).recorded = (s.bridge b).recorded)
    (queue : ∀ b : BridgeId, (t.bridge b).queue = (s.bridge b).queue) (eff : ∀ p, t.effPriority p = s.effPriority p)
    (ports : ∀ p : PortId, (t.port p).unit = (s.port p).unit ∧ (t.port p).emergency = (s.port p).emergency)
    (hs : s.inOrder wide S stale H) : t.inOrder wide S stale H := by
  refine inOrder_of seated (fun w => range (hs.range w)) (fun w b => freeEmpty_of_seat (seat b) (hs.filled w b))
    (fun b h held => ?_) (fun b p _ => ⟨eff p, fun n old => by rw [(ports p).1]; exact old⟩)
    (fun p active => by rw [(ports p).2]; exact active) (fun w b => by rw [queue]; exact hs.queues w b) hs
  have same := recorded b
  rw [Bridge.recorded, held, Option.map_some, eq_comm, Bridge.recorded, Option.map_eq_some_iff] at same
  obtain ⟨x, before, is⟩ := same
  rw [Prod.mk.injEq] at is
  exact .inr ⟨x, before, is.1, is.2⟩

/-- Changes of nothing that places, records, queues and priorities read. -/
theorem inOrder_of_same (seats : s.sameSeats t) (range : s.settingsInRange → t.settingsInRange)
    (recorded : ∀ b : BridgeId, (t.bridge b).recorded = (s.bridge b).recorded)
    (queue : ∀ b : BridgeId, (t.bridge b).queue = (s.bridge b).queue) (eff : ∀ p, t.effPriority p = s.effPriority p)
    (ports : ∀ p : PortId, (t.port p).unit = (s.port p).unit ∧ (t.port p).emergency = (s.port p).emergency)
    (hs : s.inOrder wide S stale H) : t.inOrder wide S stale H :=
  inOrder_of_seated (seated_of_sameSeats seats hs.seated) seats.seat range recorded queue eff ports hs

/-- Changes outside the ports, the bridges and the directory. -/
theorem inOrder_of_parts (seats : s.sameSeats t) (range : s.settingsInRange → t.settingsInRange)
    (bridges : t.places = s.places) (ports : t.ports = s.ports) (dir : t.dir = s.dir)
    (hs : s.inOrder wide S stale H) : t.inOrder wide S stale H := by
  have parts := places_bridge bridges
  exact inOrder_of_same seats range (fun b => recorded_of_holder (parts b).1) (fun b => (parts b).2.2)
    (fun p => effPriority_of_dir (port_of_ports ports p) dir)
    (fun p => by rw [port_of_ports ports]; exact ⟨rfl, rfl⟩) hs

theorem bid_held (s : State) (b : BridgeId) (who : Talker) : ∃ x, ((s.bid b who).bridge b).holder = some x := by
  cases before : (s.bridge b).holder with
  | none => exact ⟨_, by rw [bid_bridge_of_free before]⟩
  | some x =>
    by_cases above : s.outranked b who x
    · exact ⟨_, by rw [bid_bridge_of_outranked before above]; rfl⟩
    · cases who with
      | con => exact absurd (.inl rfl) above
      | port p => exact ⟨x, by rw [bid_bridge_of_under before above]; exact before⟩

theorem inOrder_bid (b : BridgeId) (who : Talker) (seated : (s.bid b who).seated S)
    (hs : s.inOrder wide S' stale H) : (s.bid b who).inOrder wide S stale H := by
  have filled (_ : wide) : ((s.bid b who).bridge b).freeEmpty := freeEmpty_of_held (bid_held s b who).choose_spec
  have queue (w : wide) : ((s.bid b who).bridge b).queue.Pairwise (s.falls H) :=
    bid_queue (fun p => effPriority_le_four (hs.range w) p) (hs.top_four w) (hs.queues w b)
  have counted : ({ s with bidCounter := s.bidCounter + 1 } : State).inOrder wide S' stale H :=
    inOrder_of_parts (s := s) (sameSeats_of_ports rfl rfl rfl rfl) (settingsInRange_kept.same
      (s := s) rfl) rfl rfl rfl hs
  have acts := actsOn_bid s b who
  have priority (w : Talker) : ({ s with bidCounter := s.bidCounter + 1 } : State).talkerPriority w
      = s.talkerPriority w := by cases w <;> rfl
  refine inOrder_of_actsOn acts seated filled (fun x held => ?_) queue counted
  rw [priority]
  exact (bid_record held).imp_right id

theorem inOrder_release (b : BridgeId) (seated : (s.release b).seated S) (hs : s.inOrder wide S' stale H) :
    (s.release b).inOrder wide S stale H :=
  inOrder_of_actsOn (actsOn_release s b) seated (fun w => keptInBridge_freeEmpty.release s b (hs.filled w b))
    (fun _ held => .inl (release_record held)) (fun w => (hs.queues w b).sublist (release_queue s b)) hs

theorem effPriority_updatePort_ne (f : Port → Port) {r : PortId} (h : r ≠ p) :
    (s.updatePort p f).effPriority r = s.effPriority r :=
  effPriority_of_dir (by rw [port_updatePort, if_neg h]) (State.updatePort_dir ..)

theorem effPriority_updatePort {f : Port → Port} (emergency : (f (s.port p)).emergency = (s.port p).emergency)
    (priority : (f (s.port p)).setup.priority = (s.port p).setup.priority)
    (unit : (f (s.port p)).unit = (s.port p).unit) (r : PortId) :
    (s.updatePort p f).effPriority r = s.effPriority r := by
  by_cases here : r = p
  · subst here
    have dir : (s.updatePort r f).dir = s.dir := State.updatePort_dir ..
    refine effPriority_of_override_same ?_ ?_ ?_
    · rw [State.port_updatePort_same, emergency]
    · rw [State.port_updatePort_same, priority]
    · rw [State.port_updatePort_same, unit, State.overrideFor, State.overrideFor, dir]
  · exact effPriority_updatePort_ne f here

/-- A change of one port that has no place. -/
theorem inOrder_unplaced {f : Port → Port} (seated : (s.updatePort p f).seated S)
    (unplaced : ∀ b : BridgeId, (s.bridge b).hasPlace p = false)
    (setup : (f (s.port p)).setup = (s.port p).setup) (emergency : (f (s.port p)).emergency = (s.port p).emergency)
    (hs : s.inOrder wide S' stale H) : (s.updatePort p f).inOrder wide S stale H := by
  have bridges := bridge_of_bridges (State.updatePort_bridges s p f)
  refine inOrder_of seated (fun w => settingsInRange_kept.updatePort setup (hs.range w)) (fun w b => ?_)
    (fun b h held => ?_) (fun b r place => ?_) (fun r active => ?_) (fun w b => ?_) hs
  · rw [bridges]; exact hs.filled w b
  · rw [bridges] at held; exact .inr ⟨h, held, rfl, rfl⟩
  · rw [bridges] at place
    have other : r ≠ p := by
      rintro rfl
      rw [unplaced b] at place
      cases place
    exact ⟨effPriority_updatePort_ne f other, fun n old => by rwa [port_updatePort, if_neg other]⟩
  · rw [port_updatePort]
    split
    · next here => rw [emergency, ← here]; exact active
    · exact active
  · rw [bridges]; exact hs.queues w b

/-- A change of one port in nothing that its priority depends on. -/
theorem inOrder_updatePort {f : Port → Port} (engaged : (f (s.port p)).engaged = (s.port p).engaged)
    (bar : (f (s.port p)).bar = (s.port p).bar) (setup : (f (s.port p)).setup = (s.port p).setup)
    (emergency : (f (s.port p)).emergency = (s.port p).emergency) (unit : (f (s.port p)).unit = (s.port p).unit)
    (hs : s.inOrder wide S stale H) : (s.updatePort p f).inOrder wide S stale H := by
  have parts := places_bridge (places_updatePort s p f)
  refine inOrder_of_same (sameSeats_updatePort engaged bar) (settingsInRange_kept.updatePort setup)
    (fun b => recorded_of_holder (parts b).1) (fun b => (parts b).2.2)
    (effPriority_updatePort emergency (by rw [setup]) unit) (fun r => ?_) hs
  rw [port_updatePort]
  split
  · next here => rw [unit, emergency, ← here]; exact ⟨rfl, rfl⟩
  · exact ⟨rfl, rfl⟩

theorem inOrder_beginEngagement (barred : Bool) (off : (s.port p).engaged = false) (hs : s.inOrder wide S stale H) :
    (s.beginEngagement barred p).inOrder wide S stale H := by
  have seated := seated_beginEngagement barred off hs.seated
  have unplaced := unplaced_of_silent hs.seated off
  -- the bid on its way is no part of what records and queues read
  have begun (f : Port → Port) (setup : (f (s.port p)).setup = (s.port p).setup)
      (emergency : (f (s.port p)).emergency = (s.port p).emergency) (bids : List PortId)
      (sat : ({ s.updatePort p f with bids := bids } : State).seated S) :
      ({ s.updatePort p f with bids := bids } : State).inOrder wide S stale H := by
    have bridges (b : BridgeId) : ({ s.updatePort p f with bids := bids } : State).bridge b = s.bridge b :=
      bridge_of_bridges (State.updatePort_bridges s p f) b
    have port (r : PortId) : ({ s.updatePort p f with bids := bids } : State).port r
        = if r = p then f (s.port p) else s.port r := port_updatePort s p r f
    refine inOrder_of sat (fun w => ?_) (fun w b => ?_) (fun b h held => ?_) (fun b r place => ?_) (fun r active => ?_)
      (fun w b => ?_) hs
    · exact settingsInRange_kept.same (s := s.updatePort p f) rfl (settingsInRange_kept.updatePort setup (hs.range w))
    · rw [bridges]; exact hs.filled w b
    · rw [bridges] at held; exact .inr ⟨h, held, rfl, rfl⟩
    · rw [bridges] at place
      have other : r ≠ p := by
        rintro rfl
        rw [unplaced b] at place
        cases place
      refine ⟨effPriority_updatePort_ne (s := s) f other, fun n old => ?_⟩
      rw [port, if_neg other]
      exact old
    · rw [port]
      split
      · next here => rw [emergency, ← here]; exact active
      · exact active
    · rw [bridges]; exact hs.queues w b
  unfold State.beginEngagement at seated ⊢
  dsimp only at seated ⊢
  split
  · next stopped =>
    rw [if_pos stopped] at seated
    exact inOrder_unplaced seated unplaced rfl rfl hs
  · next free =>
    rw [if_neg free] at seated
    exact begun _ rfl rfl _ seated

/-- What the end of an engagement leaves: the other ports, the directory, and each bridge but that of the port. -/
theorem endEngagement_parts (s : State) (p : PortId) : (∀ r, r ≠ p → (s.endEngagement p).port r = s.port r)
    ∧ (s.endEngagement p).dir = s.dir ∧ ∀ b : BridgeId, (s.endEngagement p).bridge b = s.bridge b
      ∨ (s.endEngagement p).bridge b
        = ((s.updatePort p fun q => { q with engaged := false }).leavePlace b p).bridge b := by
  have bridges (b : BridgeId) : (s.updatePort p fun q => { q with engaged := false }).bridge b = s.bridge b :=
    bridge_of_bridges (State.updatePort_bridges ..) b
  refine ⟨fun r other => ?_, ?_, fun b => ?_⟩
  · unfold State.endEngagement
    dsimp only
    rw [port_updatePort, if_neg other]
    split
    · rw [port_of_ports (leavePlace_ports ..), port_updatePort, if_neg other]
    · rw [port_updatePort, if_neg other]
  · have dir := congrArg State.dir (endEngagement_backdrop s p)
    exact dir
  · unfold State.endEngagement
    dsimp only
    rw [bridge_of_bridges (State.updatePort_bridges ..)]
    split
    · next c _ =>
      by_cases here : b = c
      · subst here
        exact .inr rfl
      · exact .inl (((actsOn_leavePlace _ c p).other b here).trans (bridges b))
    · exact .inl (bridges b)

theorem inOrder_endEngagement (p : PortId) (hs : s.inOrder wide S stale H) :
    (s.endEngagement p).inOrder wide S stale H := by
  have seated := seated_endEngagement p hs.seated
  have off : ((s.endEngagement p).port p).engaged = false := by
    have engaged := congrArg Port.engaged (portMoves_endEngagement s p).core
    exact engaged
  have unplaced := unplaced_of_silent seated off
  obtain ⟨ports, dir, bridges⟩ := endEngagement_parts s p
  have eff (r : PortId) (other : r ≠ p) : (s.endEngagement p).effPriority r = s.effPriority r :=
    effPriority_of_dir (ports r other) dir
  have placed (b : BridgeId) (r : PortId) (place : ((s.endEngagement p).bridge b).hasPlace r = true) : r ≠ p := by
    rintro rfl
    rw [unplaced b] at place
    cases place
  refine inOrder_of seated (fun w => settingsInRange_kept.backdrop (endEngagement_backdrop s p) (hs.range w))
    (fun w b => ?_) (fun b h held => ?_) (fun b r place => ⟨eff r (placed b r place), fun n old => by
      rw [ports r (placed b r place)]; exact old⟩) (fun r active => ?_) (fun w b => ?_) hs
  · rcases bridges b with same | left
    · rw [same]; exact hs.filled w b
    · rw [left]
      refine keptInBridge_freeEmpty.leaves b p (fun c => ?_) b
      rw [bridge_of_bridges (State.updatePort_bridges ..)]
      exact hs.filled w c
  · rcases bridges b with same | left
    · rw [same] at held; exact .inr ⟨h, held, rfl, rfl⟩
    · have before := held
      rw [left] at before
      rcases leavePlace_record before with fresh | there
      · left
        rw [fresh]
        cases who : h.who with
        | con => rfl
        | port r =>
          have other := placed b r (hasPlace_of_holder held who)
          exact (effPriority_updatePort_ne _ other).trans (eff r other).symm
      · rw [bridge_of_bridges (State.updatePort_bridges ..)] at there
        exact .inr ⟨h, there, rfl, rfl⟩
  · have kept := congrArg (fun v : State => (v.port r).emergency) (endEngagement_backdrop s p)
    have kept : ((s.endEngagement p).port r).emergency = (s.port r).emergency := by
      simpa [State.backdrop, State.port, Port.backdrop] using kept
    rw [kept]; exact active
  · rcases bridges b with same | left
    · rw [same]; exact hs.queues w b
    · rw [left]
      refine List.Pairwise.sublist (leavePlace_queue _ b p) ?_
      rw [bridge_of_bridges (State.updatePort_bridges ..)]
      exact hs.queues w b

theorem inOrder_takeBid (p : PortId) (hs : s.inOrder wide (fun r => S r ∨ r = p) stale H) :
    (s.takeBid p).inOrder wide S stale H := by
  have seated := seated_takeBid p hs.seated
  rcases takeBid_cases s p with same | ⟨b, -, -, -, -, bid⟩
  · rw [same] at seated ⊢
    exact { hs with seated := seated }
  · rw [bid] at seated ⊢
    exact inOrder_bid b _ seated hs

theorem State.inOrder.mono (hs : s.inOrder wide S stale H) (more : ∀ p, S p → S' p) : s.inOrder wide S' stale H :=
  { hs with seated := hs.seated.mono more }

theorem inOrder_foldl_takeBid (ps : List PortId) (hs : s.inOrder wide (fun r => S r ∨ r ∈ ps) stale H) :
    (ps.foldl (fun s p => s.takeBid p) s).inOrder wide S stale H := by
  induction ps generalizing s with
  | nil => exact hs.mono fun p is => is.resolve_right nofun
  | cons p ps ih =>
    refine ih (inOrder_takeBid p (hs.mono fun r is => ?_))
    rcases is with is | is
    · exact .inl (.inl is)
    · exact (List.mem_cons.mp is).elim .inr fun later => .inl (.inr later)

theorem inOrder_takeHandedBids (hs : s.inOrder wide S stale H) : s.takeHandedBids.inOrder wide S stale H := by
  have begun : ({ s with bids := [] } : State).seated fun r => S r ∨ r ∈ s.bids := { hs.seated with
    taken := fun p b out engaged bar member => .inl ((hs.seated.taken p b (fun is => out (.inl is)) engaged bar
      member).resolve_right fun later => out (.inr later)) }
  exact inOrder_foldl_takeBid s.bids (s := { s with bids := [] }) { hs with seated := begun }

/-- Records and queues under engagements, key states and bids. -/
theorem inOrder_keying (wide : Prop) (S : PortId → Prop) (stale : PortId → Option UnitId → Nat → Prop)
    (H : PortId → Prop) : KeptByKeying (State.inOrder wide S stale H) where
  setKey _ _ _ _ _ hs := inOrder_updatePort rfl rfl rfl rfl rfl hs
  beginEngagement _ barred _ off hs := inOrder_beginEngagement barred off hs
  endEngagement _ p _ hs := inOrder_endEngagement p hs
  keyLimit s _ hs := inOrder_of_parts (sameSeats_raise s _ _) (settingsInRange_kept.backdrop (raise_backdrop ..))
    (places_raise ..) (State.raise_ports ..) (State.raise_dir ..) hs
  takeHandedBids _ hs := inOrder_takeHandedBids hs

end

end Sys2Proof.Machine
end

section
/-! SUPPORT. A port's new effective priority handed to its arbiter makes its record true and its queue ordered (R76,
R77). -/

namespace Sys2Proof.Machine

section
variable {wide : Prop} {S : PortId → Prop} {stale : PortId → Option UnitId → Nat → Prop} {H : PortId → Prop}
  {s t u : State} {b : BridgeId} {p : PortId} {old : Nat}

/-- The records that are stale, and that of `p` at an old priority. -/
def staleAt (p : PortId) (old : Nat) (stale : PortId → Option UnitId → Nat → Prop) (r : PortId) (u : Option UnitId)
    (n : Nat) : Prop := stale r u n ∨ r = p ∧ n = old

/-- The ports whose place in the queue may be another, and `p` where its priority is no longer the old one. -/
def loose (s : State) (p : PortId) (old : Nat) (H : PortId → Prop) (r : PortId) : Prop :=
  H r ∨ r = p ∧ s.effPriority p ≠ old

/-- `p` has no place at all: whatever record or place was its own is gone. -/
theorem inOrder_of_unplaced (unplaced : ∀ b : BridgeId, (s.bridge b).hasPlace p = false)
    (hs : s.tracks wide S (staleAt p old stale) (loose s p old H))
    (top : wide → ∀ r, H r → (s.port r).emergency ≠ .none) : s.inOrder wide S stale H where
  seated := hs.seated
  range := hs.range
  filled := hs.filled
  records b h held := by
    refine (hs.records b h held).imp_right ?_
    rintro ⟨r, who, is | ⟨rfl, -⟩⟩
    · exact ⟨r, who, is⟩
    · have place := hasPlace_of_holder held who
      rw [unplaced b] at place
      cases place
  top := top
  queues w b := by
    have out {e : QueueEntry} (there : e ∈ (s.bridge b).queue) (is : loose s p old H e.port) : H e.port := by
      refine is.resolve_right fun own => ?_
      have place := hasPlace_of_queued there
      rw [own.1, unplaced b] at place
      cases place
    exact (hs.queues w b).imp_of_mem fun hx hy falls =>
      falls.imp (out hx) (Or.imp_left (out hy))

/-- The priority of `p` is the old one. -/
theorem inOrder_of_unchanged (same : s.effPriority p = old)
    (hs : s.tracks wide S (staleAt p old stale) (loose s p old H))
    (top : wide → ∀ r, H r → (s.port r).emergency ≠ .none) : s.inOrder wide S stale H where
  seated := hs.seated
  range := hs.range
  filled := hs.filled
  records b h held := by
    rcases hs.records b h held with is | ⟨r, who, is | ⟨rfl, n⟩⟩
    · exact .inl is
    · exact .inr ⟨r, who, is⟩
    · exact .inl (by rw [n, who, ← same]; rfl)
  top := top
  queues w b := by
    have out {r : PortId} (is : loose s p old H r) : H r := is.resolve_right fun own => own.2 same
    exact (hs.queues w b).imp fun falls => falls.imp out (Or.imp_left out)

/-- The own arbiter of `p` has taken its priority. -/
theorem inOrder_takePriority_own (member : s.memberOf p = some b)
    (hs : s.tracks wide S (staleAt p old stale) (loose s p old H))
    (top : wide → ∀ r, H r → (s.port r).emergency ≠ .none) : (s.takePriority b p).inOrder wide S stale H := by
  have acts := actsOn_takePriority s b p
  have alone (c : BridgeId) (place : (s.bridge c).hasPlace p = true) : c = b := by
    have own := memberOf_of_hasPlace hs.seated place
    rw [member] at own
    exact (Option.some.inj own).symm
  have high (w : wide) (r : PortId) (is : H r) : s.effPriority r = 4 := by
    cases emergency : (s.port r).emergency with
    | none => exact absurd emergency (top w r is)
    | active source => exact effPriority_of_active emergency
  -- a queue without `p` keeps its order
  have without (w : wide) (c : BridgeId) (absent : ∀ e ∈ (s.bridge c).queue, e.port ≠ p) :
      (s.bridge c).queue.Pairwise (s.falls H) :=
    (hs.queues w c).imp_of_mem fun hx hy falls =>
      falls.imp (·.resolve_right fun own => absent _ hx own.1) (Or.imp_left
        (·.resolve_right fun own => absent _ hy own.1))
  refine {
    seated := seated_takePriority b p hs.seated, range := fun w => acts.settingsInRange (hs.range w), filled := ?_
    records := ?_, queues := ?_, top := fun w r is => (acts.port r).symm ▸ top w r is }
  · intro w c
    by_cases here : c = b
    · rw [here]; exact keptInBridge_freeEmpty.takePriority s b p (hs.filled w b)
    · rw [acts.other c here]; exact hs.filled w c
  · intro c h held
    rw [acts.talkerPriority]
    have before (there : (s.bridge c).holder = some h) (other : h.who ≠ .port p) :
        h.priority = s.talkerPriority h.who
        ∨ ∃ r, h.who = .port r ∧ stale r ((s.takePriority b p).port r).unit h.priority := by
      refine (hs.records c h there).imp_right ?_
      rintro ⟨r, who, is | ⟨rfl, -⟩⟩
      · exact ⟨r, who, by rw [acts.port]; exact is⟩
      · exact absurd who other
    by_cases here : c = b
    · subst here
      rcases takePriority_record held with fresh | ⟨other, there⟩
      · exact .inl fresh
      · exact before there other
    · rw [acts.other c here] at held
      exact before held fun who => here (alone c (hasPlace_of_holder held who))
  · intro w c
    refine List.Pairwise.imp (R := s.falls H) (fun falls => ?_) ?_
    · unfold State.falls
      rw [acts.effPriority, acts.effPriority]
      exact falls
    by_cases here : c = b
    · subst here
      refine takePriority_queue (fun r => effPriority_le_four (hs.range w) r) (high w) fun absent => ?_
      cases held : (s.bridge c).holder with
      | none =>
        rw [(hs.filled w c held).2]
        exact .nil
      | some h =>
        refine without w c ?_
        rcases absent h held with who | absent
        · rintro e there rfl
          exact not_waits_of_heldBy (hs.seated.once c) ⟨h, held, who⟩ (.inr ⟨e, there, rfl⟩)
        · exact absent
    · rw [acts.other c here]
      refine without w c fun e there is => here (alone c ?_)
      rw [← is]
      exact hasPlace_of_queued there

theorem inOrder_handPriority (hs : s.tracks wide S (staleAt p old stale) (loose s p old H))
    (top : wide → ∀ r, H r → (s.port r).emergency ≠ .none) : (s.handPriority p old).inOrder wide S stale H := by
  unfold State.handPriority
  split
  · next skipped =>
    rw [Bool.or_eq_true, decide_eq_true_eq, Bool.not_eq_true'] at skipped
    rcases skipped with same | off
    · exact inOrder_of_unchanged same hs top
    · exact inOrder_of_unplaced (unplaced_of_silent hs.seated off) hs top
  · split
    · next b member => exact (inOrder_keying wide S stale H).handOn (inOrder_takePriority_own member hs top)
    · next none =>
      refine inOrder_of_unplaced (fun b => ?_) hs top
      by_contra place
      rw [memberOf_of_hasPlace hs.seated (Bool.eq_true_of_not_eq_false place)] at none
      cases none

end

end Sys2Proof.Machine
end

section
/-! SUPPORT. A port whose effective priority changes, by an identity, an emergency or a setup, keeps records true and
queues in order once its arbiter has taken it (R27 to R31, R76, R158 to R169). -/

namespace Sys2Proof.Machine

section
variable {wide : Prop} {S : PortId → Prop} {s t u v : State} {b : BridgeId} {p : PortId} {old : Nat}

/-- The rule of places, true holder records and, where `wide` holds, ordered queues. -/
def State.settled (wide : Prop) (S : PortId → Prop) (s : State) : Prop :=
  s.inOrder wide S (fun _ _ _ => False) (fun _ => False)

/-- Of what records and queues read, the priority of `p` alone has changed. -/
structure State.changedAt (p : PortId) (s t : State) : Prop where
  seats : s.sameSeats t
  range : s.settingsInRange → t.settingsInRange
  recorded : ∀ b : BridgeId, (t.bridge b).recorded = (s.bridge b).recorded
  queue : ∀ b : BridgeId, (t.bridge b).queue = (s.bridge b).queue
  eff : ∀ r, r ≠ p → t.effPriority r = s.effPriority r

theorem State.changedAt.trans (h : s.changedAt p t) (h' : t.changedAt p u) : s.changedAt p u where
  seats := h.seats.trans h'.seats
  range hs := h'.range (h.range hs)
  recorded b := (h'.recorded b).trans (h.recorded b)
  queue b := (h'.queue b).trans (h.queue b)
  eff r other := (h'.eff r other).trans (h.eff r other)

/-- Only the own record of `p` may be stale, and only its own place in a queue another. -/
theorem tracks_of_changedAt (h : s.changedAt p t) (hs : s.settled wide S) :
    t.tracks wide S (staleAt p (s.effPriority p) fun _ _ _ => False) (loose t p (s.effPriority p) fun _ => False) where
  seated := seated_of_sameSeats h.seats hs.seated
  range w := h.range (hs.range w)
  filled w b := freeEmpty_of_seat (h.seats.seat b) (hs.filled w b)
  records b x held := by
    have same := h.recorded b
    rw [Bridge.recorded, held, Option.map_some, eq_comm, Bridge.recorded, Option.map_eq_some_iff] at same
    obtain ⟨y, before, is⟩ := same
    rw [Prod.mk.injEq] at is
    obtain ⟨who, priority⟩ := is
    have true_ := (hs.records b y before).resolve_right nofun
    rw [priority, who] at true_
    cases port : x.who with
    | con => exact .inl (by rw [true_, port]; rfl)
    | port r =>
      rw [port] at true_
      by_cases here : r = p
      · subst here
        exact .inr ⟨r, rfl, .inr ⟨rfl, true_⟩⟩
      · exact .inl (true_.trans (h.eff r here).symm)
  queues w b := by
    rw [h.queue]
    refine (hs.queues w b).imp fun {x y} falls => ?_
    have falls := (falls.resolve_left id).resolve_left id
    by_cases same : t.effPriority p = s.effPriority p
    · have all (r : PortId) : t.effPriority r = s.effPriority r := by
        by_cases here : r = p
        · rw [here, same]
        · exact h.eff r here
      exact .inr (.inr (by rw [all, all]; exact falls))
    · unfold State.falls
      by_cases own : x.port = p
      · exact .inl (.inr ⟨own, same⟩)
      · by_cases own' : y.port = p
        · exact .inr (.inl (.inr ⟨own', same⟩))
        · exact .inr (.inr (by rw [h.eff _ own, h.eff _ own']; exact falls))

/-- The changed priority is handed on at once. -/
theorem settled_handPriority (h : s.changedAt p t) (hs : s.settled wide S) :
    (t.handPriority p (s.effPriority p)).settled wide S :=
  inOrder_handPriority (tracks_of_changedAt h hs) nofun

/-! ## An emergency, in which much may come before its priority is handed on -/

/-- `p` is in emergency, and its new priority has yet to be handed on. -/
structure State.alarmed (wide : Prop) (S : PortId → Prop) (p : PortId) (old : Nat) (s : State) : Prop extends
    toInOrder : s.inOrder wide S (staleAt p old fun _ _ _ => False) (fun r => r = p ∧ old ≠ 4) where
  active : (s.port p).emergency ≠ .none

theorem effPriority_of_alarm (active : (s.port p).emergency ≠ .none) : s.effPriority p = 4 := by
  cases emergency : (s.port p).emergency with
  | none => exact absurd emergency active
  | active source => exact effPriority_of_active emergency

theorem alarmed_of_changedAt (h : s.changedAt p t) (active : (t.port p).emergency ≠ .none) (hs : s.settled wide S) :
    t.alarmed wide S p (s.effPriority p) where
  toTracks := by
    have all := tracks_of_changedAt h hs
    refine { all with queues := fun w b => (all.queues w b).imp fun falls => ?_ }
    have own {r : PortId} (is : loose t p (s.effPriority p) (fun _ => False) r) : r = p ∧ s.effPriority p ≠ 4 := by
      obtain ⟨here, other⟩ := is.resolve_left id
      rw [effPriority_of_alarm active] at other
      exact ⟨here, other.symm⟩
    exact falls.imp own (Or.imp_left own)
  top _ r is := by rw [is.1]; exact active
  active := active

theorem settled_of_alarmed (hs : s.alarmed wide S p old) : (s.handPriority p old).settled wide S := by
  refine inOrder_handPriority (S := S) { hs.toTracks with
    queues := fun w b => (hs.queues w b).imp fun falls => ?_ } nofun
  have own {r : PortId} (is : r = p ∧ old ≠ 4) : loose s p old (fun _ => False) r := by
    refine .inr ⟨is.1, ?_⟩
    rw [effPriority_of_alarm hs.active]
    exact is.2.symm
  exact falls.imp own (Or.imp_left own)

theorem alarmed_handOn (hs : s.alarmed wide S p old) : s.handOn.alarmed wide S p old where
  toInOrder := (inOrder_keying wide S _ _).handOn hs.toInOrder
  active := by
    have emergency := congrArg Port.emergency (port_backdrop_of_backdrop (handOn_backdrop s) p)
    have same : (s.handOn.port p).emergency = (s.port p).emergency := emergency
    rw [same]
    exact hs.active

theorem burstStarted_ports (s : State) (b : BridgeId) : (s.burstStarted b).ports = s.ports := by
  unfold State.burstStarted
  dsimp only
  split
  · exact State.reportChange_ports ..
  · rfl

theorem alarmed_startBurst (b : BridgeId) (hs : s.alarmed wide S p old) : (s.startBurst b).alarmed wide S p old := by
  rw [startBurst_eq]
  refine alarmed_handOn ⟨inOrder_of_parts (sameSeats_burstStarted s b) (settingsInRange_kept.burstStarted s b)
    (places_burstStarted s b) (burstStarted_ports s b) (burstStarted_dir s b) hs.toInOrder, ?_⟩
  rw [port_of_ports (burstStarted_ports s b)]
  exact hs.active

/-- A change of `p` in what neither its place nor its range depends on. -/
theorem changedAt_updatePort {f : Port → Port} (engaged : (f (s.port p)).engaged = (s.port p).engaged)
    (bar : (f (s.port p)).bar = (s.port p).bar) (setup : (f (s.port p)).setup = (s.port p).setup) :
    s.changedAt p (s.updatePort p f) := by
  have parts := places_bridge (places_updatePort s p f)
  exact ⟨sameSeats_updatePort engaged bar, settingsInRange_kept.updatePort setup,
    fun b => recorded_of_holder (parts b).1, fun b => (parts b).2.2, fun r => effPriority_updatePort_ne f⟩

/-- The alert bursts of a port in emergency, whose new priority is then handed on. -/
theorem alarmed_enterEmergency (h : s.changedAt p t) (source : Option UnitId) (hs : s.settled wide S) :
    (t.enterEmergency p source).alarmed wide S p (s.effPriority p) := by
  have entered : (t.updatePort p fun q => { q with emergency := .active source }).alarmed wide S p (s.effPriority p) :=
    alarmed_of_changedAt (h.trans (changedAt_updatePort rfl rfl rfl))
      (by rw [State.port_updatePort_same]; exact nofun) hs
  unfold State.enterEmergency
  dsimp only
  split
  · exact KeptByOperations.foldl (f := State.startBurst) (fun _ b hs => alarmed_startBurst b hs) _ entered
  · exact entered

theorem alarmed_takeEmergency (h : s.changedAt p t) (x : UnitId) (hs : s.settled wide S) :
    (t.takeEmergency p x).alarmed wide S p (s.effPriority p) := by
  unfold State.takeEmergency
  split
  · exact alarmed_enterEmergency h _ hs
  · exact alarmed_of_changedAt (h.trans (changedAt_updatePort rfl rfl rfl))
      (by rw [State.port_updatePort_same]; exact nofun) hs

theorem changedAt_takeIdentity (s : State) (p : PortId) (x : UnitId) : s.changedAt p (s.takeIdentity p x) :=
  changedAt_updatePort (by split <;> rfl) (by split <;> rfl) (by split <;> rfl)

/-- The identity of a port in emergency changes nothing of its priority. -/
theorem alarmed_takeIdentity (x : UnitId) (hs : s.alarmed wide S p old) :
    (s.takeIdentity p x).alarmed wide S p old := by
  have changed := changedAt_takeIdentity s p x
  have emergency (r : PortId) : ((s.takeIdentity p x).port r).emergency = (s.port r).emergency := by
    unfold State.takeIdentity
    rw [port_updatePort]
    split
    · next here => rw [here]; split <;> rfl
    · rfl
  have active : ((s.takeIdentity p x).port p).emergency ≠ .none := by rw [emergency]; exact hs.active
  have eff (r : PortId) : (s.takeIdentity p x).effPriority r = s.effPriority r := by
    by_cases here : r = p
    · rw [here, effPriority_of_alarm active, effPriority_of_alarm hs.active]
    · exact changed.eff r here
  have parts := places_bridge (places_updatePort s p fun q =>
    if q.engaged then { q with unit := some x } else { q with pendingId := some ⟨x, Config.identityWindow⟩ })
  refine ⟨inOrder_of (seated_of_sameSeats changed.seats hs.seated) (fun w => changed.range (hs.range w))
    (fun w b => freeEmpty_of_seat (changed.seats.seat b) (hs.filled w b)) (fun b h held => ?_)
    (fun b r _ => ⟨eff r, fun n is => is⟩) (fun r is => by rw [emergency]; exact is)
    (fun w b => by rw [changed.queue]; exact hs.queues w b) hs.toInOrder, active⟩
  have holder : ((s.takeIdentity p x).bridge b).holder = (s.bridge b).holder := (parts b).1
  rw [holder] at held
  exact .inr ⟨h, held, rfl, rfl⟩

/-! ## The reports and the requests of an emergency -/

theorem changedAt_of_same (seats : s.sameSeats t) (range : s.settingsInRange → t.settingsInRange)
    (places : t.places = s.places) (eff : ∀ r, t.effPriority r = s.effPriority r) : s.changedAt p t := by
  have parts := places_bridge places
  exact ⟨seats, range, fun b => recorded_of_holder (parts b).1, fun b => (parts b).2.2, fun r _ => eff r⟩

theorem dirReport_ports (s : State) (p : PortId) (x : UnitId) : (s.dirReport p x).ports = s.ports := by
  unfold State.dirReport
  split
  · rfl
  · split
    · rfl
    · exact State.raise_ports ..

theorem changedAt_dirReport (rule : s.directoryRule) (p q : PortId) {x : UnitId} (valid : validUnit x = true) :
    s.changedAt q (s.dirReport p x) := by
  refine changedAt_of_same (sameSeats_dirReport s p x) (settingsInRange_kept.dirReport s p x valid)
    (places_dirReport s p x) fun r => ?_
  exact effPriority_congr (port_of_ports (dirReport_ports s p x) r) (overrideFor_dirReport rule p valid _)

theorem changedAt_flagUnit (rule : s.directoryRule) (q : PortId) (x : UnitId) (on : Bool) :
    s.changedAt q (s.flagUnit x on) :=
  changedAt_of_same (s := s) (sameSeats_of_ports rfl rfl rfl rfl) (settingsInRange_kept.flagUnit s x on) rfl fun _ =>
    effPriority_congr rfl (overrideFor_flagUnit rule x on _)

/-- A change of no priority at all. -/
theorem settled_of_unchanged (h : ∀ q, s.changedAt q t) (hs : s.settled wide S) : t.settled wide S := by
  have eff (r : PortId) : t.effPriority r = s.effPriority r := by
    by_cases here : r = 0
    · exact (h 1).eff r (by rw [here]; decide)
    · exact (h 0).eff r here
  have same := tracks_of_changedAt (h 0) hs
  exact inOrder_of_unchanged (eff 0) same nofun

theorem settled_acceptIdent (rule : s.directoryRule) (p : PortId) {x : UnitId} (valid : validUnit x = true)
    (hs : s.settled wide S) : (s.acceptIdent p x).settled wide S := by
  have changed : s.changedAt p ((s.dirReport p x).takeIdentity p x) :=
    (changedAt_dirReport rule p p valid).trans (changedAt_takeIdentity _ p x)
  unfold State.acceptIdent
  dsimp only
  split
  · exact settled_of_alarmed (alarmed_takeEmergency changed x hs)
  · exact settled_handPriority changed hs

theorem settled_acceptEmerg (rule : s.directoryRule) (p : PortId) {x : UnitId} (valid : validUnit x = true)
    (hs : s.settled wide S) : (s.acceptEmerg p x).settled wide S := by
  have changed : s.changedAt p ((s.dirReport p x).flagUnit x true) :=
    (changedAt_dirReport rule p p valid).trans (changedAt_flagUnit (directoryRule_dirReport valid rule) p x true)
  exact settled_of_alarmed (alarmed_takeIdentity x (alarmed_takeEmergency changed x hs))

theorem settled_declared (p : PortId) (hs : s.settled wide S) :
    ((s.enterEmergency p none).handPriority p (s.effPriority p)).settled wide S :=
  settled_of_alarmed (alarmed_enterEmergency (changedAt_of_same (sameSeats_refl s) id rfl fun _ => rfl) none hs)

theorem settled_leaveEmergency (p : PortId) (hs : s.settled wide S) : (s.leaveEmergency p).settled wide S :=
  settled_handPriority (changedAt_updatePort rfl rfl rfl) hs

theorem settled_leaveAllSourced (x : UnitId) (hs : s.settled wide S) : (s.leaveAllSourced x).settled wide S := by
  refine KeptByOperations.foldl (fun s p hs => ?_) _ hs
  split
  · exact settled_leaveEmergency p hs
  · exact hs

theorem settled_leaveUnit (rule : s.directoryRule) (x : UnitId) (hs : s.settled wide S) :
    ((s.flagUnit x false).leaveAllSourced x).settled wide S :=
  settled_leaveAllSourced x (settled_of_unchanged (fun q => changedAt_flagUnit rule q x false) hs)

theorem settled_acceptEmergClear (rule : s.directoryRule) (p : PortId) {x : UnitId} (valid : validUnit x = true)
    (hs : s.settled wide S) : (s.acceptEmergClear p x).settled wide S :=
  settled_leaveUnit (directoryRule_dirReport valid rule) x
    (settled_of_unchanged (fun q => changedAt_dirReport rule p q valid) hs)

/-- A new setup, whose base priority is handed on at once (R2). -/
theorem settled_writeSetup (p : PortId) {f : SetupFields} {new : Setup} (read : readSetup f = some new)
    (hs : s.settled wide S) : (s.writeSetup p new).settled wide S := by
  have parts := places_bridge (places_setPort s p { s.port p with setup := new })
  refine settled_handPriority ⟨sameSeats_setPort rfl rfl, settingsInRange_kept.setup s p f new read,
    fun b => recorded_of_holder (parts b).1, fun b => (parts b).2.2, fun r other => ?_⟩ hs
  exact effPriority_of_dir (State.port_setPort_ne s _ other.symm) rfl

end

end Sys2Proof.Machine
end

section
/-! SUPPORT. Records and queues over every event (R72, R74, R76, R85, R88). -/

namespace Sys2Proof.Machine

section
variable {wide : Prop} {S : PortId → Prop} {stale : PortId → Option UnitId → Nat → Prop} {H : PortId → Prop}
  {s t : State} {b : BridgeId} {p : PortId}

/-- What of a port its effective priority depends on. -/
def Port.priced (q : Port) : Emergency × Nat × Option UnitId := (q.emergency, q.setup.priority, q.unit)

theorem priced_iff {q q' : Port} : q'.priced = q.priced
    ↔ q'.emergency = q.emergency ∧ q'.setup.priority = q.setup.priority ∧ q'.unit = q.unit := by
  simp only [Port.priced, Prod.mk.injEq]

/-- Changes of ports in nothing that a priority depends on, and of bridges in nothing but times. -/
theorem inOrder_of_priced (seats : s.sameSeats t) (range : s.settingsInRange → t.settingsInRange)
    (recorded : ∀ b : BridgeId, (t.bridge b).recorded = (s.bridge b).recorded)
    (queue : ∀ b : BridgeId, (t.bridge b).queue = (s.bridge b).queue)
    (priced : ∀ p : PortId, (t.port p).priced = (s.port p).priced)
    (override : ∀ x, t.overrideFor x = s.overrideFor x) (hs : s.inOrder wide S stale H) : t.inOrder wide S stale H := by
  refine inOrder_of_same seats range recorded queue (fun p => ?_) (fun p => ?_) hs <;>
    obtain ⟨emergency, priority, unit⟩ := priced_iff.mp (priced p)
  · exact effPriority_of_override_same emergency priority (by rw [unit, override])
  · exact ⟨unit, emergency⟩

theorem inOrder_of_view (h : t.view = s.view) (hs : s.inOrder wide S stale H) : t.inOrder wide S stale H := by
  have parts := places_bridge (places_of_view h)
  refine inOrder_of_priced (sameSeats_of_view h) (settingsInRange_kept.same (rest_of_view h))
    (fun b => recorded_of_holder (parts b).1) (fun b => (parts b).2.2) (fun p => ?_) (fun x => ?_) hs
  · have ports : t.view.ports = s.view.ports := by rw [h]
    have views : (t.port p).view = (s.port p).view := by
      simpa [State.view, State.port] using congrArg (fun v : Vector Port 12 => v[p]) ports
    have priced := congrArg Port.priced views
    exact priced
  · have dir := rest_dir (rest_of_view h)
    simp only [State.overrideFor, dir]

theorem inOrder_setPort {q : Port} (engaged : q.engaged = (s.port p).engaged) (bar : q.bar = (s.port p).bar)
    (setup : q.setup = (s.port p).setup) (emergency : q.emergency = (s.port p).emergency)
    (unit : q.unit = (s.port p).unit) (hs : s.inOrder wide S stale H) : (s.setPort p q).inOrder wide S stale H := by
  refine inOrder_of_priced (sameSeats_setPort engaged bar) (settingsInRange_kept.same (rest_setPort setup))
    (fun _ => rfl) (fun _ => rfl) (fun r => ?_) (fun _ => rfl) hs
  rw [port_setPort]
  split
  · next here =>
    rw [here]
    exact priced_iff.mpr ⟨emergency, by rw [setup], unit⟩
  · rfl

theorem inOrder_raise (src : Source) (n : Nat) (hs : s.inOrder wide S stale H) :
    (s.raise src n).inOrder wide S stale H :=
  inOrder_of_parts (sameSeats_raise s src n) (settingsInRange_kept.backdrop (raise_backdrop s src n)) (places_raise ..)
    (State.raise_ports ..) (State.raise_dir ..) hs

/-! ## Counts -/

theorem recorded_of_counted (r : Bridge) : r.timerCounted.recorded = r.recorded := by
  unfold Bridge.timerCounted Bridge.recorded
  cases r.holder <;> rfl

theorem recorded_of_completed (late : Bool) (r : Bridge) : (r.completed late).recorded = r.recorded := by
  rw [Bridge.recorded, completed_holder]
  split
  · rfl
  · unfold Bridge.recorded
    cases r.holder <;> rfl

theorem inOrder_timerCounted (b : BridgeId) (hs : s.inOrder wide S stale H) :
    (s.setBridge b (s.bridge b).timerCounted).inOrder wide S stale H := by
  have bridge (c : BridgeId) := bridge_setBridge s b c (s.bridge b).timerCounted
  refine inOrder_of_priced (s := s) ⟨fun c => ?_, fun _ => ⟨rfl, rfl⟩, rfl, rfl, rfl⟩
    (fun range => settingsInRange_kept.pieces.timerCounted s b range) (fun c => ?_) (fun c => ?_) (fun _ => rfl)
      (fun _ => rfl) hs <;> rw [bridge] <;> split
  · next h => rw [h]; exact seat_of_counted
  · rfl
  · next h => rw [h]; exact recorded_of_counted _
  · rfl
  · next h => rw [h]; rfl
  · rfl

theorem inOrder_counted (f : Frame) (cs pres : PortSet) (late : Late) (run : s.mixer.mode = .run)
    (frame : s.mixer.frame = some f) (hs : s.inOrder wide S stale H) :
      (s.counted cs pres late).inOrder wide S stale H := by
  refine inOrder_of_priced (sameSeats_counted s cs pres late)
    (fun range => settingsInRange_kept.counted s f cs pres late run frame range) (fun b => ?_) (fun b => ?_)
      (fun p => ?_)
    (fun x => ?_) hs
  · rw [counted_bridge]; exact recorded_of_completed _ _
  · rw [counted_bridge]; exact (completed_waiting _ _).2
  · rw [counted_port_eq]; rfl
  · rfl

theorem inOrder_formSample (f : Frame) (slots : Vector Half 13) (run : s.mixer.mode = .run)
    (frame : s.mixer.frame = some f) (within : f.place < frameLength s.mixer.rate) (hs : s.inOrder wide S stale H) :
    (s.formSample f slots).inOrder wide S stale H := by
  have parts := formSample_bridge_rest s f slots
  refine inOrder_of_priced (sameSeats_formSample s f slots)
    (fun range => settingsInRange_kept.formSample s f slots run frame within range)
    (fun b => recorded_of_holder (parts b).1) (fun b => (parts b).2.2.1) (fun p => ?_) (fun x => ?_) hs
  · rw [formSample_port]; rfl
  · simp only [State.overrideFor, formSample_dir]

/-! ## Departures and cuts -/

theorem inOrder_departed (p : PortId) (life : Lifecycle) (hs : s.inOrder wide S stale H) :
    (s.departed p life).inOrder wide S stale H := by
  have seated := seated_departed p life hs.seated
  have left : (s.updatePort p fun q => { q with lifecycle := life }).inOrder wide S stale H :=
    inOrder_updatePort rfl rfl rfl rfl rfl hs
  unfold State.departed at seated ⊢
  dsimp only at seated ⊢
  have ended : (if ((s.updatePort p fun q => { q with lifecycle := life }).port p).engaged
      then (s.updatePort p fun q => { q with lifecycle := life }).endEngagement p
      else s.updatePort p fun q => { q with lifecycle := life }).inOrder wide S stale H := by
    split
    · exact inOrder_endEngagement p left
    · exact left
  have off : ((if ((s.updatePort p fun q => { q with lifecycle := life }).port p).engaged
      then (s.updatePort p fun q => { q with lifecycle := life }).endEngagement p
      else s.updatePort p fun q => { q with lifecycle := life }).port p).engaged = false := by
    split
    · have core := (portMoves_endEngagement (s.updatePort p fun q => { q with lifecycle := life }) p).core
      have engaged := congrArg Port.engaged core
      exact engaged
    · next silent => exact Bool.eq_false_of_not_eq_true silent
  exact inOrder_unplaced seated (unplaced_of_silent ended.seated off) rfl rfl ended

theorem inOrder_cutPlace {h : Holder} (held : (s.bridge b).holder = some h) (hs : s.inOrder wide S stale H) :
    (s.cutPlace b h.who).inOrder wide S stale H := by
  have seated := seated_cutPlace held hs.seated
  have range : s.settingsInRange → (s.cutPlace b h.who).settingsInRange := settingsInRange_kept.cutPlace b h.who
  have acts : (s.barHolder h.who).actsOn b (s.cutPlace b h.who) := actsOn_release _ b
  have bridges := places_bridge (places_barHolder s h.who)
  have port (r : PortId) : ((s.barHolder h.who).port r).priced = (s.port r).priced := by
    unfold State.barHolder
    split
    · split
      · rw [port_updatePort]
        split
        · next here => rw [here]; rfl
        · rfl
      · rfl
    · rfl
  have dir : (s.barHolder h.who).dir = s.dir := by
    unfold State.barHolder
    split
    · split
      · exact State.updatePort_dir ..
      · rfl
    · rfl
  have eff (r : PortId) : (s.barHolder h.who).effPriority r = s.effPriority r := by
    obtain ⟨emergency, priority, unit⟩ := priced_iff.mp (port r)
    exact effPriority_of_override_same emergency priority (by simp only [State.overrideFor, dir, unit])
  have cutPort (r : PortId) : ((s.cutPlace b h.who).port r).priced =
    (s.port r).priced := by rw [acts.port]; exact port r
  refine inOrder_of seated (fun w => range (hs.range w)) (fun w c => ?_) (fun c x there => ?_)
    (fun c r _ => ⟨(acts.effPriority r).trans (eff r), fun n old => ?_⟩) (fun r active => ?_) (fun w c => ?_) hs
  · refine keptInBridge_freeEmpty.releases b (fun c => ?_) c
    exact keptInBridge_freeEmpty.thins (thins_of_same (bridges c).1 (bridges c).2.1 (bridges c).2.2) (hs.filled w c)
  · by_cases here : c = b
    · subst here
      refine .inl ((release_record there).trans ?_)
      exact (acts.talkerPriority x.who).symm
    · rw [acts.other c here, (bridges c).1] at there
      exact .inr ⟨x, there, rfl, rfl⟩
  · rw [(priced_iff.mp (cutPort r)).2.2]; exact old
  · rw [(priced_iff.mp (cutPort r)).1]; exact active
  · by_cases here : c = b
    · subst here
      refine List.Pairwise.sublist (release_queue _ c) ?_
      rw [(bridges c).2.2]
      exact hs.queues w c
    · rw [acts.other c here, (bridges c).2.2]
      exact hs.queues w c

end

end Sys2Proof.Machine
end

section
/-! SUPPORT. Records and queues over a switch of plans (R59 to R63). -/

namespace Sys2Proof.Machine

section
variable {wide : Prop} {s t u : State} {b c : BridgeId} {p : PortId}

theorem removeNonMembers_queue (s : State) (b : BridgeId) :
    ((s.removeNonMembers b).bridge b).queue.Sublist (s.bridge b).queue := by
  have kept : ((s.membersKept b).bridge b).queue.Sublist (s.bridge b).queue := by
    rw [membersKept_bridge]
    exact List.filter_sublist
  rcases removeNonMembers_cases s b with ⟨same, -⟩ | ⟨p, -, -, released⟩
  · rw [same]; exact kept
  · rw [released]; exact (release_queue _ b).trans kept

theorem removeNonMembers_record {h : Holder} (held : ((s.removeNonMembers b).bridge b).holder = some h) :
    h.priority = s.talkerPriority h.who ∨ ∃ x, (s.bridge b).holder = some x ∧ x.who = h.who
      ∧ x.priority = h.priority := by
  rcases removeNonMembers_cases s b with ⟨same, -⟩ | ⟨p, -, -, released⟩
  · rw [same, membersKept_bridge, Bridge.membersOnly, Option.map_eq_some_iff] at held
    obtain ⟨x, before, is⟩ := held
    refine .inr ⟨x, before, ?_⟩
    rw [← is, limitHolder_eq]
    split <;> exact ⟨rfl, rfl⟩
  · rw [released] at held
    exact .inl ((release_record held).trans ((actsOn_membersKept s b).talkerPriority h.who))

/-- What a removal of non-members from bridges leaves of priorities, queues and records. -/
structure State.winnowed (s t : State) : Prop where
  eff : ∀ r, t.effPriority r = s.effPriority r
  queue : ∀ b : BridgeId, (t.bridge b).queue.Sublist (s.bridge b).queue
  record : ∀ (b : BridgeId) (h : Holder), (t.bridge b).holder = some h → h.priority = s.talkerPriority h.who
    ∨ ∃ x, (s.bridge b).holder = some x ∧ x.who = h.who ∧ x.priority = h.priority

theorem winnowed_refl (s : State) : s.winnowed s := ⟨fun _ => rfl, fun _ => .refl _, fun _ h held => .inr
    ⟨h, held, rfl, rfl⟩⟩

theorem State.winnowed.talkerPriority (h : s.winnowed t) (who : Talker) :
    t.talkerPriority who = s.talkerPriority who := by
  cases who with
  | con => rfl
  | port r => exact h.eff r

theorem State.winnowed.trans (h : s.winnowed t) (h' : t.winnowed u) : s.winnowed u where
  eff r := (h'.eff r).trans (h.eff r)
  queue b := (h'.queue b).trans (h.queue b)
  record b x held := by
    rcases h'.record b x held with fresh | ⟨y, before, who, priority⟩
    · exact .inl (fresh.trans (h.talkerPriority x.who))
    · rw [← who, ← priority]
      exact h.record b y before

theorem winnowed_removeNonMembers (s : State) (b : BridgeId) : s.winnowed (s.removeNonMembers b) where
  eff := (actsOn_removeNonMembers s b).effPriority
  queue c := by
    by_cases here : c = b
    · rw [here]; exact removeNonMembers_queue s b
    · rw [(actsOn_removeNonMembers s b).other c here]
  record c h held := by
    by_cases here : c = b
    · subst here; exact removeNonMembers_record held
    · rw [(actsOn_removeNonMembers s b).other c here] at held
      exact .inr ⟨h, held, rfl, rfl⟩

theorem winnowed_foldl (bs : List BridgeId) (s : State) : s.winnowed (bs.foldl State.removeNonMembers s) := by
  induction bs generalizing s with
  | nil => exact winnowed_refl s
  | cons b bs ih => exact (winnowed_removeNonMembers s b).trans (ih _)

theorem settingsInRange_of_settings (h : t.settings = s.settings) (hs : s.settingsInRange) : t.settingsInRange := by
  refine settingsInRange_of hs (fun p => ?_) ?_ ?_ ?_ ?_ ?_ ?_ ?_
  · rw [settings_setup h]; exact hs.1 p
  · rw [settings_plans h]; exact hs.2.1
  · rw [settings_dir h]; exact hs.2.2.1
  · rw [settings_mixer h]
  · rw [settings_mixer h]
  · rw [settings_mixer h]
  · rw [settings_mixer h]
  · rw [settings_console h]

/-- The rule of places for members alone, whoever may lack its place. -/
def anyone (_ : PortId) : Prop := True

theorem settled_adjustBurst (b : BridgeId) (hs : s.settled wide anyone) : (s.adjustBurst b).settled wide anyone :=
  inOrder_of_parts (sameSeats_adjustBurst s b) (settingsInRange_of_settings (settings_adjustBurst s b))
    (places_adjustBurst s b) (KeptInPort.adjustBurst_ports s b) (adjustBurst_dir s b) hs

theorem settled_takeBid (p : PortId) (hs : s.settled wide anyone) : (s.takeBid p).settled wide anyone :=
  inOrder_takeBid p (hs.mono fun _ => .inl)

/-- Once the plans are exchanged and non-members removed. -/
theorem settled_exchanged {v : State} (bridges : v.bridges = s.bridges) (ports : v.ports = s.ports)
    (records : v.plans.records = s.plans.records) (bids : v.bids = s.bids) (dir : v.dir = s.dir)
    (range : s.settingsInRange → v.settingsInRange) (hs : s.settled wide anyone) :
    (allBridges.foldl State.removeNonMembers v).settled wide anyone := by
  have seated := (seated_exchanged hs.seated bridges ports records bids).mono (S' := anyone) fun _ _ => trivial
  have winnowed := winnowed_foldl allBridges v
  have back : (allBridges.foldl State.removeNonMembers v).backdrop = v.backdrop :=
    foldl_backdrop _ removeNonMembers_backdrop _ _
  have ports' : (allBridges.foldl State.removeNonMembers v).ports = s.ports :=
    (foldl_removeNonMembers allBridges v 0).2.1.trans ports
  have eff (r : PortId) : v.effPriority r = s.effPriority r := effPriority_of_dir (port_of_ports ports r) dir
  have priority (who : Talker) : (allBridges.foldl State.removeNonMembers v).talkerPriority who
    = v.talkerPriority who :=
    winnowed.talkerPriority who
  refine inOrder_of seated (fun w => settingsInRange_kept.backdrop back (range (hs.range w))) (fun w => ?_)
    (fun b h held => ?_) (fun b r _ => ⟨(winnowed.eff r).trans (eff r), fun n => nofun⟩) (fun r active => ?_)
    (fun w b => ?_) hs
  · exact KeptByOperations.foldl (P := State.freeBridgesEmpty) (f := State.removeNonMembers)
      (fun t b ht => keptInBridge_freeEmpty.removesNonMembers b ht) _ fun b => by
        rw [bridge_of_bridges bridges]; exact hs.filled w b
  · rw [priority]
    have record := winnowed.record b h held
    rw [bridge_of_bridges bridges] at record
    exact record
  · rw [port_of_ports ports']; exact active
  · refine List.Pairwise.sublist (winnowed.queue b) ?_
    rw [bridge_of_bridges bridges]
    exact hs.queues w b

theorem settled_switchPlans (hs : s.settled wide anyone) : s.switchPlans.settled wide anyone := by
  have keying : KeptByKeying (State.settled wide anyone) := inOrder_keying wide anyone _ _
  unfold State.switchPlans
  dsimp only
  refine keying.handOn (KeptByOperations.foldl (P := State.settled wide anyone) (fun t p ht => ?_) _
    (KeptByOperations.foldl (P := State.settled wide anyone) (fun t p ht => ?_) _
      (KeptByOperations.foldl (f := State.adjustBurst) (fun t b ht => settled_adjustBurst b ht) _ ?_)))
  · split
    · exact settled_takeBid p ht
    · exact ht
  · exact keying.takeHandedBids _ (keying.removeDestination _ p ht)
  · refine settled_exchanged (s := s) rfl rfl rfl rfl rfl (fun range => ?_) hs
    exact settingsInRange_of range range.1 range.2.1 range.2.2.1 rfl rfl rfl rfl rfl

end

end Sys2Proof.Machine
end

section
/-! SUPPORT. Records and queues over all that events and requests are made of, but a change of an override priority
(R72, R74, R76). -/

namespace Sys2Proof.Machine

section
variable {wide : Prop} {s t : State} {b : BridgeId} {p : PortId}

/-- What records and queues take as given of the rest of the part. -/
def State.grounded (s : State) : Prop := s.engagementRule ∧ s.directoryRule

theorem settled_keying (wide : Prop) : KeptByKeying (State.settled wide anyone) := inOrder_keying wide anyone _ _

theorem settled_pieces (wide : Prop) : KeptByPieces (State.settled wide anyone) State.grounded where
  same h hs := inOrder_of_view h hs
  raise _ src n _ hs _ := inOrder_raise src n hs
  handOn _ hs _ := (settled_keying wide).handOn hs
  turnLevel s b hs _ := inOrder_of_parts (sameSeats_of_ports (places_turnLevel s b)
    (by unfold State.turnLevel; dsimp only; split <;> rfl) (by unfold State.turnLevel; dsimp only; split <;> rfl)
    (by unfold State.turnLevel; dsimp only; split <;> rfl)) (settingsInRange_kept.turnLevel s b) (places_turnLevel s b)
    (by unfold State.turnLevel; dsimp only; split <;> rfl) (turnLevel_dir s b) hs
  changeSegment s b hs _ := inOrder_of_parts (sameSeats_of_ports (places_changeSegment s b)
    (by unfold State.changeSegment; dsimp only; split <;> rfl)
    (by unfold State.changeSegment; dsimp only; split <;> rfl)
    (by unfold State.changeSegment; dsimp only; split <;> rfl)) (settingsInRange_kept.changeSegment s b)
    (places_changeSegment s b) (by unfold State.changeSegment; dsimp only; split <;> rfl) (changeSegment_dir s b) hs
  burstEnded s b hs _ := inOrder_of_parts (sameSeats_of_ports (places_burstEnded s b)
    (State.reportChange_ports ..) (State.reportChange_plans ..) (State.reportChange_bids ..))
    (settingsInRange_kept.burstEnded s b) (places_burstEnded s b) (State.reportChange_ports ..)
    (State.reportChange_dir ..) hs
  setReceiver _ _ _ _ hs _ := inOrder_setPort rfl rfl rfl rfl rfl hs
  cutPlace _ _ _ held _ hs _ := inOrder_raise _ _ (inOrder_cutPlace held hs)
  timerCounted _ b hs _ := inOrder_timerCounted b hs
  keyReached s p hs _ := by
    refine (settled_keying wide).keyReached p (inOrder_setPort ?_ ?_ ?_ ?_ ?_ hs) <;> rw [keyCounted_keeps]
  activated _ _ out hs given := inOrder_unplaced
    (seated_silent (engaged_of_inactive out (given.1 _)) rfl hs.seated)
    (unplaced_of_silent hs.seated (engaged_of_inactive out (given.1 _))) rfl rfl hs
  departed _ p life _ _ hs _ := inOrder_departed p life hs
  requalified s p hs _ := by
    refine (settled_keying wide).judgeEngagement false p (inOrder_setPort (requalified_engaged _).1
      (requalified_engaged _).2 (requalified_keeps _).1 ?_ ?_ hs)
    · have emergency := congrArg Port.emergency (requalified_others (s.port p))
      exact emergency
    · have unit := congrArg Port.unit (requalified_others (s.port p))
      exact unit
  acceptIdent _ p _ valid hs given := settled_acceptIdent given.2 p valid hs
  acceptEmerg _ p _ valid hs given := settled_acceptEmerg given.2 p valid hs
  acceptEmergClear _ p _ valid hs given := settled_acceptEmergClear given.2 p valid hs
  switchPlans _ hs _ := settled_switchPlans hs
  latched s run none_yet hs _ := inOrder_of_parts (s := s) (sameSeats_of_ports rfl rfl rfl rfl)
    (settingsInRange_kept.latched s run none_yet) rfl rfl rfl hs
  formSample _ f slots run frame within hs _ := inOrder_formSample f slots run frame within hs
  counted _ f cs pres late run frame hs _ := inOrder_counted f cs pres late run frame hs

/-! ## Requests -/

/-- The plans written with the active one kept. -/
theorem settled_of_active (rule : t.planRule) (range : s.settingsInRange → t.settingsInRange)
    (bridges : t.bridges = s.bridges) (ports : t.ports = s.ports) (records : ∀ b : BridgeId, t.record b = s.record b)
    (bids : t.bids = s.bids) (dir : t.dir = s.dir) (hs : s.settled wide anyone) : t.settled wide anyone :=
  inOrder_of_seated (seated_of_active rule bridges ports records bids hs.seated)
    (fun b => by rw [bridge_of_bridges bridges]) range (fun b => by rw [bridge_of_bridges bridges])
    (fun b => by rw [bridge_of_bridges bridges]) (fun p => effPriority_of_dir (port_of_ports ports p) dir)
    (fun p => by rw [port_of_ports ports]; exact ⟨rfl, rfl⟩) hs

/-- Bridges that are all empty. -/
theorem settled_clearAllBridges (hs : s.settled wide anyone) : s.clearAllBridges.settled wide anyone where
  seated := seated_clearAllBridges anyone hs.seated.plans
  range w := settingsInRange_kept.clearAllBridges (hs.range w)
  filled _ b _ := by
    rw [clearAllBridges_bridge]
    exact ⟨rfl, rfl⟩
  records b h held := by
    rw [clearAllBridges_bridge] at held
    cases held
  top _ _ := nofun
  queues _ b := by
    rw [clearAllBridges_bridge]
    exact .nil

theorem settled_consoleLeave (b : BridgeId) (hs : s.settled wide anyone) : (s.consoleLeave b).settled wide anyone := by
  unfold State.consoleLeave
  split
  · exact inOrder_release b (seated_release b (fun _ _ => .inl trivial) hs.seated) hs
  · exact hs

theorem settled_writeTalk (carried : BridgeSet) (hs : s.settled wide anyone) :
    (s.writeTalk carried).settled wide anyone := by
  have written : ({ s with console := { s.console with talk := carried } } : State).settled wide anyone :=
    inOrder_of_same (s := s) ⟨fun _ => rfl, fun _ => ⟨rfl, rfl⟩, rfl, rfl, rfl⟩ (settingsInRange_kept.talk s carried)
      (fun _ => rfl) (fun _ => rfl) (fun _ => rfl) (fun _ => ⟨rfl, rfl⟩) hs
  exact inOrder_of_parts (sameSeats_reportIf ..) (settingsInRange_kept.same (rest_reportIf ..)) (places_reportIf ..)
    (State.reportIf_ports ..) (State.reportIf_dir ..) written

theorem settled_moveConsole (carried : BridgeSet) (hs : s.settled wide anyone) :
    (s.moveConsole carried).settled wide anyone := by
  have moved : ((s.leaveBridges (s.console.talk &&& ~~~carried)).joinBridges (carried &&& ~~~s.console.talk)).settled
      wide anyone := by
    refine KeptByOperations.foldl (P := State.settled wide anyone) (fun t b ht => ?_) _
      (KeptByOperations.foldl (P := State.settled wide anyone) (fun t b ht => ?_) _ hs)
    · split
      · exact (settled_keying wide).handOn (inOrder_bid b .con (seated_conBid b ht.seated) ht)
      · exact ht
    · split
      · exact (settled_keying wide).handOn (settled_consoleLeave b ht)
      · exact ht
  exact settled_writeTalk carried moved

theorem settled_requests (wide : Prop) : KeptButOverrides (State.settled wide anyone) State.grounded where
  startLost _ _ _ hs _ := inOrder_updatePort rfl rfl rfl rfl rfl hs
  writeSetup _ p _ _ read _ hs _ := settled_writeSetup p read hs
  pendSwitch s hs _ := inOrder_of_priced (s := s) ⟨fun _ => rfl, fun _ => ⟨rfl, rfl⟩, rfl, rfl, rfl⟩
    (settingsInRange_kept.pendSwitch s) (fun _ => rfl) (fun _ => rfl) (fun _ => rfl) (fun _ => rfl) hs
  writeRecord s b f new read nested free hs _ := settled_of_active (s := s)
    ((RecordsWritten.edited b new nested free).planRule hs.seated.plans)
      (settingsInRange_kept.writeRecord s b f new read)
    rfl rfl (fun c => writeRecord_record s b c new) rfl rfl hs
  copyPlan s hs _ := settled_of_active (s := s) (t := { s with plans := { s.plans with
    records := s.plans.records.set s.editPlan s.activeRecords } }) (RecordsWritten.copied.planRule hs.seated.plans)
    (settingsInRange_kept.copyPlan s) rfl rfl (fun c => copyPlan_record s c) rfl rfl hs
  clearAllBridges _ hs _ := settled_clearAllBridges hs
  haltMixer s hs _ := by
    have ports (p : PortId) : (s.haltMixer.port p).priced = (s.port p).priced := by simp [State.haltMixer, State.port,
      Port.priced]
    exact inOrder_of_priced (s := s) ⟨fun _ => rfl, fun p => by simp [State.haltMixer, State.port], rfl, rfl, rfl⟩
      (settingsInRange_kept.haltMixer s) (fun _ => rfl) (fun _ => rfl) ports (fun _ => rfl) hs
  runMixer s halted hs _ := inOrder_of_parts (s := s) (sameSeats_of_ports rfl rfl rfl rfl)
    (settingsInRange_kept.runMixer s halted) rfl rfl rfl hs
  setupMixer f s hs _ := inOrder_of_parts (sameSeats_of_ports
    (places_of_parts (setupMixer_bridges f s) (setupMixer_console f s))
    (by unfold setupMixer; split <;> [split <;> rfl; rfl]) (by unfold setupMixer; split <;> [split <;> rfl; rfl])
    (by unfold setupMixer; split <;> [split <;> rfl; rfl])) (settingsInRange_kept.setupMixer f s)
    (places_of_parts (setupMixer_bridges f s) (setupMixer_console f s))
    (by unfold setupMixer; split <;> [split <;> rfl; rfl]) (by unfold setupMixer; split <;> [split <;> rfl; rfl]) hs
  monitor mask gains s hs _ := inOrder_of_parts (sameSeats_of_ports
    (by unfold State.places; rw [monitor_bridges, monitor_talk]) (by unfold monitor; split <;> rfl)
    (by unfold monitor; split <;> rfl) (by unfold monitor; split <;> rfl)) (settingsInRange_kept.monitor mask gains s)
    (by unfold State.places; rw [monitor_bridges, monitor_talk]) (by unfold monitor; split <;> rfl)
    (by unfold monitor; split <;> rfl) hs
  moveConsole _ carried hs _ := settled_moveConsole carried hs
  purged s hs given := inOrder_of_priced (s := s) ⟨fun _ => rfl, fun _ => ⟨rfl, rfl⟩, rfl, rfl, rfl⟩
    (settingsInRange_kept.purged s) (fun _ => rfl) (fun _ => rfl) (fun _ => rfl)
    (fun x => overrideFor_purge given.2 x) hs
  declared _ p _ hs _ := settled_declared p hs
  leaveEmergency _ p hs _ := settled_leaveEmergency p hs
  leaveUnit _ u hs given := settled_leaveUnit given.2 u hs
  clearFlags s _ _ hs _ := inOrder_of_parts (s := s) (sameSeats_of_ports rfl rfl rfl rfl)
    (settingsInRange_kept.same (s := s) rfl) rfl rfl rfl hs
  writeMask s _ _ _ _ _ hs _ := by
    rw [writeMask_eq]
    exact inOrder_of_parts (s := s) (sameSeats_of_ports rfl rfl rfl rfl) (settingsInRange_kept.same
      (s := s) rfl) rfl rfl
      rfl hs

end

end Sys2Proof.Machine
end

section
/-! SUPPORT. A change of an override priority, handed to the ports of its unit one by one (R47): every record is true
once its port has been reached. -/

namespace Sys2Proof.Machine

section
variable {s t : State} {u : UnitId} {p : PortId}

/-- The records that are stale until their ports, of the unit and in the list, have been reached. -/
def unreached (s : State) (u : UnitId) (ps : List PortId) (r : PortId) (x : Option UnitId) (n : Nat) : Prop :=
  r ∈ ps ∧ x = some u ∧ n = s.effPriority r

theorem records_reachUnit {ps : List PortId} (ht : t.inOrder False anyone (unreached s u (p :: ps)) fun _ => False) :
    (s.reachUnit u t p).inOrder False anyone (unreached s u ps) fun _ => False := by
  have tracks (stale : PortId → Option UnitId → Nat → Prop) (H : PortId → Prop)
      (more : ∀ r n, unreached s u (p :: ps) r (t.port r).unit n → stale r (t.port r).unit n) :
      t.tracks False anyone stale H := { ht.toTracks with
    records := fun b h held => (ht.records b h held).imp_right fun ⟨r, who, is⟩ => ⟨r, who, more r _ is⟩
    queues := nofun }
  unfold State.reachUnit
  split
  · refine inOrder_handPriority (tracks _ _ fun r n is => ?_) nofun
    obtain ⟨there, unit, old⟩ := is
    rcases List.mem_cons.mp there with rfl | later
    · exact .inr ⟨rfl, old⟩
    · exact .inl ⟨later, unit, old⟩
  · next other =>
    refine { tracks _ _ fun r n is => ?_ with top := nofun }
    obtain ⟨there, unit, old⟩ := is
    rcases List.mem_cons.mp there with rfl | later
    · exact absurd unit other
    · exact ⟨later, unit, old⟩

theorem records_foldl_reachUnit (ps : List PortId) (ht : t.inOrder False anyone (unreached s u ps) fun _ => False) :
    (ps.foldl (s.reachUnit u) t).settled False anyone := by
  induction ps generalizing t with
  | nil =>
    exact { ht with records := fun b h held => .inl ((ht.records b h held).resolve_right fun
      ⟨_, _, is⟩ => by cases is.1) }
  | cons p ps ih => exact ih (records_reachUnit ht)

/-- A state that differs from a settled one in the override of the unit alone. -/
structure State.overridden (u : UnitId) (s t : State) : Prop where
  seats : s.sameSeats t
  bridges : t.bridges = s.bridges
  ports : t.ports = s.ports
  other : ∀ x, x ≠ some u → t.overrideFor x = s.overrideFor x

theorem State.overridden.effPriority (h : s.overridden u t) {r : PortId} (other : (s.port r).unit ≠ some u) :
    t.effPriority r = s.effPriority r :=
  effPriority_congr (port_of_ports h.ports r) (h.other _ other)

theorem records_handOverride (h : s.overridden u t) (hs : s.settled False anyone) :
    (s.handOverride u t).settled False anyone := by
  rw [handOverride_eq h.ports]
  refine records_foldl_reachUnit allPorts ⟨⟨seated_of_sameSeats h.seats hs.seated, nofun, nofun, fun b x held => ?_,
    nofun⟩, nofun⟩
  rw [bridge_of_bridges h.bridges] at held
  have true_ := (hs.records b x held).resolve_right nofun
  cases who : x.who with
  | con => exact .inl (by rw [true_, who]; rfl)
  | port r =>
    rw [who] at true_
    by_cases here : (s.port r).unit = some u
    · exact .inr ⟨r, rfl, mem_allPorts r, by rw [port_of_ports h.ports]; exact here, true_⟩
    · exact .inl (true_.trans (h.effPriority here).symm)

theorem overridden_written {agency : BitVec 4} {role : BitVec 3} {o : Option Nat} {w : Fin 4} {d : Directory}
    (rule : s.directoryRule) (valid : validUnit u = true) (room : s.enterUnit u agency role o = some (w, d)) :
    s.overridden u { s with dir := d } where
  seats := ⟨fun _ => rfl, fun _ => ⟨rfl, rfl⟩, rfl, rfl, rfl⟩
  bridges := rfl
  ports := rfl
  other x other := by
    cases x with
    | none => rfl
    | some v => exact overrideFor_written rule valid room fun is => other (by rw [is])

theorem overridden_freed {w : Fin 4} (rule : s.directoryRule) (found : s.dir.find u = some w) :
    s.overridden u { s with dir := s.dir.put (hashSet u) w none } where
  seats := ⟨fun _ => rfl, fun _ => ⟨rfl, rfl⟩, rfl, rfl, rfl⟩
  bridges := rfl
  ports := rfl
  other x other := by
    cases x with
    | none => rfl
    | some v => exact overrideFor_freed rule found fun is => other (by rw [is])

theorem records_requests : KeptByRequests (State.settled False anyone) State.grounded where
  toKeptButOverrides := settled_requests False
  entered _ _ _ _ _ _ _ valid _ room hs given := records_handOverride (overridden_written given.2 valid room) hs
  removed _ _ _ found hs given := records_handOverride (overridden_freed given.2 found) hs

end

end Sys2Proof.Machine
end

section
/-! SUPPORT. At rest, a change of an override priority sets no engagement going: no override key comes about under a
holder below 4, and the demand on a port that is not engaged stays as it is (R47, R100 to R103). So what its handing on
moves is a key machine between IDLE and DEFERRED alone. -/

namespace Sys2Proof.Machine

section
variable {s t u : State} {b : BridgeId} {p r : PortId}

/-- No bid is on its way, a port that is not engaged has a key machine at rest, and that of an engaged one waits in IDLE
or DEFERRED without an override key, or in COOL. -/
structure State.unstirred (s : State) : Prop where
  bids : s.bids = []
  silent : ∀ p : PortId, (s.port p).engaged = false → s.keyAtRest p
  talking : ∀ p : PortId, (s.port p).engaged = true → (s.port p).key = .cool
    ∨ ((s.port p).key = .idle ∨ (s.port p).key = .deferred) ∧ s.overrideKey p = false

/-- A port but for its key machine. -/
def Port.unkeyed (q : Port) : Port := { q with key := .idle, timing := 0, keyUp := 0 }

/-- Nothing but key machines, flags and marks has changed. -/
structure State.keyedAlone (s t : State) : Prop where
  bridges : t.bridges = s.bridges
  plans : t.plans = s.plans
  dir : t.dir = s.dir
  port : ∀ p : PortId, (t.port p).unkeyed = (s.port p).unkeyed

theorem keyedAlone_refl (s : State) : s.keyedAlone s := ⟨rfl, rfl, rfl, fun _ => rfl⟩

theorem State.keyedAlone.trans (h : s.keyedAlone t) (h' : t.keyedAlone u) : s.keyedAlone u where
  bridges := h'.bridges.trans h.bridges
  plans := h'.plans.trans h.plans
  dir := h'.dir.trans h.dir
  port p := (h'.port p).trans (h.port p)

theorem State.keyedAlone.fields (h : s.keyedAlone t) (p : PortId) : (t.port p).engaged = (s.port p).engaged
    ∧ (t.port p).bar = (s.port p).bar ∧ (t.port p).unit = (s.port p).unit
    ∧ (t.port p).emergency = (s.port p).emergency ∧ (t.port p).setup = (s.port p).setup := by
  have engaged := congrArg Port.engaged (h.port p)
  have bar := congrArg Port.bar (h.port p)
  have unit := congrArg Port.unit (h.port p)
  have emergency := congrArg Port.emergency (h.port p)
  have setup := congrArg Port.setup (h.port p)
  exact ⟨engaged, bar, unit, emergency, setup⟩

theorem State.keyedAlone.effPriority (h : s.keyedAlone t) (p : PortId) : t.effPriority p = s.effPriority p := by
  obtain ⟨-, -, unit, emergency, setup⟩ := h.fields p
  exact effPriority_of_override_same emergency (by rw [setup]) (by simp only [State.overrideFor, h.dir, unit])

theorem State.keyedAlone.keys (h : s.keyedAlone t) (p : PortId) : t.demand p = s.demand p
    ∧ t.overrideKey p = s.overrideKey p := by
  have destination : t.destinationOf p = s.destinationOf p := by simp only [State.destinationOf, State.activeRecords,
    h.plans]
  have bridge (b : BridgeId) : t.bridge b = s.bridge b := bridge_of_bridges h.bridges b
  have record (b : BridgeId) : t.record b = s.record b := record_of_plans h.plans b
  unfold State.demand State.overrideKey
  rw [destination]
  cases s.destinationOf p with
  | none => exact ⟨rfl, rfl⟩
  | some b => dsimp only; rw [bridge, record]; exact ⟨rfl, rfl⟩

theorem keyedAlone_setKey (s : State) (p : PortId) (k : KeyState) (timing keyUp : Nat) :
    s.keyedAlone (s.setKey p k timing keyUp) where
  bridges := State.updatePort_bridges ..
  plans := State.updatePort_plans ..
  dir := State.updatePort_dir ..
  port r := by
    unfold State.setKey
    rw [port_updatePort]
    split
    · next here => rw [here]; rfl
    · rfl

/-! ## The key machines -/

theorem keyAtRest_of_keys {s t : State} {p : PortId} (port : (t.port p).key = (s.port p).key)
    (engaged : (t.port p).engaged = (s.port p).engaged) (lifecycle : (t.port p).lifecycle = (s.port p).lifecycle)
    (demand : t.demand p = s.demand p) (override : t.overrideKey p = s.overrideKey p) (h : s.keyAtRest p) :
    t.keyAtRest p := by
  unfold State.keyAtRest at h ⊢
  rw [port, engaged, lifecycle, demand, override]
  exact h

/-- An engaged port goes between IDLE and DEFERRED. -/
theorem unstirred_setKey (hs : s.unstirred) (on : (s.port p).engaged = true) (free : s.overrideKey p = false)
    {k : KeyState} (waits : k = .idle ∨ k = .deferred) : (s.setKey p k 0 0).unstirred := by
  have alone := keyedAlone_setKey s p k 0 0
  have other (r : PortId) (h : r ≠ p) : (s.setKey p k 0 0).port r = s.port r := by
    unfold State.setKey
    rw [port_updatePort, if_neg h]
  refine ⟨(setKey_bids ..).trans hs.bids, fun r silent => ?_, fun r talking => ?_⟩
  · rw [(alone.fields r).1] at silent
    have apart : r ≠ p := by
      rintro rfl
      rw [on] at silent
      cases silent
    exact keyAtRest_of_keys (by rw [other r apart]) (by rw [other r apart]) (by rw [other r apart]) (alone.keys r).1
      (alone.keys r).2 (hs.silent r silent)
  · rw [(alone.keys r).2]
    by_cases here : r = p
    · subst here
      refine .inr ⟨?_, free⟩
      unfold State.setKey
      rw [port_updatePort, if_pos rfl]
      exact waits
    · rw [other r here] at talking ⊢
      exact hs.talking r talking

/-- A key machine that acts goes between IDLE and DEFERRED, or stays. -/
theorem unstirred_judgeKey (hs : s.unstirred) (p : PortId) : (s.judgeKey p).unstirred ∧ s.keyedAlone
    (s.judgeKey p) := by
  cases on : (s.port p).engaged with
  | false =>
    rw [judgeKey_of_atRest (hs.silent p on)]
    exact ⟨hs, keyedAlone_refl s⟩
  | true =>
    have moved (free : s.overrideKey p = false) {k : KeyState} (waits : k = .idle ∨ k = .deferred) :
        (s.setKey p k 0 0).unstirred ∧ s.keyedAlone (s.setKey p k 0 0) :=
      ⟨unstirred_setKey hs on free waits, keyedAlone_setKey ..⟩
    have stays : s.unstirred ∧ s.keyedAlone s := ⟨hs, keyedAlone_refl s⟩
    unfold State.judgeKey
    dsimp only
    split
    · rcases hs.talking p on with cool | ⟨idle | deferred, free⟩
      · rw [cool]; exact stays
      · rw [idle, on, free]
        dsimp only
        split
        · exact moved free (.inr rfl)
        · exact stays
      · rw [deferred, on, free]
        dsimp only
        split
        · exact stays
        · exact moved free (.inl rfl)
    · exact stays

theorem unstirred_actAll (hs : s.unstirred) : s.actAll.unstirred ∧ s.keyedAlone s.actAll := by
  unfold State.actAll
  refine KeptByOperations.foldl (P := fun t => t.unstirred ∧ s.keyedAlone t) (f := State.actKey) (fun t p ht => ?_) _
    ⟨hs, keyedAlone_refl s⟩
  obtain ⟨unstirred, alone⟩ := unstirred_judgeKey ht.1 p
  rw [State.actKey, takeHandedBids_of_nil unstirred.bids]
  exact ⟨unstirred, ht.2.trans alone⟩

theorem unstirred_resolve (n : Nat) (hs : s.unstirred) :
    (State.resolve n s).unstirred ∧ s.keyedAlone (State.resolve n s) := by
  induction n generalizing s with
  | zero => exact ⟨hs, keyedAlone_refl s⟩
  | succ n ih =>
    unfold State.resolve
    split
    · exact ⟨hs, keyedAlone_refl s⟩
    · obtain ⟨acted, alone⟩ := unstirred_actAll hs
      obtain ⟨resolved, alone'⟩ := ih acted
      exact ⟨resolved, alone.trans alone'⟩

theorem unstirred_handOn (hs : s.unstirred) : s.handOn.unstirred ∧ s.keyedAlone s.handOn := by
  rw [State.handOn, takeHandedBids_of_nil hs.bids]
  exact unstirred_resolve _ hs

/-- At rest, an engaged port's key machine waits in IDLE, DEFERRED or COOL. -/
theorem unstirred_of_quiet (quiet : s.quiet) (rule : s.engagementRule) : s.unstirred where
  bids := quiet.1
  silent p _ := quiet.2 p
  talking p on := by
    have may := rule p
    rw [on, eq_comm, Port.mayEngage, Bool.and_eq_true, Bool.and_eq_true, beq_iff_eq, Bool.not_eq_true'] at may
    obtain ⟨⟨active, heard⟩, -⟩ := may
    have rest := quiet.2 p active
    have idle_free (none : s.demand p = false) : s.overrideKey p = false := by
      refine Bool.eq_false_of_not_eq_true fun is => ?_
      rw [demand_of_overrideKey is] at none
      cases none
    unfold Port.blanked at heard
    cases key : (s.port p).key <;> rw [key] at rest heard
    case idle => exact .inr ⟨.inl rfl, idle_free rest⟩
    case deferred => exact .inr ⟨.inr rfl, rest.2.2⟩
    case cool => exact .inl rfl
    all_goals cases heard

/-! ## A priority of at most 3 taken by the arbiter -/

/-- The holder of a bridge stays, or the port's new priority is recorded: of the holder, or in its place. -/
theorem takePriority_holder (s : State) (b : BridgeId) (p : PortId) :
    ((s.takePriority b p).bridge b).holder = (s.bridge b).holder
    ∨ ∃ x y : Holder, (s.bridge b).holder = some x ∧ ((s.takePriority b p).bridge b).holder = some y
      ∧ y.priority = s.effPriority p ∧ (y.who = x.who ∨ y.who = .port p) := by
  cases takePriority_cases s b p with
  | unplaced absent result => exact .inl (by rw [result])
  | holding x before who result =>
    exact .inr ⟨x, { x with priority := s.effPriority p }, before, by rw [result, State.bridge_updateBridge_same], rfl,
      .inl rfl⟩
  | resorted x e before who queued under result =>
    exact .inl (by rw [result, State.bridge_updateBridge_same])
  | preempts x e before who queued above result =>
    exact .inr ⟨x, _, before, by rw [takePriority_bridge_of_outranked before who queued above]; rfl, rfl, .inr rfl⟩

/-- A key machine that is at rest without an engagement depends on the demand alone. -/
theorem keyAtRest_of_silent {s t : State} {p : PortId} (key : (t.port p).key = (s.port p).key)
    (engaged : (t.port p).engaged = (s.port p).engaged) (lifecycle : (t.port p).lifecycle = (s.port p).lifecycle)
    (demand : t.demand p = s.demand p) (silent : (s.port p).engaged = false) (h : s.keyAtRest p) : t.keyAtRest p := by
  unfold State.keyAtRest at h ⊢
  rw [key, engaged, lifecycle, demand]
  intro active
  have rest := h active
  cases is : (s.port p).key <;> rw [is] at rest
  case deferred =>
    rw [silent] at rest
    cases rest.2.1
  all_goals exact rest

/-- A new priority of at most 3 at an arbiter sets no engagement going. -/
theorem unstirred_takePriority (hs : s.unstirred) (held : s.placesHeld) (on : (s.port p).engaged = true)
    (low : s.effPriority p ≤ 3) (b : BridgeId) : (s.takePriority b p).unstirred := by
  have acts := actsOn_takePriority s b p
  have bursts := bridge_backdrop_of_backdrop (takePriority_backdrop s b p) b
  have burst := congrArg Bridge.burst bursts
  have destination (r : PortId) : (s.takePriority b p).destinationOf r = s.destinationOf r := by
    simp only [State.destinationOf, State.activeRecords, acts.plans]
  have engaged (x : Holder) (r : PortId) (there : (s.bridge b).holder = some x) (who : x.who = .port r) :
      (s.port r).engaged = true := (held b r (hasPlace_of_holder there who)).1
  have override (r : PortId) (free : s.overrideKey r = false) : (s.takePriority b p).overrideKey r = false := by
    refine Bool.eq_false_of_not_eq_true fun is => ?_
    obtain ⟨c, there, opens, y, holds, other, high⟩ := (overrideKey_iff _ r).mp is
    rw [destination] at there
    rw [acts.record] at opens
    have before (x : Holder) (was : (s.bridge c).holder = some x) (same : x = y) : False := by
      rw [(overrideKey_iff s r).mpr ⟨c, there, opens, y, same ▸ was, other, high⟩] at free
      cases free
    by_cases here : c = b
    · subst here
      rcases takePriority_holder s c p with same | ⟨x, y', -, now, priority, -⟩
      · exact before y (same ▸ holds) rfl
      · rw [now] at holds
        cases holds
        rw [priority] at high
        omega
    · rw [acts.other c here] at holds
      exact before y holds rfl
  refine ⟨acts.bids.trans hs.bids, fun r silent => ?_, fun r talking => ?_⟩
  · rw [acts.port] at silent
    have port := acts.port r
    have demand : (s.takePriority b p).demand r = s.demand r := by
      unfold State.demand
      rw [destination]
      cases s.destinationOf r with
      | none => rfl
      | some c =>
        dsimp only
        by_cases here : c = b
        · subst here
          have burst' : ((s.takePriority c p).bridge c).burst = (s.bridge c).burst := burst
          rw [burst']
          rcases takePriority_holder s c p with same | ⟨x, y, was, now, -, who⟩
          · rw [same]
          · have apart : x.who ≠ .port r := fun is => by
              have is_on := engaged x r was is
              rw [silent] at is_on
              cases is_on
            have apart' : y.who ≠ .port r := by
              rcases who with same | own
              · rw [same]; exact apart
              · rw [own]
                rintro is
                cases is
                rw [silent] at on
                cases on
            rw [was, now, Option.any_some, Option.any_some, beq_eq_false_iff_ne.mpr apart, beq_eq_false_iff_ne.mpr
              apart']
        · rw [acts.other c here]
    refine keyAtRest_of_silent (by rw [port]) (by rw [port]) (by rw [port]) demand silent (hs.silent r silent)
  · rw [acts.port] at talking ⊢
    exact (hs.talking r talking).imp_right fun waits => ⟨waits.1, override r waits.2⟩

end

end Sys2Proof.Machine
end

section
/-! SUPPORT. At rest, a change of an override priority leaves every queue in order once the ports of its unit have been
reached (R47, R74, R77). -/

namespace Sys2Proof.Machine

section
variable {s t z : State} {u : UnitId} {p r : PortId} {b : BridgeId} {ps : List PortId}

theorem effPriority_le_three (range : s.settingsInRange) (calm : (s.port p).emergency = .none) :
    s.effPriority p ≤ 3 := by
  have setup := setup_priority_le_three range p
  cases override : s.overrideFor (s.port p).unit with
  | none => rw [effPriority_of_noOverride calm override]; exact setup
  | some o =>
    rw [effPriority_of_override calm override]
    exact max_le setup (overrideFor_le_three range override)

/-- The arbiter puts a queue in order as a whole, or leaves it where the port is not queued behind another. -/
theorem takePriority_ordered (range : s.settingsInRange) (b : BridgeId) (p : PortId) :
    ((s.takePriority b p).bridge b).queue.Pairwise (s.falls fun _ => False)
    ∨ ((s.takePriority b p).bridge b).queue = (s.bridge b).queue
      ∧ ∀ h, (s.bridge b).holder = some h → h.who = .port p ∨ ∀ e ∈ (s.bridge b).queue, e.port ≠ p := by
  cases takePriority_cases s b p with
  | unplaced absent result => exact .inr ⟨by rw [result], fun h held => .inr (absent h held).2⟩
  | holding x before who result =>
    refine .inr ⟨by rw [result, State.bridge_updateBridge_same], fun h held => .inl ?_⟩
    rw [before] at held
    cases held
    exact who
  | resorted x e before who queued under result =>
    left
    rw [result, State.bridge_updateBridge_same]
    exact falls_sortQueue s _
  | preempts x e before who queued above result =>
    left
    rw [takePriority_bridge_of_outranked before who queued above]
    exact falls_spilled (fun r => effPriority_le_four range r) nofun _
      ((falls_sortQueue s _).sublist List.filter_sublist)

/-- While the ports of a list have yet to be reached: `z` is at rest but for keys, every port counts at its new priority
as in `t`, and a queue is in order or names a port of the list whose priority has changed since `s`. -/
structure State.reaching (s t : State) (ps : List PortId) (z : State) : Prop where
  unstirred : z.unstirred
  seated : z.seated anyone
  range : z.settingsInRange
  filled : z.freeBridgesEmpty
  eff : ∀ r, z.effPriority r = t.effPriority r
  port : ∀ r : PortId, (z.port r).unit = (s.port r).unit ∧ (z.port r).emergency = (s.port r).emergency
  queues : ∀ b : BridgeId, (z.bridge b).queue.Pairwise (z.falls fun _ => False)
    ∨ ∃ e ∈ (z.bridge b).queue, e.port ∈ ps ∧ s.effPriority e.port ≠ t.effPriority e.port

/-- A port that need not be reached. -/
theorem reaching_of_passed (hz : s.reaching t (p :: ps) z)
    (passed : ∀ (b : BridgeId) (e : QueueEntry), e ∈ (z.bridge b).queue → e.port = p →
      s.effPriority p = t.effPriority p) : s.reaching t ps z := by
  have queues (b : BridgeId) := (hz.queues b).imp_right fun ⟨e, there, listed, changed⟩ =>
    (⟨e, there, (List.mem_cons.mp listed).resolve_left fun is => changed (is ▸ passed b e there is), changed⟩ :
      ∃ e ∈ (z.bridge b).queue, e.port ∈ ps ∧ s.effPriority e.port ≠ t.effPriority e.port)
  exact { hz with queues := queues }

/-- What is handed on moves keys alone. -/
theorem reaching_handOn (hz : s.reaching t ps z) : s.reaching t ps z.handOn := by
  obtain ⟨unstirred, alone⟩ := unstirred_handOn hz.unstirred
  have bridge (b : BridgeId) : z.handOn.bridge b = z.bridge b := bridge_of_bridges alone.bridges b
  refine ⟨unstirred, (seated_keying _).handOn hz.seated, settingsInRange_kept.backdrop (handOn_backdrop z) hz.range,
    fun b => by rw [bridge]; exact hz.filled b, fun r => (alone.effPriority r).trans
      (hz.eff r), fun r => ?_, fun b => ?_⟩
  · obtain ⟨-, -, unit, emergency, -⟩ := alone.fields r
    rw [unit, emergency]
    exact hz.port r
  · rw [bridge]
    refine (hz.queues b).imp_left fun falls => falls.imp fun falls => ?_
    unfold State.falls
    rw [alone.effPriority, alone.effPriority]
    exact falls

/-- The arbiter of a port whose priority has changed takes it. -/
theorem reaching_takePriority (hz : s.reaching t (p :: ps) z) (member : z.memberOf p = some b)
    (on : (z.port p).engaged = true) (changed : s.effPriority p ≠ t.effPriority p) :
    s.reaching t ps (z.takePriority b p) := by
  have acts := actsOn_takePriority z b p
  have calm : (z.port p).emergency = .none := by
    cases active : (z.port p).emergency with
    | none => rfl
    | active source =>
      have before := (hz.port p).2.symm.trans active
      rw [effPriority_of_active before, ← hz.eff, effPriority_of_active active] at changed
      exact absurd rfl changed
  have alone (c : BridgeId) (e : QueueEntry) (there : e ∈ (z.bridge c).queue) (is : e.port = p) : c = b := by
    have own := memberOf_of_hasPlace hz.seated (hasPlace_of_queued there)
    rw [is, member] at own
    exact (Option.some.inj own).symm
  have kept {q : List QueueEntry} (falls : q.Pairwise (z.falls fun _ => False)) :
      q.Pairwise ((z.takePriority b p).falls fun _ => False) := falls.imp fun falls => by
    unfold State.falls
    rw [acts.effPriority, acts.effPriority]
    exact falls
  refine ⟨unstirred_takePriority hz.unstirred hz.seated.held on (effPriority_le_three hz.range calm) b,
    seated_takePriority b p hz.seated, acts.settingsInRange hz.range, fun c => ?_,
    fun r => (acts.effPriority r).trans (hz.eff r), fun r => by rw [acts.port]; exact hz.port r, fun c => ?_⟩
  · by_cases here : c = b
    · rw [here]; exact keptInBridge_freeEmpty.takePriority z b p (hz.filled b)
    · rw [acts.other c here]; exact hz.filled c
  · by_cases here : c = b
    · subst here
      rcases takePriority_ordered hz.range c p with ordered | ⟨same, absent⟩
      · exact .inl (kept ordered)
      · rw [same]
        refine (hz.queues c).imp kept fun ⟨e, there, listed, differs⟩ => ⟨e, there, ?_, differs⟩
        refine (List.mem_cons.mp listed).resolve_left fun is => ?_
        cases held : (z.bridge c).holder with
        | none =>
          rw [(hz.filled c held).2] at there
          cases there
        | some h =>
          rcases absent h held with who | absent
          · exact not_waits_of_heldBy (hz.seated.once c) ⟨h, held, who⟩ (.inr ⟨e, there, is⟩)
          · exact absent e there is
    · rw [acts.other c here]
      refine (hz.queues c).imp kept fun ⟨e, there, listed, differs⟩ => ⟨e, there, ?_, differs⟩
      exact (List.mem_cons.mp listed).resolve_left fun is => here (alone c e there is)

theorem reaching_reachUnit (h : s.overridden u t) (hz : s.reaching t (p :: ps) z) :
    s.reaching t ps (s.reachUnit u z p) := by
  have unit (changed : s.effPriority p ≠ t.effPriority p) : (z.port p).unit = some u := by
    rw [(hz.port p).1]
    by_contra other
    exact changed (h.effPriority other).symm
  rw [reachUnit_eq]
  cases member : z.memberOf p with
  | none =>
    refine reaching_of_passed hz fun b e there is => ?_
    have own := memberOf_of_hasPlace hz.seated (hasPlace_of_queued there)
    rw [is, member] at own
    cases own
  | some b =>
    dsimp only
    split
    · next all =>
      obtain ⟨-, on, changed⟩ := all
      rw [hz.eff] at changed
      exact reaching_handOn (reaching_takePriority hz member on changed.symm)
    · next fails =>
      refine reaching_of_passed hz fun c e there is => ?_
      by_contra changed
      refine fails ⟨unit changed, ?_, ?_⟩
      · rw [← is]
        exact (hz.seated.held c e.port (hasPlace_of_queued there)).1
      · rw [hz.eff]
        exact fun same => changed same.symm

theorem reaching_foldl (h : s.overridden u t) (ps : List PortId) (hz : s.reaching t ps z) :
    s.reaching t [] (ps.foldl (s.reachUnit u) z) := by
  induction ps generalizing z with
  | nil => exact hz
  | cons p ps ih => exact ih (reaching_reachUnit h hz)

/-- The start: a queue is out of order only where a priority in it has changed. -/
theorem reaching_start (h : s.overridden u t) (unstirred : t.unstirred)
    (range : t.settingsInRange) (hs : s.settled True anyone) : s.reaching t allPorts t where
  unstirred := unstirred
  seated := seated_of_sameSeats h.seats hs.seated
  range := range
  filled b := by rw [bridge_of_bridges h.bridges]; exact hs.filled trivial b
  eff _ := rfl
  port r := by rw [port_of_ports h.ports]; exact ⟨rfl, rfl⟩
  queues b := by
    rw [bridge_of_bridges h.bridges]
    by_cases changed : ∃ e ∈ (s.bridge b).queue, s.effPriority e.port ≠ t.effPriority e.port
    · obtain ⟨e, there, differs⟩ := changed
      exact .inr ⟨e, there, mem_allPorts _, differs⟩
    · have same (e : QueueEntry) (there : e ∈ (s.bridge b).queue) : t.effPriority e.port = s.effPriority e.port := by
        by_contra differs
        exact changed ⟨e, there, fun is => differs is.symm⟩
      refine .inl ((hs.queues trivial b).imp_of_mem fun hx hy falls => ?_)
      unfold State.falls at falls ⊢
      rw [same _ hx, same _ hy]
      exact falls

/-- From rest, every queue is in order once all ports of the unit have been reached. -/
theorem settled_handOverride (h : s.overridden u t) (unstirred : t.unstirred) (range : t.settingsInRange)
    (hs : s.settled True anyone) : (s.handOverride u t).settled True anyone := by
  have records := records_handOverride h { hs with range := nofun, filled := nofun, queues := nofun, top := nofun }
  rw [handOverride_eq h.ports] at records ⊢
  have reached := reaching_foldl h allPorts (reaching_start h unstirred range hs)
  have queues (b : BridgeId) := (reached.queues b).resolve_right fun ⟨_, _, listed, _⟩ => by cases listed
  exact { records with
    range := fun _ => reached.range, filled := fun _ => reached.filled, queues := fun _ => queues, top := nofun }

end

end Sys2Proof.Machine
end

section
/-! SUPPORT. Records and queues over every step: what the link brings acts once, from rest (R72, R74, R76). -/

namespace Sys2Proof.Machine

section
variable {P I : State → Prop}

/-! ## What is kept anyhow is kept beside another property -/

theorem KeptByPieces.beside (k : KeptByPieces P) : KeptByPieces P I where
  same := k.same
  raise s src n h hs _ := k.raise s src n h hs
  handOn s hs _ := k.handOn s hs
  turnLevel s b hs _ := k.turnLevel s b hs
  changeSegment s b hs _ := k.changeSegment s b hs
  burstEnded s b hs _ := k.burstEnded s b hs
  setReceiver s p r h hs _ := k.setReceiver s p r h hs
  cutPlace s b h held last hs _ := k.cutPlace s b h held last hs
  timerCounted s b hs _ := k.timerCounted s b hs
  keyReached s p hs _ := k.keyReached s p hs
  activated s p h hs _ := k.activated s p h hs
  departed s p life h h' hs _ := k.departed s p life h h' hs
  requalified s p hs _ := k.requalified s p hs
  acceptIdent s p u valid hs _ := k.acceptIdent s p u valid hs
  acceptEmerg s p u valid hs _ := k.acceptEmerg s p u valid hs
  acceptEmergClear s p u valid hs _ := k.acceptEmergClear s p u valid hs
  switchPlans s hs _ := k.switchPlans s hs
  latched s run frame hs _ := k.latched s run frame hs
  formSample s f slots run frame within hs _ := k.formSample s f slots run frame within hs
  counted s f cs pres late run frame hs _ := k.counted s f cs pres late run frame hs

theorem KeptByRequests.beside (k : KeptByRequests P) : KeptByRequests P I where
  startLost s p h hs _ := k.startLost s p h hs
  writeSetup s p f new read h hs _ := k.writeSetup s p f new read h hs
  pendSwitch s hs _ := k.pendSwitch s hs
  writeRecord s b f new read nested free hs _ := k.writeRecord s b f new read nested free hs
  copyPlan s hs _ := k.copyPlan s hs
  clearAllBridges s hs _ := k.clearAllBridges s hs
  haltMixer s hs _ := k.haltMixer s hs
  runMixer s halted hs _ := k.runMixer s halted hs
  setupMixer f s hs _ := k.setupMixer f s hs
  monitor mask gains s hs _ := k.monitor mask gains s hs
  moveConsole s carried hs _ := k.moveConsole s carried hs
  purged s hs _ := k.purged s hs
  declared s p h hs _ := k.declared s p h hs
  leaveEmergency s p hs _ := k.leaveEmergency s p hs
  leaveUnit s u hs _ := k.leaveUnit s u hs
  clearFlags s src flags hs _ := k.clearFlags s src flags hs
  writeMask s src mask on h h' hs _ := k.writeMask s src mask on h h' hs
  entered s u agency role o w d valid range room hs _ := k.entered s u agency role o w d valid range room hs
  removed s u w found hs _ := k.removed s u w found hs

theorem KeptButOverrides.and (kI : KeptButOverrides I) (k : KeptButOverrides P I) :
    KeptButOverrides fun s => I s ∧ P s where
  startLost s p h hs _ := ⟨kI.startLost s p h hs.1, k.startLost s p h hs.2 hs.1⟩
  writeSetup s p f new read h hs _ := ⟨kI.writeSetup s p f new read h hs.1, k.writeSetup s p f new read h hs.2 hs.1⟩
  pendSwitch s hs _ := ⟨kI.pendSwitch s hs.1, k.pendSwitch s hs.2 hs.1⟩
  writeRecord s b f new read nested free hs _ := ⟨kI.writeRecord s b f new read nested free hs.1,
    k.writeRecord s b f new read nested free hs.2 hs.1⟩
  copyPlan s hs _ := ⟨kI.copyPlan s hs.1, k.copyPlan s hs.2 hs.1⟩
  clearAllBridges s hs _ := ⟨kI.clearAllBridges s hs.1, k.clearAllBridges s hs.2 hs.1⟩
  haltMixer s hs _ := ⟨kI.haltMixer s hs.1, k.haltMixer s hs.2 hs.1⟩
  runMixer s halted hs _ := ⟨kI.runMixer s halted hs.1, k.runMixer s halted hs.2 hs.1⟩
  setupMixer f s hs _ := ⟨kI.setupMixer f s hs.1, k.setupMixer f s hs.2 hs.1⟩
  monitor mask gains s hs _ := ⟨kI.monitor mask gains s hs.1, k.monitor mask gains s hs.2 hs.1⟩
  moveConsole s carried hs _ := ⟨kI.moveConsole s carried hs.1, k.moveConsole s carried hs.2 hs.1⟩
  purged s hs _ := ⟨kI.purged s hs.1, k.purged s hs.2 hs.1⟩
  declared s p h hs _ := ⟨kI.declared s p h hs.1, k.declared s p h hs.2 hs.1⟩
  leaveEmergency s p hs _ := ⟨kI.leaveEmergency s p hs.1, k.leaveEmergency s p hs.2 hs.1⟩
  leaveUnit s u hs _ := ⟨kI.leaveUnit s u hs.1, k.leaveUnit s u hs.2 hs.1⟩
  clearFlags s src flags hs _ := ⟨kI.clearFlags s src flags hs.1, k.clearFlags s src flags hs.2 hs.1⟩
  writeMask s src mask on h h' hs _ := ⟨kI.writeMask s src mask on h h' hs.1, k.writeMask s src mask on h h' hs.2 hs.1⟩

end

section
variable {s t : State} {c : Instr} {u : UnitId} {p : PortId}

/-! ## What is given of the rest, and the reset -/

theorem grounded_pieces : KeptByPieces State.grounded :=
  KeptByPieces.and keptInPort_engaged.pieces directoryRule_kept.pieces.beside

theorem grounded_requests : KeptByRequests State.grounded :=
  KeptByRequests.and keptInPort_engaged.requests directoryRule_kept.requests.beside

theorem grounded_apart : KeptApart State.grounded := engagementRule_apart.and directoryRule_apart

theorem settled_of_rules (seated : s.seated anyone) (range : s.settingsInRange) (filled : s.freeBridgesEmpty)
    (records : s.holderPriorities) (ordered : s.queuesOrdered) : s.settled True anyone where
  seated := seated
  range _ := range
  filled _ := filled
  records b h held := .inl (records b h held)
  top _ _ := nofun
  queues _ b := (ordered b).imp fun falls => .inr (.inr falls)

theorem settled_reset (wide : Prop) : State.reset.settled wide anyone := by
  have all := settled_of_rules (seated_reset anyone) settingsInRange_reset bridges_at_reset.2.2.2.1 holders_at_reset.1
    holders_at_reset.2.1
  exact { all with
    range := fun _ => all.range trivial, filled := fun _ => all.filled trivial
    queues := fun _ => all.queues trivial, top := fun _ _ => nofun }

theorem settled_apart (wide : Prop) : KeptApart (State.settled wide anyone) where
  link s _ hs := inOrder_of_parts (s := s) (sameSeats_of_ports rfl rfl rfl rfl) (fun range => range) rfl rfl rfl hs
  reset := settled_reset wide

theorem grounded_settled_pieces (wide : Prop) : KeptByPieces fun s => s.grounded ∧ s.settled wide anyone :=
  KeptByPieces.and grounded_pieces (settled_pieces wide)

theorem grounded_settled_apart (wide : Prop) : KeptApart fun s => s.grounded ∧ s.settled wide anyone :=
  grounded_apart.and (settled_apart wide)

/-- Holder records over every step. -/
theorem records_step (h : step s = .next t) (hs : s.grounded ∧ s.settled False anyone) : t.settled False anyone :=
  ((grounded_settled_pieces False).step (KeptByRequests.and grounded_requests records_requests)
    (grounded_settled_apart False) h hs).2

/-! ## What the link brings from rest -/

theorem unstirred_of_parts (ports : t.ports = s.ports) (bridges : t.bridges = s.bridges) (plans : t.plans = s.plans)
    (bids : t.bids = s.bids) (hs : s.unstirred) : t.unstirred := by
  have port (p : PortId) : t.port p = s.port p := port_of_ports ports p
  have keys (p : PortId) : t.demand p = s.demand p ∧ t.overrideKey p = s.overrideKey p := by
    have destination : t.destinationOf p = s.destinationOf p := by
      simp only [State.destinationOf, State.activeRecords, plans]
    have bridge (b : BridgeId) : t.bridge b = s.bridge b := bridge_of_bridges bridges b
    have record (b : BridgeId) : t.record b = s.record b := record_of_plans plans b
    unfold State.demand State.overrideKey
    rw [destination]
    cases s.destinationOf p with
    | none => exact ⟨rfl, rfl⟩
    | some b => dsimp only; rw [bridge, record]; exact ⟨rfl, rfl⟩
  refine ⟨bids.trans hs.bids, fun p silent => ?_, fun p talking => ?_⟩
  · rw [port] at silent
    exact keyAtRest_of_keys (by rw [port]) (by rw [port]) (by rw [port]) (keys p).1 (keys p).2 (hs.silent p silent)
  · rw [port] at talking ⊢
    rw [(keys p).2]
    exact hs.talking p talking

/-- A request from rest keeps records and queues. -/
theorem settled_action {act : Action} (requested : Requested act) (unstirred : s.unstirred)
    (hs : s.grounded ∧ s.settled True anyone) : (act s).1.grounded ∧ (act s).1.settled True anyone := by
  refine (grounded_settled_pieces True).actionButOverrides
    (KeptButOverrides.and grounded_requests.toKeptButOverrides (settled_requests True))
    (fun u agency role o w d valid range room => ?_) (fun u w found => ?_) requested hs
  · exact ⟨grounded_requests.entered s u agency role o w d valid range room hs.1,
      settled_handOverride (overridden_written hs.1.2 valid room) (unstirred_of_parts
        (s := s) rfl rfl rfl rfl unstirred)
        (settingsInRange_kept.written s u agency role o w d valid range room (hs.2.range trivial)) hs.2⟩
  · exact ⟨grounded_requests.removed s u w found hs.1,
      settled_handOverride (overridden_freed hs.1.2 found) (unstirred_of_parts (s := s) rfl rfl rfl rfl unstirred)
        (settingsInRange_kept.freed s u w found (hs.2.range trivial)) hs.2⟩

/-- What the link writes without a request. -/
theorem settled_raise_sent : KeptApart (fun s => s.grounded ∧ s.settled True anyone)
    ∧ (∀ s : State, s.grounded ∧ s.settled True anyone → (s.raise srcDevice flagLinkFrame).grounded
      ∧ (s.raise srcDevice flagLinkFrame).settled True anyone)
    ∧ ∀ (s : State) (src : Source), s.grounded ∧ s.settled True anyone → (s.sendNotice src).grounded
      ∧ (s.sendNotice src).settled True anyone := by
  have k := grounded_settled_pieces True
  have o := grounded_settled_apart True
  refine ⟨o, fun s hs => k.raise s _ _ (by decide) hs, fun s src hs => ?_⟩
  exact o.link _ _ (k.same (s := s) (t := { s with notices := { s.notices with
    marks := s.notices.marks.set src false, started := s.notices.started && src != srcDevice } }) rfl hs)

theorem settled_writes (writes : LinkWrites s t) (unstirred : s.unstirred)
    (hs : s.grounded ∧ s.settled True anyone) : t.grounded ∧ t.settled True anyone := by
  obtain ⟨apart, raised, sent⟩ := settled_raise_sent
  cases writes with
  | link l => exact apart.link s l hs
  | abandoned l l' => exact apart.link _ l' (raised _ (apart.link s l hs))
  | acted l l' act requested =>
    exact apart.link _ l' (settled_action requested (unstirred_of_parts (s := s) rfl rfl rfl rfl unstirred)
      (apart.link s l hs))
  | sent l src => exact sent _ src (apart.link s l hs)

end

end Sys2Proof.Machine
end

section
/-! SUPPORT. The bridges over every step, assembled (R72 to R74, R76). -/

namespace Sys2Proof.Machine

section
variable {s t : State} {c : Instr} {kind : Byte} {pl : List Byte}

/-- What the link takes that is no request. -/
theorem settled_linkTaken {f : State → State} (form : LinkTaken f) (hs : s.grounded ∧ s.settled True anyone) :
    (f s).grounded ∧ (f s).settled True anyone := by
  obtain ⟨apart, raised, sent⟩ := settled_raise_sent
  have abandoned : s.abandonFrame.grounded ∧ s.abandonFrame.settled True anyone :=
    apart.link _ (State.link _) (raised _ (apart.link s _ hs))
  cases form with
  | gap =>
    unfold State.expireGap
    split
    · exact hs
    all_goals exact abandoned
  | reply =>
    unfold State.startReply
    split
    · exact apart.link s _ hs
    · exact hs
  | notice src =>
    unfold State.startNotice
    split
    · exact sent s src hs
    · exact hs
  | transmission =>
    unfold State.endTransmission State.chooseNext
    split
    · split
      · exact apart.link s _ hs
      · split
        · exact sent _ _ (apart.link s _ hs)
        · exact apart.link s _ hs
    · exact hs
  | lineWait on => exact apart.link s _ hs

theorem requestLength_le {n : Nat} (known : requestLength kind = some n) : n ≤ 60 := by
  unfold requestLength at known
  split at known
  iterate 28 next named => cases known; decide
  cases known

theorem length_le_of_wellFormed (frame : requestFrame c = some (kind, pl)) (formed : WellFormed c = true) :
    pl.length ≤ 60 := by
  rcases carriesRequest_of_requestFrame frame with ⟨length, -⟩ | rfl
  · exact requestLength_le length
  · simp only [WellFormed, Bool.and_eq_true, decide_eq_true_eq] at formed
    exact formed.2

/-- A HUNTING receiver that is not ready for a frame takes none of its bytes. -/
theorem foldl_takeLinkByte_of_unready (rx : s.link.rx = .hunting) (unready : s.link.ready = false) (bytes : List Byte) :
    bytes.foldl State.takeLinkByte s = s := by
  have none_taken (b : Byte) : s.takeLinkByte b = s := by
    cases waits : s.link.lineWait with
    | true => exact takeLinkByte_of_lineWait waits b
    | false =>
      rw [takeLinkByte_of_hunting waits rx, if_neg]
      rintro ⟨-, free⟩
      rw [Link.ready_iff.mpr ⟨rx, waits, free⟩] at unready
      cases unready
  induction bytes with
  | nil => rfl
  | cons b bs ih => rw [List.foldl_cons, none_taken, ih]

/-- A whole frame at a HUNTING receiver acts once or not at all. -/
theorem linkWrites_takeFrame (rx : s.link.rx = .hunting) (fits : pl.length ≤ 60) {act : Action}
    (requested : ∀ s, ∃ a, Requested a ∧ act s = a s) : LinkWrites s (s.takeFrame kind pl act) := by
  rcases takeFrame_cases s kind pl act requested with whole | ⟨unready, bytes⟩
  · exact whole
  · rw [decide_eq_true (show pl.length ≤ Config.maxPayload from fits), Bool.and_true] at unready
    rw [bytes, foldl_takeLinkByte_of_unready rx unready]
    exact .refl s

/-- An operation that a command brings from rest, where it writes the link and acts once. -/
theorem settled_operate {f : State → State} (h : operate f s = .next t) (due : s.due = []) (writes : LinkWrites s (f s))
    (unstirred : s.unstirred) (hs : s.grounded ∧ s.settled True anyone) : t.grounded ∧ t.settled True anyone := by
  cases h
  split
  · exact hs
  · rw [settle_of_due_nil due]
    exact settled_writes writes unstirred hs

/-- Records and queues over a command that comes as the statement has it. -/
theorem settled_exec (h : exec c s = .next t) (hs : s.grounded ∧ s.settled True anyone)
    (comes : (requestFrame c = none ∧ ∀ x : Byte, c ≠ .linkByteTaken x)
      ∨ s.quiet ∧ s.due = [] ∧ ((∃ x : Byte, c = .linkByteTaken x) ∨ s.link.rx = .hunting ∧ WellFormed c = true)) :
    t.settled True anyone := by
  refine And.right (a := t.grounded) (((grounded_settled_pieces True).events (grounded_settled_apart True)).exec_of h hs
    (fun form s => settled_linkTaken form) (fun kind pl act frame taken requested => ?_) fun b is => ?_)
  · obtain ⟨none, -⟩ | ⟨quiet, due, ⟨x, rfl⟩ | ⟨rx, formed⟩⟩ := comes
    · rw [none] at frame
      cases frame
    · cases frame
    · rw [taken] at h
      exact settled_operate h due (linkWrites_takeFrame rx (length_le_of_wellFormed frame formed) requested)
        (unstirred_of_quiet quiet hs.1.1) hs
  · subst is
    obtain ⟨-, other⟩ | ⟨quiet, due, -⟩ := comes
    · exact absurd rfl (other b)
    · exact settled_operate (f := fun s => s.takeLinkByte b) h due (linkWrites_takeLinkByte s b)
        (unstirred_of_quiet quiet hs.1.1) hs

end

/-- Settles O58: the records of holders over every step, with what is stale until its port is reached left open; the
queues over the events, and over a request from rest, which sets no engagement going. -/
theorem everyStepKeepsTheBridges : Obligations.EveryStepKeepsTheBridges := by
  intro s t h
  refine ⟨stacksBounded_kept h, freeBridgesEmpty_kept h, fun once held plans rule directory records => ?_⟩
  have seated : s.seated anyone := ⟨plans, once, held, fun _ _ out => absurd trivial out⟩
  have recorded := records_step h ⟨⟨rule, directory⟩, ⟨⟨seated, nofun, nofun, fun b x held => .inl (records b x held),
    nofun⟩, nofun⟩⟩
  refine ⟨fun b x held => (recorded.records b x held).resolve_right nofun, fun filled range bids ordered comes => ?_⟩
  have settled : s.settled True anyone := settled_of_rules seated range filled records ordered
  have after : t.settled True anyone := by
    unfold step at h
    cases pending : s.pending with
    | nil =>
      rw [pending] at h
      cases h
      exact settled
    | cons c rest =>
      rw [pending] at h
      exact settled_exec h ((grounded_settled_pieces True).same (s := s) rfl ⟨⟨rule, directory⟩, settled⟩)
        (comes c rest pending)
  intro b
  refine (after.queues trivial b).imp fun falls => ?_
  exact (falls.resolve_left id).resolve_left id

end Sys2Proof.Machine
end
